-- ==== Sys2Proof/Word.lean ====
section
/-! DEFINITION. The word types of the unit: a byte of the host line, a 16-bit word (a channel set, a CRC-16) and a
32-bit word (a position as a request carries it). -/

namespace Sys2Proof

/-- One byte of the host line. -/
abbrev Byte := BitVec 8

/-- A 16-bit word: a channel set with bit n standing for channel n (section 11.6), or a CRC-16 (R173). -/
abbrev Word16 := BitVec 16

/-- A 32-bit two's complement position as a request carries it (R12). -/
abbrev Word32 := BitVec 32

end Sys2Proof
end

