-- ==== Sys2Proof/Syntax.lean ====
section
/-! DEFINITION. The commands of the unit: one constructor of `Instr` per row of spec/opcode_table.json, with what the
sender of the command brings along. Steps in which a block takes something already handed to it carry only the rail;
requests carry the fields of the request's body beyond its four-byte head (log 4). -/

namespace Sys2Proof

/-- The two rails (introduction, Rails). -/
inductive Rail where
  | left | right
  deriving DecidableEq, Repr

/-- One transition at the odometer's phases (R1): an edge of one phase, rising or falling, with the level of the other
phase at that edge; or both phases changing together. -/
inductive Edge where
  | phase1 (rising otherHigh : Bool)
  | phase2 (rising otherHigh : Bool)
  | bothTogether
  deriving DecidableEq, Repr

/-- What the four lanes of a carriage receive from the firing start on, one amplitude every 10 ns (R40). -/
structure LaneSamples where
  lane0 : List Nat
  lane1 : List Nat
  lane2 : List Nat
  lane3 : List Nat
  deriving DecidableEq, Repr

/-- The fields of SET_TRAVEL (R10). -/
structure TravelFields where
  sense : Nat
  scale : Int
  pitch : Int
  standstill : Int
  deriving DecidableEq, Repr

/-- One level curve point as SET_CHANNEL carries it (R19). -/
structure CurvePointFields where
  time : Int
  level : Int
  deriving DecidableEq, Repr

/-- One flaw gate as SET_CHANNEL carries it (R19). -/
structure GateFields where
  presence : Nat
  mode : Nat
  start : Int
  width : Int
  level : Int
  useCurve : Nat
  positionTolerance : Int
  depthTolerance : Int
  minimumHits : Int
  deriving DecidableEq, Repr

/-- The channel record as SET_CHANNEL carries it (R19, R22). Rail and channel stand in the request's head. -/
structure ChannelFields where
  lane : Nat
  listen : Int
  offset : Int
  kd : Int
  angle : Int
  zero : Int
  interfaceStart : Int
  interfaceWidth : Int
  interfaceLevel : Int
  couplingLevel : Int
  failThreshold : Int
  regainThreshold : Int
  uncoupledMode : Nat
  spacing : Int
  honour : Nat
  closeDistance : Int
  curve : List CurvePointFields
  gate1 : GateFields
  gate2 : GateFields
  gate3 : GateFields
  deriving DecidableEq, Repr

/-- The rail record as SET_RAIL carries it (R25). -/
structure RailFields where
  recovery : Int
  join : Int
  settle : Int
  defaultAction : Nat
  markerEnable : Nat
  gunOffset : Int
  merge : Int
  spray : Int
  deriving DecidableEq, Repr

/-- The five levels of SET_LEVELS (R51). -/
structure LevelFields where
  interface : Int
  coupling : Int
  flaw1 : Int
  flaw2 : Int
  flaw3 : Int
  deriving DecidableEq, Repr

/-- CAL_CHANNEL's flaw gate number, step number and reference depth (R84). -/
structure CalFields where
  gate : Nat
  step : Nat
  depth : Int
  deriving DecidableEq, Repr

/-- One entry of ADD_LANDMARKS (section 7.1). -/
structure LandmarkFields where
  start : Word32
  length : Int
  kind : Nat
  rails : Nat
  blank : Nat
  deriving DecidableEq, Repr

/-- A pattern as SET_PATTERN carries it (R136, R141). -/
structure PatternFields where
  rails : Nat
  considered : Word16
  required : Word16
  depthMin : Int
  depthMax : Int
  condition : Nat
  kind : Nat
  window : Int
  cls : Nat
  action : Nat
  deriving DecidableEq, Repr

/-- SET_PATTERN: the entry index, and the EMPTY marker (`none`) or a pattern (R141). -/
structure SetPatternFields where
  index : Nat
  entry : Option PatternFields
  deriving DecidableEq, Repr

/-- One signal line's route as SET_SIGNALS carries it (R153). -/
structure RouteFields where
  source : Nat
  invert : Nat
  stretch : Int
  deriving DecidableEq, Repr

/-- SET_SIGNALS: the four routes and the speed limit (R153). -/
structure SignalFields where
  line1 : RouteFields
  line2 : RouteFields
  line3 : RouteFields
  line4 : RouteFields
  speedLimit : Int
  deriving DecidableEq, Repr

/-- VERIFY's two echoes (R165). The rail stands in the request's head. -/
structure VerifyFields where
  d1 : Int
  a1 : Int
  d2 : Int
  a2 : Int
  deriving DecidableEq, Repr

/-- All the reporting settings, as SET_REPORTING carries them (R182). -/
structure ReportingFields where
  highWater : Int
  cap : Int
  flushDelay : Int
  statusInterval : Int
  statusOnChange : Nat
  hitLeft : Word16
  hitRight : Word16
  silenceLimit : Int
  deriving DecidableEq, Repr

/-- The commands. A request that carries fields beyond its head brings them as its operand; whether the frame that waits is as
long as the request declares is judged when it is taken (R176, log 4). -/
inductive Instr where
  -- resets (R16, R172)
  | powerOn
  | resetInput
  -- travel unit (chapter 1)
  | encoderCount (edge : Edge)
  | standstillExpiry
  | speedWindowEnd
  -- firing unit (chapter 2)
  | pitchEvent (rail : Rail)
  | groupCompletion (rail : Rail) (lanes : LaneSamples)
  -- echo processor (chapters 3 to 5)
  | completionProcessing (rail : Rail)
  | commitHandover (rail : Rail)
  | echoFlushNotice (rail : Rail)
  | echoDrainNotice (rail : Rail)
  -- tracker (chapter 6)
  | trackerHit (rail : Rail)
  | channelEndNotice (rail : Rail)
  | trackerCompletionNotice (rail : Rail)
  | trackerCommitLeaving (rail : Rail)
  | trackerFlushNotice (rail : Rail)
  | trackerDrainNotice (rail : Rail)
  -- finding assembler (chapter 8)
  | indication (rail : Rail)
  | settleCheck (rail : Rail)
  | assemblerFlushNotice (rail : Rail)
  | assemblerDrainNotice (rail : Rail)
  | railDrained (rail : Rail)
  -- landmark list, marking units, signal router (chapters 7 and 9)
  | frontierRetirement
  | carPositionChange (rail : Rail)
  | markRequest (rail : Rail)
  | sprayEnd (rail : Rail)
  | signalPulse
  | signalLevelChange
  | stretchEnd (line : Fin 4)
  -- operations and the setup store (chapters 5 and 10)
  | calFiringStart
  | calFiringCompletion (samples : List Nat)
  | verifyFiringStart
  | verifyFiringCompletion
  | setupSaveComplete (readBackMatched : Bool)
  -- host line (chapter 11)
  | frameReceived (byte : Byte)
  | frameError (byte : Byte) (stopBit : Bool)
  | interByteTimeout
  | unknownRequest
  | sendReply
  | sendBundle
  | recordOffer
  | bundleFlushExpiry
  | changeHandover
  | statusTimerExpiry
  | silenceExpiry
  -- requests, in the order of their kinds (section 11.6) but for the table's own order
  | identify
  | readStatus
  | setReporting (fields : ReportingFields)
  | setTravel (fields : TravelFields)
  | setPosition (position : Word32)
  | odoCalBegin
  | odoCalEnd (distance : Int)
  | setChannel (fields : ChannelFields)
  | readChannel
  | stagePlan (plan : List (List Nat))
  | readPlan
  | setRail (fields : RailFields)
  | setLevels (fields : LevelFields)
  | snapshot
  | calChannel (fields : CalFields)
  | addLandmarks (entries : List LandmarkFields)
  | clearLandmarks (retention : Int)
  | readLandmarks
  | setPattern (fields : SetPatternFields)
  | readPattern (index : Nat)
  | setSignals (fields : SignalFields)
  | runStart
  | runStop
  | flush
  | restart
  | verify (fields : VerifyFields)
  | setupSave
  | setupReload
  -- the byte grain of the line
  | lineByteReceived (byte : Byte) (stopBit : Bool)
  | frameSendEnd
  deriving DecidableEq, Repr

end Sys2Proof
end

