-- ==== Sys2Proof/Config.lean ====
section
/-! DEFINITION. What the part fixes for every unit (capacities and times of the introduction's table), and the free
values: constants without a body for what the spec leaves open, so that nothing can be proved of them. -/

namespace Sys2Proof.Config

/-- Sample ticks of 10 ns in a microsecond, a millisecond, a second (introduction, Sample time). -/
def ticksPerUs : Nat := 100
def ticksPerMs : Nat := 100000
def ticksPerSecond : Nat := 100000000

/-- The 100 ms speed window (R6). -/
def speedWindowTicks : Nat := 100 * ticksPerMs

/-- Position range (introduction, Position). -/
def positionMin : Int := -2147483648
def positionMax : Int := 2147483647

/-- Accumulator limits (R2). -/
def accumulatorMin : Int := -140737488355328
def accumulatorMax : Int := 140737488355327

/-- Calibration count limits (R14). -/
def calCountMin : Int := -2147483648
def calCountMax : Int := 2147483647

def inputCapacity : Nat := 4
def replyCapacity : Nat := 4
def reportCapacity : Nat := 256
def landmarkCapacity : Nat := 64
def markCapacity : Nat := 16
def contributionCapacity : Nat := 16
def snapshotPoints : Nat := 512
def calibrationFirings : Nat := 16
def counterMax : Nat := 65535

/-- The retention distance at power-on (R114). -/
def defaultRetention : Nat := 30000

/-- Vendor code and part number of IDENTIFY (R183). -/
def vendorCode : Nat := 0x4C4B
def partNumber : Nat := 2412

/-- The capacities of the introduction's table, a row a list, in the order given there (R183). -/
def capacities : List (List Nat) :=
  [[2], [12], [4], [0, 3], [0, 8], [0, 16], [1, 4], [256, 8192], [2, 100, 10], [0, 1], [32], [16], [16]] ++
  [[16], [64], [16], [256], [4], [4], [4], [2], [16, 1], [512], [4, 2040], [2], [400], [100]]

/-- FREE VALUE (log 13): the hardware revision is 1 to 255 and the spec names no value (R183). -/
opaque revisionLess1 : Fin 255

/-- The hardware revision of IDENTIFY, 1 to 255. -/
def hardwareRevision : Nat := revisionLess1.val + 1

/-- FREE VALUES (log 11): what a record's bytes hold for a two-byte amplitude, a two-byte depth, a signature or a
four-byte position that is none. Section 11.6 says it only for times and for one-byte fields. -/
opaque noAmplitudeWord : Word16
opaque noDepthWord : Word16
opaque noSignatureWord : Word16
opaque noPositionWord : Word32

end Sys2Proof.Config
end

