-- ==== Sys2Proof/Machine/Types.lean ====
section
/-! DEFINITION. The data the blocks hold and hand to one another, in the spec's own names: settings, firings, gate
results, traces, findings, landmarks, marks, records, replies. Plain data only. -/

namespace Sys2Proof.Machine

/-- One value for each rail. -/
@[ext]
structure Rails (α : Type) where
  left : α
  right : α
  deriving DecidableEq, Repr

/-- The value of one rail. -/
def Rails.get {α : Type} (p : Rails α) : Rail → α
  | .left => p.left
  | .right => p.right

/-- Replace the value of one rail; the other rail's is untouched. -/
def Rails.set {α : Type} (p : Rails α) (r : Rail) (a : α) : Rails α :=
  match r with
  | .left => { p with left := a }
  | .right => { p with right := a }

/-- A channel of a rail, 0 to 11. -/
abbrev Channel := Fin 12

/-- A flaw gate, held as its number less one: 0 to 2 for gates 1 to 3. -/
abbrev Gate := Fin 3

/-- A receiver lane, 0 to 3. -/
abbrev Lane := Fin 4

/-- A signal line, held as its number less one. -/
abbrev SignalLine := Fin 4

/-! ### Settings -/

inductive DirectionSense where
  | normal | swapped
  deriving DecidableEq, Repr

/-- The four travel settings (section 1.4). -/
structure TravelSettings where
  sense : DirectionSense
  scale : Nat
  pitch : Nat
  standstill : Nat
  deriving DecidableEq, Repr

inductive GateMode where
  | peak | first | absent
  deriving DecidableEq, Repr

inductive UncoupledMode where
  | hold | pass
  deriving DecidableEq, Repr

/-- A point of the level curve (R46). -/
structure CurvePoint where
  time : Nat
  level : Nat
  deriving DecidableEq, Repr

/-- A PRESENT flaw gate (R19, R44). -/
structure FlawGate where
  mode : GateMode
  start : Nat
  width : Nat
  level : Nat
  useCurve : Bool
  positionTolerance : Nat
  depthTolerance : Nat
  minimumHits : Nat
  deriving DecidableEq, Repr

/-- A channel record (R19). A gate whose presence is NONE is `none`: its fields are not kept. -/
structure ChannelRecord where
  lane : Lane
  listen : Nat
  offset : Int
  kd : Nat
  angle : Int
  zero : Int
  interfaceStart : Nat
  interfaceWidth : Nat
  interfaceLevel : Nat
  couplingLevel : Nat
  failThreshold : Nat
  regainThreshold : Nat
  uncoupledMode : UncoupledMode
  spacing : Nat
  honour : Bool
  closeDistance : Nat
  curve : List CurvePoint
  gates : Vector (Option FlawGate) 3
  deriving DecidableEq, Repr

/-- What a rail's default action may be (section 2.3). -/
inductive ReportAction where
  | report | reportAndMark
  deriving DecidableEq, Repr

/-- A rail record (section 2.3). -/
structure RailSettings where
  recovery : Nat
  join : Nat
  settle : Nat
  defaultAction : ReportAction
  markerEnable : Bool
  gunOffset : Nat
  merge : Nat
  spray : Nat
  deriving DecidableEq, Repr

/-- A group: one to four channels of one rail, in order (R27). -/
abbrev Group := List Channel

/-- A plan: an ordered list of groups (R27). -/
abbrev Plan := List Group

inductive LandmarkKind where
  | weld | joint | switch | crossing | other
  deriving DecidableEq, Repr

/-- The rails an entry applies to (section 7.1, R136). -/
inductive AppliesTo where
  | left | right | both
  deriving DecidableEq, Repr

/-- A pattern's landmark condition with the kind and window it uses (R136); NONE keeps neither (R141). -/
inductive LandmarkCondition where
  | unconditional
  | near (kind : LandmarkKind) (window : Nat)
  | notNear (kind : LandmarkKind) (window : Nat)
  deriving DecidableEq, Repr

/-- The action a pattern gives (R136). -/
inductive PatternAction where
  | act (action : ReportAction)
  | suppress
  deriving DecidableEq, Repr

/-- A pattern (R136). -/
structure Pattern where
  rails : AppliesTo
  considered : Word16
  required : Word16
  depthMin : Nat
  depthMax : Nat
  condition : LandmarkCondition
  cls : Nat
  action : PatternAction
  deriving DecidableEq, Repr

/-- Signal line sources: the level sources of R154, then the pulse sources of R155. -/
inductive Source where
  | off | on | uncoupledLeft | uncoupledRight | allCoupled | sprayLeft | sprayRight | overspeed | hostSilent | running
  | findingLeft | findingRight | findingAny | skip
  deriving DecidableEq, Repr

/-- A line's route (section 9.6). -/
structure Route where
  source : Source
  invert : Bool
  stretch : Nat
  deriving DecidableEq, Repr

/-- The four routes and the speed limit (section 9.6). -/
structure SignalSettings where
  routes : Vector Route 4
  speedLimit : Nat
  deriving DecidableEq, Repr

/-- The reporting settings (section 11.5). -/
structure ReportingSettings where
  highWater : Nat
  cap : Nat
  flushDelay : Nat
  statusInterval : Nat
  statusOnChange : Bool
  hitStream : Rails Word16
  silenceLimit : Nat
  deriving DecidableEq, Repr

/-- The setup: every stored setting, exactly what the stored image holds (R168). -/
@[ext]
structure Setup where
  travel : TravelSettings
  rails : Rails RailSettings
  channels : Rails (Vector ChannelRecord 12)
  plans : Rails Plan
  patterns : Vector (Option Pattern) 16
  signals : SignalSettings
  reporting : ReportingSettings
  deriving DecidableEq, Repr

/-! ### Travel -/

inductive Motion where
  | forward | reverse | standstill
  deriving DecidableEq, Repr

/-- The travel unit's values (chapter 1). The car position is derived from the accumulator (R3). The standstill measure
is the clock less `lastCount`; `none` says that it does not run (R5). -/
@[ext]
structure Travel where
  accumulator : Int
  frontier : Int
  boundary : Int
  motion : Motion
  lastCount : Option Nat
  speed : Nat
  speedReference : Int
  windowEnd : Nat
  calOpen : Bool
  calCount : Int
  deriving DecidableEq, Repr

/-! ### Firing -/

/-- A channel of a group in flight with its record fixed at the start (R31, R40). -/
structure FiredChannel where
  channel : Channel
  record : ChannelRecord
  deriving DecidableEq, Repr

/-- The group in flight (section 2.4). `void` holds the channels that a commit has removed or brought in since the group started:
this firing of them gives no result (R35, R36, log 32). -/
structure Flight where
  channels : List FiredChannel
  position : Int
  endTime : Nat
  void : List Channel
  deriving DecidableEq, Repr

/-- A pitch request: a group with its firing position (R30). -/
structure PitchRequest where
  group : Group
  position : Int
  deriving DecidableEq, Repr

inductive TimeMode where
  | off | calibrate | verify
  deriving DecidableEq, Repr

/-- The setting of a test echo generator: two echoes (R165, R166). -/
structure TestEcho where
  d1 : Nat
  a1 : Nat
  d2 : Nat
  a2 : Nat
  deriving DecidableEq, Repr

/-- A time-triggered firing in flight (R38). -/
structure OperationFlight where
  fired : FiredChannel
  position : Int
  endTime : Nat
  deriving DecidableEq, Repr

/-- A firing unit (section 2.4). The active plan is a setting and stands in the setup. -/
@[ext]
structure FiringUnit where
  staged : Option Plan
  pointer : Nat
  flight : Option Flight
  held : Option PitchRequest
  skipped : Nat
  mode : TimeMode
  generators : Vector (Option TestEcho) 4
  operationFlight : Option OperationFlight
  /-- Pitch events handed over and not yet taken (R9). -/
  pitchEvents : List Int
  deriving DecidableEq, Repr

/-! ### Gates, coupling and coverage -/

/-- A hit of a flaw gate: a time from the interface time, and an amplitude (R50). -/
structure Hit where
  time : Nat
  amplitude : Nat
  deriving DecidableEq, Repr

/-- The outcomes of a flaw gate (R50). The rule says five and lists four: the model has the four it lists (log 33). -/
inductive GateOutcome where
  | absentGate
  | notEvaluated
  | noHit
  | hit (h : Hit)
  deriving DecidableEq, Repr

/-- The gate result of one channel in one firing (R50): the interface time with its amplitude, the coupling verdict,
the three outcomes. -/
structure GateResult where
  interface : Option Hit
  pass : Bool
  outcomes : Vector GateOutcome 3
  deriving DecidableEq, Repr

inductive CouplingState where
  | inactive | unknown | coupled | uncoupled
  deriving DecidableEq, Repr

/-- The causes of an untested stretch (section 4.4). -/
structure Causes where
  coupling : Bool
  blanked : Bool
  spacing : Bool
  deriving DecidableEq, Repr

/-- An open untested stretch (section 4.4). -/
structure Stretch where
  start : Int
  causes : Causes
  cut : Bool
  deriving DecidableEq, Repr

/-- What the coverage step holds for one channel (table at the head of chapter 4), with the probe position of the last
firing processed, at which a cut stretch ends (R71, R72). -/
structure Cover where
  coupling : CouplingState
  failCount : Nat
  passCount : Nat
  firstFail : Option Int
  previous : Option Int
  lastProbe : Option Int
  stretch : Option Stretch
  deriving DecidableEq, Repr

/-- The pending snapshot of a rail (section 3.5). -/
inductive PendingSnapshot where
  | idle
  | waiting (channel : Channel)
  | bound (channel : Channel) (position : Int)
  deriving DecidableEq, Repr

/-- A channel of a completed firing with its sample sequence (R33). A void firing gives no result (R35, R36, log 32). -/
structure CompletedChannel where
  channel : Channel
  record : ChannelRecord
  samples : List Nat
  void : Bool
  deriving DecidableEq, Repr

/-- What the firing unit and the run controller hand to the echo processor (R33, R34, R37, R162). -/
inductive EchoItem where
  | completion (position : Int) (group : Group) (channels : List CompletedChannel)
  | commit (leaving joining : List Channel)
  | flush
  | drain
  deriving DecidableEq, Repr

/-- An echo processor (chapters 3 to 5). The channel records are settings and stand in the setup. -/
@[ext]
structure EchoProcessor where
  cover : Vector Cover 12
  snapshot : PendingSnapshot
  inbox : List EchoItem
  deriving DecidableEq, Repr

/-! ### Traces -/

/-- A kept hit as the tracker takes it (R81). -/
structure KeptHit where
  channel : Channel
  gate : Gate
  position : Int
  reflector : Int
  depth : Nat
  amplitude : Nat
  uncoupled : Bool
  deriving DecidableEq, Repr

/-- A peak: an amplitude with the Pr and D of the hit that gave it (R94). -/
structure Peak where
  amplitude : Nat
  reflector : Int
  depth : Nat
  deriving DecidableEq, Repr

/-- The trace of an OPEN slot (R94). -/
structure Trace where
  channel : Channel
  gate : Gate
  lastPr : Int
  minPr : Int
  maxPr : Int
  lastD : Nat
  minD : Nat
  maxD : Nat
  peak : Peak
  hits : Nat
  lastHitPosition : Int
  uncoupled : Bool
  deriving DecidableEq, Repr

/-- What the echo processor hands to the tracker (R96). -/
inductive TrackerItem where
  | hit (h : KeptHit)
  | channelEnd (channel : Channel) (position : Int)
  | completion (position : Int)
  | leaving (channels : List Channel)
  | flush
  | drain
  deriving DecidableEq, Repr

/-- A tracker (chapter 6). -/
@[ext]
structure Tracker where
  slots : Vector (Option Trace) 32
  overflow : Nat
  noise : Nat
  inbox : List TrackerItem
  deriving DecidableEq, Repr

/-! ### Findings -/

/-- The fields an indication hands on (R105) and the share of one channel and gate in a finding (R126): both hold
the same fields. -/
structure Contribution where
  channel : Channel
  gate : Gate
  minPr : Int
  maxPr : Int
  minD : Nat
  maxD : Nat
  peak : Peak
  hits : Nat
  uncoupled : Bool
  deriving DecidableEq, Repr

/-- An open finding (R125). -/
structure Finding where
  start : Int
  finish : Int
  depthMin : Nat
  depthMax : Nat
  contributions : List Contribution
  truncated : Bool
  uncoupled : Bool
  deriving DecidableEq, Repr

/-- What the tracker hands to the finding assembler (R127). -/
inductive AssemblerItem where
  | indication (i : Contribution)
  | completion (position : Int)
  | flush
  | drain
  deriving DecidableEq, Repr

/-- A finding assembler (chapter 8). -/
@[ext]
structure Assembler where
  slots : Vector (Option Finding) 16
  number : Nat
  inbox : List AssemblerItem
  deriving DecidableEq, Repr

inductive ClosedBy where
  | settle | forced | flush | drain
  deriving DecidableEq, Repr

/-! ### Landmarks -/

/-- An entry of the landmark list (section 7.1). -/
structure Landmark where
  start : Int
  length : Nat
  kind : LandmarkKind
  rails : AppliesTo
  blank : Bool
  deriving DecidableEq, Repr

/-- The landmark list (R114) with the frontier changes not yet taken (R9). -/
@[ext]
structure LandmarkList where
  entries : List Landmark
  retention : Nat
  frontiers : List Int
  deriving DecidableEq, Repr

/-- What can befall the landmark list between two proximity queries of one step (R122): a retirement, an ADD_LANDMARKS or a
CLEAR_LANDMARKS, each the step of its own command. -/
inductive LandmarkStep where
  | retirement
  | add (entries : List LandmarkFields)
  | clear (retention : Int)
  deriving DecidableEq, Repr

/-! ### Marking -/

/-- A queued mark (section 9.1). -/
structure Mark where
  target : Int
  finding : Nat
  merged : Nat
  deriving DecidableEq, Repr

/-- A mark request (R139). -/
structure MarkRequest where
  finding : Nat
  target : Int
  deriving DecidableEq, Repr

/-- A change of car position with the motion that came with it (R145). -/
structure Move where
  position : Int
  motion : Motion
  deriving DecidableEq, Repr

/-- A marking unit (section 9.1). The gun is SPRAYING exactly while `sprayEnd` holds a time; `motion` is the motion state as the
travel unit last handed it over (R9). -/
@[ext]
structure MarkingUnit where
  gun : Int
  motion : Motion
  queue : List Mark
  sprayEnd : Option Nat
  moves : List Move
  requests : List MarkRequest
  deriving DecidableEq, Repr

/-! ### Signal lines -/

inductive RunState where
  | stopped | running | draining | calibrating | verifying
  deriving DecidableEq, Repr

/-- A state handover to the signal router (R154). -/
inductive LevelHandover where
  | coupling (rail : Rail) (channel : Channel) (state : CouplingState)
  | gun (rail : Rail) (spraying : Bool)
  | speed (speed : Nat)
  | silence (set : Bool)
  | runState (state : RunState)
  deriving DecidableEq, Repr

/-- A pulse to the signal router (R155). -/
inductive Pulse where
  | finding (rail : Rail)
  | skip
  deriving DecidableEq, Repr

/-- What the owners last handed to the router (R154). -/
structure RouterView where
  coupling : Rails (Vector CouplingState 12)
  spraying : Rails Bool
  speed : Nat
  silence : Bool
  runState : RunState
  deriving DecidableEq, Repr

/-- The signal router (section 9.6). The routes are settings and stand in the setup. -/
@[ext]
structure Router where
  view : RouterView
  stretchEnd : Vector (Option Nat) 4
  pulses : List Pulse
  levels : List LevelHandover
  deriving DecidableEq, Repr

/-! ### Operations -/

/-- A calibration step in flight (section 5.5). -/
structure CalStep where
  rail : Rail
  channel : Channel
  gate : Gate
  second : Bool
  depth : Nat
  done : Nat
  best : Option Hit
  deriving DecidableEq, Repr

/-- One entry of a verification result (R167). -/
structure VerifyEntry where
  channel : Channel
  interface : Option Nat
  hits : Vector (Option Hit) 3
  deriving DecidableEq, Repr

/-- A verification in flight (R165). -/
structure Verification where
  rail : Rail
  echo : TestEcho
  order : List Channel
  results : List VerifyEntry
  deriving DecidableEq, Repr

inductive Operation where
  | calibration (c : CalStep)
  | verification (v : Verification)
  deriving DecidableEq, Repr

/-- The pending first calibration point (section 5.5). -/
structure CalPoint where
  rail : Rail
  channel : Channel
  gate : Gate
  depth : Nat
  time : Nat
  deriving DecidableEq, Repr

inductive SetupSource where
  | stored | default
  deriving DecidableEq, Repr

/-- The run controller (table at the head of chapter 10). The store is WRITING exactly while `writing` holds the image
being written; `image` is the valid image of the store, or `none` where it holds no valid image (R168). -/
@[ext]
structure RunControl where
  state : RunState
  drained : Rails Bool
  operation : Option Operation
  nextFiring : Nat
  pendingPoint : Option CalPoint
  image : Option Setup
  writing : Option Setup
  source : SetupSource
  suppressed : Nat
  /-- Drain notices handed over and not yet taken (R135). -/
  drainNotices : Rails Bool
  deriving DecidableEq, Repr

/-! ### Records -/

inductive StatusCause where
  | periodic | change | request
  deriving DecidableEq, Repr

/-- The STATUS change set (R180): a mark a kind of change and a mark a channel. -/
structure ChangeSet where
  runState : Bool
  motion : Bool
  silence : Bool
  loss : Bool
  coupling : Rails Word16
  deriving DecidableEq, Repr

/-- A change handed to the line interface (R180). -/
inductive Change where
  | runState
  | motion
  | coupling (rail : Rail) (channel : Channel)
  | silence
  | loss
  deriving DecidableEq, Repr

structure HitRecord where
  rail : Rail
  channel : Channel
  gate : Gate
  position : Int
  reflector : Int
  depth : Nat
  amplitude : Nat
  uncoupled : Bool
  depthClamped : Bool
  deriving DecidableEq, Repr

/-- A SNAPSHOT record, CAPTURED (R56) or CANCELLED (R57). -/
inductive SnapshotRecord where
  | captured (rail : Rail) (channel : Channel) (position : Int) (listen : Nat) (interface : Option Nat) (block : Nat)
      (points : List Nat)
  | cancelled (rail : Rail) (channel : Channel)
  deriving DecidableEq, Repr

/-- A FINDING record (R140). -/
structure FindingRecord where
  rail : Rail
  number : Nat
  cls : Nat
  pattern : Option (Fin 16)
  action : ReportAction
  markRequested : Bool
  closedBy : ClosedBy
  finding : Finding
  peakDepth : Nat
  deriving DecidableEq, Repr

/-- An UNTESTED record (R70). -/
structure UntestedRecord where
  rail : Rail
  channel : Channel
  start : Int
  finish : Int
  causes : Causes
  cut : Bool
  deriving DecidableEq, Repr

inductive MarkOutcome where
  | queued | late | merged | full | fired | discarded
  deriving DecidableEq, Repr

/-- A MARK record (R152). -/
structure MarkRecord where
  rail : Rail
  outcome : MarkOutcome
  finding : Nat
  target : Int
  absorbing : Option MarkRequest
  mergedCount : Nat
  gun : Option Int
  occupancy : Nat
  deriving DecidableEq, Repr

inductive CalResult where
  | step1Done | noEcho | done | order | range | aborted
  deriving DecidableEq, Repr

/-- A CAL_RESULT record (R90). -/
structure CalRecord where
  rail : Rail
  channel : Channel
  gate : Gate
  second : Bool
  result : CalResult
  depth : Nat
  measured : Option Hit
  done : Nat
  firstPoint : Option (Nat × Nat)
  kd : Nat
  zero : Int
  ka : Int
  deriving DecidableEq, Repr

/-- A VERIFY_RESULT record (R167); `signature` is `none` for ABORTED. -/
structure VerifyRecord where
  rail : Rail
  echo : TestEcho
  entries : List VerifyEntry
  signature : Option Word16
  deriving DecidableEq, Repr

/-- The STATUS fields (section 11.6). -/
structure StatusRecord where
  cause : StatusCause
  runState : RunState
  writing : Bool
  source : SetupSource
  motion : Motion
  loss : Bool
  silence : Bool
  carPosition : Int
  frontier : Int
  speed : Nat
  coupling : Rails (Vector CouplingState 12)
  changes : ChangeSet
  occupancy : Nat
  skipped : Rails Nat
  overflow : Rails Nat
  noise : Rails Nat
  suppressed : Nat
  frameErrors : Nat
  overruns : Nat
  dropped : Nat
  lost : Nat
  deriving DecidableEq, Repr

/-- The nine kinds of record, in the order of their numbers (section 11.6). -/
inductive Record where
  | hit (r : HitRecord)
  | snapshot (r : SnapshotRecord)
  | finding (r : FindingRecord)
  | untested (r : UntestedRecord)
  | mark (r : MarkRecord)
  | calResult (r : CalRecord)
  | verifyResult (r : VerifyRecord)
  | setupResult (done : Bool)
  | status (r : StatusRecord)
  deriving DecidableEq, Repr

/-- What the blocks hand to the line interface, in the order handed over (R178, R180). The HIT record of a kept hit stands here
until its turn to be offered comes, when the hit-stream set decides whether it is (R83, log 34). -/
inductive LineItem where
  | offer (r : Record)
  | change (c : Change)
  deriving DecidableEq, Repr

/-! ### The host line -/

/-- A frame's body as the receiver gathered it: 4 to 2040 bytes (R173). -/
structure Frame where
  body : List Byte
  deriving DecidableEq, Repr

/-- The frame receiver with the bytes gathered (R174). -/
inductive Receiver where
  | hunt
  | sync
  | length (high : Option Byte)
  | body (high low : Byte) (got : List Byte)
  | check (high low : Byte) (body : List Byte) (crcHigh : Option Byte)
  deriving DecidableEq, Repr

/-- The reply codes, in the order of their numbers 0 to 11 (introduction, R176). -/
inductive ReplyCode where
  | ok | clamped | busy | state | range | conflict | order | full | duplicate | invalid | unknown | length
  deriving DecidableEq, Repr

/-- What a reply carries beyond its head, in the owning rule's own fields; a record or a pattern in the form the request brings
it, so that what is not kept shows as the rules say (R24, R141). -/
inductive ReplyPayload where
  | headOnly
  | identity (vendor part revision : Nat) (source : SetupSource) (capacities : List (List Nat))
  | status (r : StatusRecord)
  | reporting (r : ReportingSettings)
  | travel (t : TravelSettings)
  | calibration (count : Nat) (scale : Nat) (distance : Nat)
  | channel (fields : ChannelFields) (ka : Int)
  | plan (active : Plan) (staged : Option Plan) (pointer : Nat) (firing : Bool)
  | railRecord (r : RailSettings)
  | levels (interface coupling : Nat) (flaw : Vector Nat 3)
  | calDepth (depth : Nat)
  | landmarkCount (count : Nat)
  | landmarksAdded (count : Nat) (entries : List Landmark)
  | retention (distance : Nat)
  | landmarks (retention : Nat) (entries : List Landmark)
  | pattern (entry : Option PatternFields)
  | signals (s : SignalSettings)
  | verification (rail : Rail) (e : TestEcho)
  deriving DecidableEq, Repr

/-- A reply frame: kind and tag echoed, reply code, failing index or 0, and what the owning rule has it carry (R176). -/
structure Reply where
  kind : Byte
  tag : Byte
  code : ReplyCode
  index : Nat
  payload : ReplyPayload
  deriving DecidableEq, Repr

/-- The frame in progress on the outgoing line (R177). -/
inductive Outgoing where
  | reply (r : Reply)
  | bundle (tag : Byte) (records : List Record)
  deriving DecidableEq, Repr

inductive BundleState where
  | empty | open | ready
  deriving DecidableEq, Repr

/-- The bundle (R179): it holds the first `held` records of the report queue. -/
structure Bundle where
  state : BundleState
  held : Nat
  flushEnd : Option Nat
  deriving DecidableEq, Repr

/-- The line interface (table at the head of chapter 11). The reporting settings stand in the setup. -/
@[ext]
structure Line where
  receiver : Receiver
  input : List Frame
  replies : List Reply
  sending : Option Outgoing
  queue : List Record
  bundle : Bundle
  tag : Byte
  changes : ChangeSet
  statusEnd : Option Nat
  silenceEnd : Option Nat
  silence : Bool
  frameErrors : Nat
  overruns : Nat
  dropped : Nat
  lost : Nat
  loss : Bool
  inbox : List LineItem
  deriving DecidableEq, Repr

end Sys2Proof.Machine
end

