-- ==== Sys2Proof/Machine/Defaults.lean ====
section
/-! DEFINITION. The default of every setting (R172) and the value each block takes at power-on, once the setup has been
loaded (R16, R39, R58, R73, R111, R124, R144, R151, R157, R172, R184). -/

namespace Sys2Proof.Machine

/-! ### Default settings (R172) -/

def TravelSettings.defaults : TravelSettings := { sense := .normal, scale := 224460, pitch := 30, standstill := 500 }

/-- The default fields of a flaw gate (R19). -/
def FlawGate.defaults : FlawGate :=
  { mode := .peak, start := 16, width := 512, level := 1000, useCurve := false, positionTolerance := 30,
    depthTolerance := 30, minimumHits := 3 }

/-- The lane that stands for channel number mod 4 (R19). -/
def Channel.defaultLane (ch : Channel) : Lane := ⟨ch.val % 4, Nat.mod_lt _ (by decide)⟩

/-- The default record of a channel (R19). -/
def ChannelRecord.defaults (ch : Channel) : ChannelRecord :=
  { lane := ch.defaultLane, listen := 1024, offset := 0, kd := 19399, angle := 0, zero := 0, interfaceStart := 0,
    interfaceWidth := 256, interfaceLevel := 400, couplingLevel := 800, failThreshold := 4, regainThreshold := 2,
    uncoupledMode := .hold, spacing := 100, honour := false, closeDistance := 500, curve := [],
    gates := #v[some FlawGate.defaults, none, none] }

/-- The default rail record (section 2.3). -/
def RailSettings.defaults : RailSettings :=
  { recovery := 10, join := 100, settle := 20000, defaultAction := .report, markerEnable := true, gunOffset := 40000,
    merge := 200, spray := 60 }

def Route.defaults : Route := { source := .off, invert := false, stretch := 100 }

def SignalSettings.defaults : SignalSettings := { routes := Vector.replicate 4 Route.defaults, speedLimit := 800 }

/-- The default reporting settings (section 11.5). -/
def ReportingSettings.defaults : ReportingSettings :=
  { highWater := 192, cap := 1024, flushDelay := 5, statusInterval := 1000, statusOnChange := false,
    hitStream := ⟨0, 0⟩, silenceLimit := 0 }

/-- Every setting at its default (R172). -/
def Setup.defaults : Setup :=
  { travel := .defaults, rails := ⟨.defaults, .defaults⟩,
    channels := ⟨Vector.ofFn ChannelRecord.defaults, Vector.ofFn ChannelRecord.defaults⟩,
    plans := ⟨[], []⟩, patterns := Vector.replicate 16 none, signals := .defaults, reporting := .defaults }

/-! ### In plan -/

/-- A channel is in plan when it appears in some group of the plan (R27). -/
def Plan.has (p : Plan) (ch : Channel) : Bool := p.any (fun g => g.contains ch)

/-! ### Power-on values of the blocks -/

/-- The travel unit at power-on (R16); B follows the pitch loaded. -/
def Travel.powerOn (pitch : Nat) (now : Nat) : Travel :=
  { accumulator := 0, frontier := 0, boundary := pitch, motion := .standstill, lastCount := none, speed := 0,
    speedReference := 0, windowEnd := now + Config.speedWindowTicks, calOpen := false, calCount := 0 }

/-- A firing unit at power-on (section 2.4). -/
def FiringUnit.powerOn : FiringUnit :=
  { staged := none, pointer := 0, flight := none, held := none, skipped := 0, mode := .off,
    generators := Vector.replicate 4 none, operationFlight := none, pitchEvents := [] }

/-- A channel's coverage with nothing remembered, in the state its place in the plan gives (R60, R73). -/
def Cover.fresh (inPlan : Bool) : Cover :=
  { coupling := if inPlan then .unknown else .inactive, failCount := 0, passCount := 0, firstFail := none,
    previous := none, lastProbe := none, stretch := none }

/-- An echo processor at power-on (R58, R73). -/
def EchoProcessor.powerOn (plan : Plan) : EchoProcessor :=
  { cover := Vector.ofFn (fun ch => Cover.fresh (plan.has ch)), snapshot := .idle, inbox := [] }

/-- A tracker at power-on (R111). -/
def Tracker.powerOn : Tracker := { slots := Vector.replicate 32 none, overflow := 0, noise := 0, inbox := [] }

/-- A finding assembler at power-on (R144). -/
def Assembler.powerOn : Assembler := { slots := Vector.replicate 16 none, number := 0, inbox := [] }

/-- The landmark list at power-on (R114, R124). -/
def LandmarkList.powerOn : LandmarkList := { entries := [], retention := Config.defaultRetention, frontiers := [] }

/-- A marking unit at power-on (R151): the gun stands at 0 less the gun offset loaded. -/
def MarkingUnit.powerOn (gunOffset : Nat) : MarkingUnit :=
  { gun := -(gunOffset : Int), motion := .standstill, queue := [], sprayEnd := none, moves := [], requests := [] }

/-- The coupling state a plan gives every channel at power-on (R73). -/
def Plan.couplingStates (p : Plan) : Vector CouplingState 12 := Vector.ofFn (fun ch => (Cover.fresh (p.has ch)).coupling)

/-- The signal router at power-on (R157): the states the other blocks hold after power-on. -/
def Router.powerOn (plans : Rails Plan) : Router :=
  { view :=
      { coupling := ⟨Plan.couplingStates plans.left, Plan.couplingStates plans.right⟩, spraying := ⟨false, false⟩,
        speed := 0, silence := false, runState := .stopped },
    stretchEnd := Vector.replicate 4 none, pulses := [], levels := [] }

/-- The run controller at power-on (table of chapter 10), with the store's image as the memory holds it (R172). -/
def RunControl.powerOn (image : Option Setup) : RunControl :=
  { state := .stopped, drained := ⟨false, false⟩, operation := none, nextFiring := 0, pendingPoint := none,
    image := image, writing := none, source := if image.isSome then .stored else .default, suppressed := 0,
    drainNotices := ⟨false, false⟩ }

def ChangeSet.empty : ChangeSet :=
  { runState := false, motion := false, silence := false, loss := false, coupling := ⟨0, 0⟩ }

def Bundle.initial : Bundle := { state := .empty, held := 0, flushEnd := none }

/-- When a timer of `interval` units that starts now ends; an interval of 0 stops the timer (R180, R181). -/
def timerFrom (now interval unit : Nat) : Option Nat := if interval = 0 then none else some (now + interval * unit)

/-- The line interface at power-on (table of chapter 11, R184): both timers start once the setup is loaded. The spec gives no value
for a frame in progress on the outgoing line; that it is dropped is the model's choice (log 44). -/
def Line.powerOn (r : ReportingSettings) (now : Nat) : Line :=
  { receiver := .hunt, input := [], replies := [], sending := none, queue := [], bundle := Bundle.initial, tag := 0,
    changes := ChangeSet.empty, statusEnd := timerFrom now r.statusInterval Config.ticksPerMs,
    silenceEnd := timerFrom now r.silenceLimit Config.ticksPerSecond, silence := false, frameErrors := 0, overruns := 0,
    dropped := 0, lost := 0, loss := false, inbox := [] }

end Sys2Proof.Machine
end

