-- ==== Sys2Proof/Machine/State.lean ====
section
/-! DEFINITION. The state of the unit, the reasons a step can stop, and the state right after reset. -/

namespace Sys2Proof.Machine

/-- The state: the queue of commands that wait, what waits to befall the landmark list right before each of the proximity queries
to come (log 38), the model's clock in 10 ns ticks (log 3), the settings in force, and what each block holds. -/
@[ext]
structure State where
  pending : List Instr
  between : List (List LandmarkStep)
  now : Nat
  setup : Setup
  travel : Travel
  firing : Rails FiringUnit
  echo : Rails EchoProcessor
  tracker : Rails Tracker
  assembler : Rails Assembler
  landmarks : LandmarkList
  marking : Rails MarkingUnit
  router : Router
  run : RunControl
  line : Line
  deriving DecidableEq, Repr

/-- No command stops the unit: the spec discards, counts or answers with a reply code wherever something is wrong
(R102, R174, R176, R178). The type has no constructor. -/
inductive Fault where
  deriving DecidableEq, Repr

/-- Refusals. -/
inductive Refusal where
  /-- Raised by an arm of `exec` whose command has no meaning yet. Safe: the step stops. No arm raises it now. -/
  | notModelled (mnemonic : String)
  deriving DecidableEq, Repr

/-- What one step answers. -/
abbrev Outcome := Host.Outcome State Fault Refusal

/-- The unit after power-on with this store image, at this clock: the setup from the valid image or the defaults, then
what follows from the setup (R172). -/
def State.powered (image : Option Setup) (now : Nat) (pending : List Instr) (between : List (List LandmarkStep)) : State :=
  let setup := image.getD Setup.defaults
  { pending := pending, between := between, now := now, setup := setup, travel := .powerOn setup.travel.pitch now,
    firing := ⟨.powerOn, .powerOn⟩, echo := ⟨.powerOn setup.plans.left, .powerOn setup.plans.right⟩,
    tracker := ⟨.powerOn, .powerOn⟩, assembler := ⟨.powerOn, .powerOn⟩, landmarks := .powerOn,
    marking := ⟨.powerOn setup.rails.left.gunOffset, .powerOn setup.rails.right.gunOffset⟩,
    router := .powerOn setup.plans, run := .powerOn image, line := .powerOn setup.reporting now }

/-- The unit right after reset. The store holds no valid image (DESIGN CHOICE, log 6), so every setting has its
default. -/
def State.reset : State := State.powered none 0 [] []

end Sys2Proof.Machine
end

