-- ==== Sys2Proof/Machine/Arith.lean ====
section
/-! DEFINITION. The arithmetic the rules share: limits, saturating counters, rounding, and the update of one entry of a
fixed table. -/

namespace Sys2Proof.Machine

/-- Bring a value to the nearest limit of its range (introduction, Refuse or clamp). -/
def clampInt (lo hi v : Int) : Int := max lo (min hi v)

/-- As `clampInt`, for a range of numbers that are not negative. -/
def clampNat (lo hi : Nat) (v : Int) : Nat := (clampInt lo hi v).toNat

/-- A value lies within its range, so that clamping leaves it as it is. -/
def within (lo hi v : Int) : Bool := decide (lo ≤ v) && decide (v ≤ hi)

/-- Hold a sum within the position range (R80). -/
def holdPosition (p : Int) : Int := clampInt Config.positionMin Config.positionMax p

/-- Raise a counter by one, up to its greatest value, where it stays (introduction, Counters; R61; R147). -/
def raise (greatest c : Nat) : Nat := if c < greatest then c + 1 else c

/-- Raise a 16-bit diagnostic counter. -/
def raiseCounter (c : Nat) : Nat := raise Config.counterMax c

/-- round(a / b), a half rounded away from zero (introduction, Rounding). -/
def roundDiv (a : Int) (b : Nat) : Int := a.sign * ((2 * a.natAbs + b) / (2 * b) : Nat)

/-- The least whole number at or above a / b. -/
def ceilDiv (a b : Nat) : Nat := (a + b - 1) / b

/-- The table with one entry replaced by a function of it. -/
def modifyAt {α : Type} {n : Nat} (v : Vector α n) (i : Fin n) (f : α → α) : Vector α n :=
  Vector.ofFn (fun j => if j = i then f v[j] else v[j])

/-- The table with one entry replaced. -/
def setAt {α : Type} {n : Nat} (v : Vector α n) (i : Fin n) (a : α) : Vector α n := modifyAt v i (fun _ => a)

/-- The rail's value replaced by a function of it. -/
def Rails.modify {α : Type} (p : Rails α) (r : Rail) (f : α → α) : Rails α := p.set r (f (p.get r))

/-- Both rails. The left rail comes first wherever one step acts on both (DESIGN CHOICE, log 14). -/
def bothRails : List Rail := [.left, .right]

end Sys2Proof.Machine
end

