-- ==== Sys2Proof/Machine/Flags.lean ====
section
/-! DEFINITION. The flags: the STATUS change set (R180), channel sets as 16-bit words (section 11.6), and the flag bits of
the records (section 11.6). -/

namespace Sys2Proof.Machine

/-- Channel n stands in the set: bit n of the word. -/
def hasChannel (w : Word16) (ch : Channel) : Bool := w.getLsbD ch.val

/-- The set names a channel above 11. -/
def namesAbove11 (w : Word16) : Bool := decide (4096 ≤ w.toNat)

/-- Add a channel to a set. -/
def addChannel (w : Word16) (ch : Channel) : Word16 := w ||| BitVec.ofNat 16 (2 ^ ch.val)

/-- Enter a change in the change set; a mark already present stays once (R180). -/
def ChangeSet.enter (c : ChangeSet) : Change → ChangeSet
  | .runState => { c with runState := true }
  | .motion => { c with motion := true }
  | .coupling r ch => { c with coupling := c.coupling.modify r (addChannel · ch) }
  | .silence => { c with silence := true }
  | .loss => { c with loss := true }

/-- One bit of a flag byte. -/
def flagBit (position : Nat) (b : Bool) : Nat := if b then 2 ^ position else 0

/-- Byte 44 of STATUS: the change marks (section 11.6). -/
def ChangeSet.markBits (c : ChangeSet) : Nat :=
  flagBit 0 c.runState + flagBit 1 c.motion + flagBit 2 c.silence + flagBit 3 c.loss

/-- Byte 9 of STATUS: loss flag and silence (section 11.6). -/
def StatusRecord.lineBits (r : StatusRecord) : Nat := flagBit 0 r.loss + flagBit 1 r.silence

/-- Byte 6 of HIT (section 11.6). -/
def HitRecord.flagBits (r : HitRecord) : Nat := flagBit 0 r.uncoupled + flagBit 1 r.depthClamped

/-- Byte 5 of UNTESTED: the causes (section 11.6). -/
def Causes.bits (c : Causes) : Nat := flagBit 0 c.coupling + flagBit 1 c.blanked + flagBit 2 c.spacing

/-- Byte 11 of FINDING (section 11.6); FORCED_CLOSE is present exactly when closed by FORCED (R140). -/
def FindingRecord.flagBits (r : FindingRecord) : Nat :=
  flagBit 0 r.finding.truncated + flagBit 1 (r.closedBy == .forced) + flagBit 2 r.finding.uncoupled

end Sys2Proof.Machine
end

