-- ==== Sys2Proof/Machine/Ops.lean ====
section
/-! DEFINITION. The named operations over State: one update per block, the handovers between blocks (R9, R62, R158, R178,
R180), and the changes of state that have to be handed on. -/

namespace Sys2Proof.Machine

/-! ### One update per block -/

/-- The clock moves to a moment that has come; it never goes back (log 3). -/
def State.advanceTo (s : State) (t : Nat) : State := { s with now := max s.now t }
/-- One 10 ns tick passes: what a step on an empty queue does (DESIGN CHOICE, log 3). -/
def tick (s : State) : State := { s with now := s.now + 1 }

def State.setSetup (s : State) (x : Setup) : State := { s with setup := x }
def State.setTravel (s : State) (x : Travel) : State := { s with travel := x }
def State.setFiring (s : State) (r : Rail) (x : FiringUnit) : State := { s with firing := s.firing.set r x }
def State.setEcho (s : State) (r : Rail) (x : EchoProcessor) : State := { s with echo := s.echo.set r x }
def State.setTracker (s : State) (r : Rail) (x : Tracker) : State := { s with tracker := s.tracker.set r x }
def State.setAssembler (s : State) (r : Rail) (x : Assembler) : State := { s with assembler := s.assembler.set r x }
def State.setLandmarks (s : State) (x : LandmarkList) : State := { s with landmarks := x }
def State.setMarking (s : State) (r : Rail) (x : MarkingUnit) : State := { s with marking := s.marking.set r x }
def State.setRouter (s : State) (x : Router) : State := { s with router := x }
def State.setRun (s : State) (x : RunControl) : State := { s with run := x }
def State.setLine (s : State) (x : Line) : State := { s with line := x }

/-! ### Derived figures -/

/-- The car position is floor(accumulator / 65536), toward minus infinity (R3). -/
def Travel.carPosition (t : Travel) : Int := t.accumulator / 65536

/-- A channel is in plan on its rail: it appears in some group of the active plan (R27). -/
def State.inPlan (s : State) (r : Rail) (ch : Channel) : Bool := (s.setup.plans.get r).has ch

/-- The record of a channel in force. -/
def State.channel (s : State) (r : Rail) (ch : Channel) : ChannelRecord := (s.setup.channels.get r)[ch]

/-- The store is WRITING (section 10.7). -/
def State.writing (s : State) : Bool := s.run.writing.isSome

/-- The run state is STOPPED. -/
def State.stopped (s : State) : Bool := s.run.state == .stopped

/-- Ka = round(Kd × T / 65536) (R77). -/
def ChannelRecord.ka (r : ChannelRecord) : Int := roundDiv (r.kd * r.angle) 65536

/-- The firing state is FIRING while a group or an operation firing is in flight (R31, R38). -/
def FiringUnit.isFiring (u : FiringUnit) : Bool := u.flight.isSome || u.operationFlight.isSome

/-- The gun is SPRAYING while a spray end time is set (R149). -/
def MarkingUnit.isSpraying (m : MarkingUnit) : Bool := m.sprayEnd.isSome

/-! ### Handovers -/

/-- Offer a record to the line interface (R178). -/
def State.offer (s : State) (r : Record) : State :=
  s.setLine { s.line with inbox := s.line.inbox ++ [.offer r] }

/-- Hand a change to the line interface (R180). -/
def State.handChange (s : State) (c : Change) : State :=
  s.setLine { s.line with inbox := s.line.inbox ++ [.change c] }

/-- Hand a state to the signal router (R154). -/
def State.handLevel (s : State) (l : LevelHandover) : State :=
  s.setRouter { s.router with levels := s.router.levels ++ [l] }

/-- Give the signal router a pulse (R155). -/
def State.handPulse (s : State) (p : Pulse) : State :=
  s.setRouter { s.router with pulses := s.router.pulses ++ [p] }

/-- Hand an item to a rail's echo processor (R33, R34, R37, R162). -/
def State.toEcho (s : State) (r : Rail) (i : EchoItem) : State :=
  s.setEcho r { s.echo.get r with inbox := (s.echo.get r).inbox ++ [i] }

/-- Hand an item to a rail's tracker (R96). -/
def State.toTracker (s : State) (r : Rail) (i : TrackerItem) : State :=
  s.setTracker r { s.tracker.get r with inbox := (s.tracker.get r).inbox ++ [i] }

/-- Hand an item to a rail's finding assembler (R127). -/
def State.toAssembler (s : State) (r : Rail) (i : AssemblerItem) : State :=
  s.setAssembler r { s.assembler.get r with inbox := (s.assembler.get r).inbox ++ [i] }

/-- Hand a mark request to a rail's marking unit (R139). -/
def State.requestMark (s : State) (r : Rail) (q : MarkRequest) : State :=
  s.setMarking r { s.marking.get r with requests := (s.marking.get r).requests ++ [q] }

/-! ### Changes of state that are handed on -/

/-- Hand the motion state to a marking unit, which holds it (R9, R145). The table has no row in which it would be taken, so it is
held at once (log 29). -/
def State.handMotion (s : State) (r : Rail) (m : Motion) : State :=
  s.setMarking r { s.marking.get r with motion := m }

/-- Set the motion state; a change goes to both marking units and to the line interface (R4, R9). -/
def State.setMotion (s : State) (m : Motion) : State :=
  let s' := s.setTravel { s.travel with motion := m }
  if s.travel.motion = m then s' else ((s'.handMotion .left m).handMotion .right m).handChange .motion

/-- Set the run state; a change goes to the line interface and the signal router (R158). -/
def State.setRunState (s : State) (st : RunState) : State :=
  let s' := s.setRun { s.run with state := st }
  if s.run.state = st then s' else (s'.handChange .runState).handLevel (.runState st)

/-- Write a channel's coverage; a change of coupling state goes to the line interface and the signal router at that
moment (R62). -/
def State.setCover (s : State) (r : Rail) (ch : Channel) (c : Cover) : State :=
  let s' := s.setEcho r { s.echo.get r with cover := setAt (s.echo.get r).cover ch c }
  if (s.echo.get r).cover[ch].coupling = c.coupling then s'
  else (s'.handChange (.coupling r ch)).handLevel (.coupling r ch c.coupling)

/-- Set or clear the spray end time; a change of gun state goes to the signal router (R149). -/
def State.setSpray (s : State) (r : Rail) (t : Option Nat) : State :=
  let s' := s.setMarking r { s.marking.get r with sprayEnd := t }
  if (s.marking.get r).isSpraying = t.isSome then s' else s'.handLevel (.gun r t.isSome)

/-- Set or clear the silence state; a change goes to the line interface and the signal router (R181). -/
def State.setSilence (s : State) (b : Bool) : State :=
  let s' := s.setLine { s.line with silence := b }
  if s.line.silence = b then s' else (s'.handChange .silence).handLevel (.silence b)

/-- Every channel of a rail set anew from its active plan, with nothing remembered (R73). The channels are handled in ascending
number, which is the order in which their changes are handed on (log 36). -/
def State.resetCoverage (s : State) (r : Rail) : State :=
  (List.finRange 12).foldl (fun s ch => s.setCover r ch (Cover.fresh (s.inPlan r ch))) s

/-! ### STATUS -/

/-- The STATUS fields as they stand, with the change set as it stands (R180, section 11.6). -/
def State.status (s : State) (cause : StatusCause) : StatusRecord :=
  { cause := cause, runState := s.run.state, writing := s.writing, source := s.run.source, motion := s.travel.motion,
    loss := s.line.loss, silence := s.line.silence, carPosition := s.travel.carPosition, frontier := s.travel.frontier,
    speed := s.travel.speed,
    coupling := ⟨Vector.ofFn fun ch => s.echo.left.cover[ch].coupling, Vector.ofFn fun ch => s.echo.right.cover[ch].coupling⟩,
    changes := s.line.changes, occupancy := s.line.queue.length,
    skipped := ⟨s.firing.left.skipped, s.firing.right.skipped⟩,
    overflow := ⟨s.tracker.left.overflow, s.tracker.right.overflow⟩,
    noise := ⟨s.tracker.left.noise, s.tracker.right.noise⟩, suppressed := s.run.suppressed,
    frameErrors := s.line.frameErrors, overruns := s.line.overruns, dropped := s.line.dropped, lost := s.line.lost }

end Sys2Proof.Machine
end

