-- ==== Sys2Proof/Machine/Operands.lean ====
section
/-! DEFINITION. Requests and their operands: the head of a request frame and the length its fields declare (section 11.6),
taking a request from the input buffer and placing its reply (R176), the enumerations by number (section 11.6: counted from 0
in the order their chapters list them), the clamping of every settings record (introduction, Refuse or clamp), and the records
as a reply shows them. -/

namespace Sys2Proof.Machine

/-! ### Enumerations by number -/

def railOf : Nat → Option Rail
  | 0 => some .left
  | 1 => some .right
  | _ => none

def senseOf : Nat → Option DirectionSense
  | 0 => some .normal
  | 1 => some .swapped
  | _ => none

/-- ON, OFF; YES, NO; PRESENT, NONE: the first listed is 0 (log 12). -/
def onOffOf : Nat → Option Bool
  | 0 => some true
  | 1 => some false
  | _ => none

def gateModeOf : Nat → Option GateMode
  | 0 => some .peak
  | 1 => some .first
  | 2 => some .absent
  | _ => none

def uncoupledModeOf : Nat → Option UncoupledMode
  | 0 => some .hold
  | 1 => some .pass
  | _ => none

def defaultActionOf : Nat → Option ReportAction
  | 0 => some .report
  | 1 => some .reportAndMark
  | _ => none

def patternActionOf : Nat → Option PatternAction
  | 0 => some (.act .report)
  | 1 => some (.act .reportAndMark)
  | 2 => some .suppress
  | _ => none

def kindOf : Nat → Option LandmarkKind
  | 0 => some .weld
  | 1 => some .joint
  | 2 => some .switch
  | 3 => some .crossing
  | 4 => some .other
  | _ => none

def appliesOf : Nat → Option AppliesTo
  | 0 => some .left
  | 1 => some .right
  | 2 => some .both
  | _ => none

def sourceOf : Nat → Option Source
  | 0 => some .off
  | 1 => some .on
  | 2 => some .uncoupledLeft
  | 3 => some .uncoupledRight
  | 4 => some .allCoupled
  | 5 => some .sprayLeft
  | 6 => some .sprayRight
  | 7 => some .overspeed
  | 8 => some .hostSilent
  | 9 => some .running
  | 10 => some .findingLeft
  | 11 => some .findingRight
  | 12 => some .findingAny
  | 13 => some .skip
  | _ => none

/-- The number of ON, YES, PRESENT, and of OFF, NO, NONE (log 12). -/
def yesNo (b : Bool) : Nat := if b then 0 else 1

def GateMode.code : GateMode → Nat
  | .peak => 0
  | .first => 1
  | .absent => 2

def UncoupledMode.code : UncoupledMode → Nat
  | .hold => 0
  | .pass => 1

def PatternAction.code : PatternAction → Nat
  | .act .report => 0
  | .act .reportAndMark => 1
  | .suppress => 2

def LandmarkKind.code : LandmarkKind → Nat
  | .weld => 0
  | .joint => 1
  | .switch => 2
  | .crossing => 3
  | .other => 4

def AppliesTo.code : AppliesTo → Nat
  | .left => 0
  | .right => 1
  | .both => 2

/-- An index below a bound, as the fixed tables take it. -/
def indexBelow (n v : Nat) : Option (Fin n) := if h : v < n then some ⟨v, h⟩ else none

/-- A flaw gate by its number 1 to 3. -/
def gateOf (number : Nat) : Option Gate := if number = 0 then none else indexBelow 3 (number - 1)

/-! ### Request kinds (section 11.6) -/

/-- The 28 request kinds, numbered from 0x01 in this order. -/
inductive RequestKind where
  | identify | readStatus | setReporting | setTravel | setPosition | odoCalBegin | odoCalEnd | setChannel | readChannel
  | stagePlan | readPlan | setRail | setLevels | snapshot | calChannel | addLandmarks | clearLandmarks | readLandmarks
  | setPattern | readPattern | setSignals | runStart | runStop | flush | restart | verify | setupSave | setupReload
  deriving DecidableEq, Repr

def RequestKind.code : RequestKind → Nat
  | .identify => 0x01
  | .readStatus => 0x02
  | .setReporting => 0x03
  | .setTravel => 0x04
  | .setPosition => 0x05
  | .odoCalBegin => 0x06
  | .odoCalEnd => 0x07
  | .setChannel => 0x08
  | .readChannel => 0x09
  | .stagePlan => 0x0A
  | .readPlan => 0x0B
  | .setRail => 0x0C
  | .setLevels => 0x0D
  | .snapshot => 0x0E
  | .calChannel => 0x0F
  | .addLandmarks => 0x10
  | .clearLandmarks => 0x11
  | .readLandmarks => 0x12
  | .setPattern => 0x13
  | .readPattern => 0x14
  | .setSignals => 0x15
  | .runStart => 0x16
  | .runStop => 0x17
  | .flush => 0x18
  | .restart => 0x19
  | .verify => 0x1A
  | .setupSave => 0x1B
  | .setupReload => 0x1C

/-! ### A request frame's head (section 11.6) -/

/-- Byte n of a body; every body has the four bytes of its head (R173). -/
def Frame.byte (f : Frame) (n : Nat) : Byte := f.body.getD n 0
def Frame.kind (f : Frame) : Byte := f.byte 0
def Frame.tag (f : Frame) : Byte := f.byte 1
def Frame.rail (f : Frame) : Option Rail := railOf (f.byte 2).toNat
def Frame.channel (f : Frame) : Option Channel := indexBelow 12 (f.byte 3).toNat

/-- A kind that names a request: 0x01 to 0x1C. -/
def namesRequest (k : Byte) : Bool := decide (1 ≤ k.toNat) && decide (k.toNat ≤ 0x1C)

/-! ### Taking a request and replying (R176) -/

/-- Place a reply at the end of the reply queue, with the request's kind and tag. -/
def State.reply (s : State) (f : Frame) (code : ReplyCode) (index : Nat) (payload : ReplyPayload) : State :=
  s.setLine { s.line with replies := s.line.replies ++ [⟨f.kind, f.tag, code, index, payload⟩] }

/-- The request at the head of the buffer, where it is of this kind and the reply queue has room; it leaves the buffer. -/
def takeRequest (k : RequestKind) (s : State) : Option (Frame × State) :=
  match s.line.input with
  | [] => none
  | f :: rest =>
    if s.line.replies.length < Config.replyCapacity ∧ f.kind.toNat = k.code then
      some (f, s.setLine { s.line with input := rest })
    else none

/-- Take a request whose fields declare this many bytes beyond the four of the head: it acts where the frame's body is that
long, and is answered LENGTH where it is not (R176, log 4). Where no such request can be taken there is nothing to do
(log 1). -/
def request (k : RequestKind) (size : Nat) (s : State) (act : Frame → State → State) : State :=
  match takeRequest k s with
  | none => s
  | some (f, s1) => if f.body.length = 4 + size then act f s1 else s1.reply f .length 0 .headOnly

/-- OK, or CLAMPED where some value had to be clamped. -/
def doneCode (fits : Bool) : ReplyCode := if fits then .ok else .clamped

end Sys2Proof.Machine

namespace Sys2Proof

open Sys2Proof.Machine

/-! ### The bytes a request's fields declare (R176, log 4)

By section 11.6 positions take 4 bytes; times, depths, amplitudes and counts 2; channels, gates and enumerations 1, and a
channel set is a 16-bit word. Distances and lengths along the rail take 4 like the positions they are measured in, S and T 4 for
their ranges, Kd, Z and the speed limit 2. -/

/-- Sense, scale, pitch, standstill time. -/
def TravelFields.size (_ : TravelFields) : Nat := 1 + 4 + 4 + 2

/-- Presence, mode, start, width, level, use-curve, two tolerances, minimum hits. -/
def GateFields.size (_ : GateFields) : Nat := 1 + 1 + 2 + 2 + 2 + 1 + 4 + 2 + 2

/-- The fields of R19 in its order; the curve points have a count. -/
def ChannelFields.size (f : ChannelFields) : Nat :=
  (1 + 2 + 4 + 2 + 4 + 2) + (2 + 2 + 2 + 2) + (2 + 2 + 1 + 4 + 1 + 4) + (2 + 4 * f.curve.length) + f.gate1.size + f.gate2.size +
    f.gate3.size

/-- A count of groups, and each group's count of channels with its channels. -/
def planSize (plan : List (List Nat)) : Nat := 2 + (plan.map (fun g => 2 + g.length)).sum

/-- The fields of section 2.3 in its order. -/
def RailFields.size (_ : RailFields) : Nat := 2 + 4 + 4 + 1 + 1 + 4 + 4 + 2

/-- Five levels. -/
def LevelFields.size (_ : LevelFields) : Nat := 5 * 2

/-- Gate, step, reference depth. -/
def CalFields.size (_ : CalFields) : Nat := 1 + 1 + 2

/-- A count of entries, and each entry in the twelve bytes that R118 gives an entry. -/
def landmarksSize (entries : List LandmarkFields) : Nat := 2 + 12 * entries.length

/-- Rails, two channel sets, two depths, condition, kind, window, class, action. -/
def PatternFields.size (_ : PatternFields) : Nat := 1 + 2 + 2 + 2 + 2 + 1 + 1 + 4 + 1 + 1

/-- The index and the marker EMPTY, or the index, a marker and a pattern. -/
def SetPatternFields.size (f : SetPatternFields) : Nat := 1 + 1 + f.entry.elim 0 PatternFields.size

/-- Source, invert flag, stretch time of each line, and the speed limit. -/
def SignalFields.size (_ : SignalFields) : Nat := 4 * (1 + 1 + 2) + 2

/-- Two times and two amplitudes; the rail stands in the head. -/
def VerifyFields.size (_ : VerifyFields) : Nat := 4 * 2

/-- Threshold, cap, delay, interval, status-on-change, two channel sets, silence limit. -/
def ReportingFields.size (_ : ReportingFields) : Nat := 2 + 2 + 2 + 2 + 1 + 2 + 2 + 2

/-! ### Clamping the tuning fields -/

/-- SET_TRAVEL's tuning fields lie within their ranges (section 1.4). -/
def TravelFields.fits (f : TravelFields) : Bool :=
  within 1 16777215 f.scale && within 10 200 f.pitch && within 50 5000 f.standstill

def TravelFields.clamp (f : TravelFields) (sense : DirectionSense) : TravelSettings :=
  { sense := sense, scale := clampNat 1 16777215 f.scale, pitch := clampNat 10 200 f.pitch,
    standstill := clampNat 50 5000 f.standstill }

def CurvePointFields.fits (p : CurvePointFields) : Bool := within 0 8191 p.time && within 0 4095 p.level

def CurvePointFields.clamp (p : CurvePointFields) : CurvePoint :=
  { time := clampNat 0 8191 p.time, level := clampNat 0 4095 p.level }

/-- A gate field as a gate: outside its set (`none`), NONE (`some none`) or PRESENT. A NONE gate's fields are not checked
and not kept (R19, R22). -/
def GateFields.clamp (g : GateFields) : Option (Option FlawGate) :=
  match onOffOf g.presence with
  | none => none
  | some false => some none
  | some true =>
    match gateModeOf g.mode, onOffOf g.useCurve with
    | some mode, some useCurve =>
      some (some
        { mode := mode, start := clampNat 0 8191 g.start, width := clampNat 1 8192 g.width, level := clampNat 0 4095 g.level,
          useCurve := useCurve, positionTolerance := clampNat 0 10000 g.positionTolerance,
          depthTolerance := clampNat 0 2500 g.depthTolerance, minimumHits := clampNat 1 255 g.minimumHits })
    | _, _ => none

/-- The gate's tuning fields lie within their ranges. The fields of a NONE gate do not count: out of range or not, they make no
reply CLAMPED (log 41). -/
def GateFields.fits (g : GateFields) : Bool :=
  g.presence == 1 ||
    (within 0 8191 g.start && within 1 8192 g.width && within 0 4095 g.level && within 0 10000 g.positionTolerance &&
      within 0 2500 g.depthTolerance && within 1 255 g.minimumHits)

/-- The record SET_CHANNEL carries, clamped; `none` where a structural field is outside its set (R22, check 1). -/
def ChannelFields.clamp (f : ChannelFields) : Option ChannelRecord :=
  match indexBelow 4 f.lane, uncoupledModeOf f.uncoupledMode, onOffOf f.honour, decide (f.curve.length ≤ 8), f.gate1.clamp,
    f.gate2.clamp, f.gate3.clamp with
  | some lane, some mode, some honour, true, some g1, some g2, some g3 =>
    some
      { lane := lane, listen := clampNat 256 8192 f.listen, offset := clampInt (-60000) 60000 f.offset,
        kd := clampNat 1 65535 f.kd, angle := clampInt (-262143) 262143 f.angle, zero := clampInt (-512) 1023 f.zero,
        interfaceStart := clampNat 0 8191 f.interfaceStart, interfaceWidth := clampNat 1 8192 f.interfaceWidth,
        interfaceLevel := clampNat 0 4095 f.interfaceLevel, couplingLevel := clampNat 0 4095 f.couplingLevel,
        failThreshold := clampNat 1 255 f.failThreshold, regainThreshold := clampNat 1 255 f.regainThreshold,
        uncoupledMode := mode, spacing := clampNat 10 100000 f.spacing, honour := honour,
        closeDistance := clampNat 10 100000 f.closeDistance, curve := f.curve.map CurvePointFields.clamp,
        gates := #v[g1, g2, g3] }
  | _, _, _, _, _, _, _ => none

def ChannelFields.fits (f : ChannelFields) : Bool :=
  within 256 8192 f.listen && within (-60000) 60000 f.offset && within 1 65535 f.kd && within (-262143) 262143 f.angle &&
    within (-512) 1023 f.zero && within 0 8191 f.interfaceStart && within 1 8192 f.interfaceWidth &&
    within 0 4095 f.interfaceLevel && within 0 4095 f.couplingLevel && within 1 255 f.failThreshold &&
    within 1 255 f.regainThreshold && within 10 100000 f.spacing && within 10 100000 f.closeDistance &&
    f.curve.all CurvePointFields.fits && f.gate1.fits && f.gate2.fits && f.gate3.fits

/-- The curve's times are strictly ascending (R46). -/
def ascending : List CurvePoint → Bool
  | [] => true
  | [_] => true
  | p :: q :: rest => decide (p.time < q.time) && ascending (q :: rest)

/-- The record SET_RAIL carries, clamped; `none` where a structural field is outside its set (R25). -/
def RailFields.clamp (f : RailFields) : Option RailSettings :=
  match defaultActionOf f.defaultAction, onOffOf f.markerEnable with
  | some action, some marker =>
    some
      { recovery := clampNat 2 100 f.recovery, join := clampNat 0 10000 f.join, settle := clampNat 100 200000 f.settle,
        defaultAction := action, markerEnable := marker, gunOffset := clampNat 1000 200000 f.gunOffset,
        merge := clampNat 0 10000 f.merge, spray := clampNat 10 500 f.spray }
  | _, _ => none

def RailFields.fits (f : RailFields) : Bool :=
  within 2 100 f.recovery && within 0 10000 f.join && within 100 200000 f.settle && within 1000 200000 f.gunOffset &&
    within 0 10000 f.merge && within 10 500 f.spray

def LevelFields.fits (f : LevelFields) : Bool :=
  within 0 4095 f.interface && within 0 4095 f.coupling && within 0 4095 f.flaw1 && within 0 4095 f.flaw2 &&
    within 0 4095 f.flaw3

/-- The three flaw gate levels of SET_LEVELS, clamped (R51). -/
def LevelFields.flaw (f : LevelFields) : Vector Nat 3 :=
  #v[clampNat 0 4095 f.flaw1, clampNat 0 4095 f.flaw2, clampNat 0 4095 f.flaw3]

/-- A landmark entry with its length clamped; `none` where kind, rails or blank is outside its set (R115). -/
def LandmarkFields.clamp (f : LandmarkFields) : Option Landmark :=
  match kindOf f.kind, appliesOf f.rails, onOffOf f.blank with
  | some kind, some rails, some blank =>
    some { start := f.start.toInt, length := clampNat 0 1000000 f.length, kind := kind, rails := rails, blank := blank }
  | _, _, _ => none

def LandmarkFields.fits (f : LandmarkFields) : Bool := within 0 1000000 f.length

/-- A pattern's landmark condition NONE, NEAR, NOT_NEAR; the kind is checked only with the last two (R141). -/
def PatternFields.conditionOf (f : PatternFields) : Option LandmarkCondition :=
  match f.condition with
  | 0 => some .unconditional
  | 1 => (kindOf f.kind).map (fun k => .near k (clampNat 0 10000 f.window))
  | 2 => (kindOf f.kind).map (fun k => .notNear k (clampNat 0 10000 f.window))
  | _ => none

/-- A pattern, clamped; `none` where check 1 of R141 fails. -/
def PatternFields.clamp (f : PatternFields) : Option Pattern :=
  match appliesOf f.rails, f.conditionOf, patternActionOf f.action with
  | some rails, some condition, some action =>
    if namesAbove11 f.considered || namesAbove11 f.required || f.cls < 1 || 63 < f.cls ||
        (f.required &&& f.considered) != f.required then none
    else
      some
        { rails := rails, considered := f.considered, required := f.required, depthMin := clampNat 0 2500 f.depthMin,
          depthMax := clampNat 0 2500 f.depthMax, condition := condition, cls := f.cls, action := action }
  | _, _, _ => none

def PatternFields.fits (f : PatternFields) : Bool :=
  within 0 2500 f.depthMin && within 0 2500 f.depthMax && within 0 10000 f.window

def RouteFields.clamp (f : RouteFields) : Option Route :=
  match sourceOf f.source, onOffOf f.invert with
  | some source, some invert => some { source := source, invert := invert, stretch := clampNat 1 1000 f.stretch }
  | _, _ => none

def RouteFields.fits (f : RouteFields) : Bool := within 1 1000 f.stretch

def SignalFields.routes (f : SignalFields) : List RouteFields := [f.line1, f.line2, f.line3, f.line4]

/-- The four routes and the speed limit, clamped; `none` where a line's source or invert flag is outside its set (R153). -/
def SignalFields.clamp (f : SignalFields) : Option SignalSettings :=
  match f.line1.clamp, f.line2.clamp, f.line3.clamp, f.line4.clamp with
  | some a, some b, some c, some d => some { routes := #v[a, b, c, d], speedLimit := clampNat 0 2000 f.speedLimit }
  | _, _, _, _ => none

def SignalFields.fits (f : SignalFields) : Bool := f.routes.all RouteFields.fits && within 0 2000 f.speedLimit

/-- The first failing line, counted as line 1 to 4 (R153). -/
def SignalFields.failingLine (f : SignalFields) : Nat := f.routes.findIdx (fun r => r.clamp.isNone) + 1

def VerifyFields.clamp (f : VerifyFields) : TestEcho :=
  { d1 := clampNat 0 8000 f.d1, a1 := clampNat 0 4095 f.a1, d2 := clampNat 0 8000 f.d2, a2 := clampNat 0 4095 f.a2 }

def VerifyFields.fits (f : VerifyFields) : Bool :=
  within 0 8000 f.d1 && within 0 4095 f.a1 && within 0 8000 f.d2 && within 0 4095 f.a2

/-- The status interval: 0 stands, a value from 1 to 99 becomes 100 (R182). -/
def clampInterval (v : Int) : Nat := if v ≤ 0 then 0 else clampNat 100 10000 v

/-- The reporting settings, clamped; `none` where a structural field is outside its set (R182). -/
def ReportingFields.clamp (f : ReportingFields) : Option ReportingSettings :=
  match onOffOf f.statusOnChange with
  | some onChange =>
    if namesAbove11 f.hitLeft || namesAbove11 f.hitRight then none
    else
      some
        { highWater := clampNat 1 256 f.highWater, cap := clampNat 128 2040 f.cap, flushDelay := clampNat 1 50 f.flushDelay,
          statusInterval := clampInterval f.statusInterval, statusOnChange := onChange, hitStream := ⟨f.hitLeft, f.hitRight⟩,
          silenceLimit := clampNat 0 60 f.silenceLimit }
  | none => none

def ReportingFields.fits (f : ReportingFields) : Bool :=
  within 1 256 f.highWater && within 128 2040 f.cap && within 1 50 f.flushDelay &&
    (f.statusInterval == 0 || within 100 10000 f.statusInterval) && within 0 60 f.silenceLimit

end Sys2Proof

namespace Sys2Proof.Machine

/-! ### Records as a reply shows them -/

/-- A flaw gate as a reply shows it: with its presence, and with zero in every other field where that is NONE (R24). -/
def gateShown : Option FlawGate → GateFields
  | some g =>
    { presence := yesNo true, mode := g.mode.code, start := g.start, width := g.width, level := g.level,
      useCurve := yesNo g.useCurve, positionTolerance := g.positionTolerance, depthTolerance := g.depthTolerance,
      minimumHits := g.minimumHits }
  | none =>
    { presence := yesNo false, mode := 0, start := 0, width := 0, level := 0, useCurve := 0, positionTolerance := 0,
      depthTolerance := 0, minimumHits := 0 }

/-- A channel record as a reply shows it, every flaw gate with its presence (R23, R24). -/
def ChannelRecord.shown (x : ChannelRecord) : ChannelFields :=
  { lane := x.lane.val, listen := x.listen, offset := x.offset, kd := x.kd, angle := x.angle, zero := x.zero,
    interfaceStart := x.interfaceStart, interfaceWidth := x.interfaceWidth, interfaceLevel := x.interfaceLevel,
    couplingLevel := x.couplingLevel, failThreshold := x.failThreshold, regainThreshold := x.regainThreshold,
    uncoupledMode := x.uncoupledMode.code, spacing := x.spacing, honour := yesNo x.honour, closeDistance := x.closeDistance,
    curve := x.curve.map (fun p => ⟨p.time, p.level⟩), gate1 := gateShown x.gates[0], gate2 := gateShown x.gates[1],
    gate3 := gateShown x.gates[2] }

/-- A channel record with its Ka, as the replies to SET_CHANNEL and READ_CHANNEL carry it (R23, R24). -/
def ChannelRecord.payload (x : ChannelRecord) : ReplyPayload := .channel x.shown x.ka

/-- A landmark condition as a reply shows it: its number, kind and window; NONE keeps neither and shows both as zero (R141). -/
def LandmarkCondition.shown : LandmarkCondition → Nat × Nat × Nat
  | .unconditional => (0, 0, 0)
  | .near k w => (1, k.code, w)
  | .notNear k w => (2, k.code, w)

/-- A pattern as a reply shows it (R141). -/
def Pattern.shown (p : Pattern) : PatternFields :=
  { rails := p.rails.code, considered := p.considered, required := p.required, depthMin := p.depthMin, depthMax := p.depthMax,
    condition := p.condition.shown.1, kind := p.condition.shown.2.1, window := p.condition.shown.2.2, cls := p.cls,
    action := p.action.code }

/-- An entry of the pattern table as the replies to SET_PATTERN and READ_PATTERN carry it: EMPTY, or its pattern (R141, R142). -/
def patternPayload (entry : Option Pattern) : ReplyPayload := .pattern (entry.map Pattern.shown)

end Sys2Proof.Machine
end

