-- ==== Sys2Proof/Machine/Landmarks.lean ====
section
/-! DEFINITION. The landmark list (chapter 7): loading, retirement, and the two queries. -/

namespace Sys2Proof.Machine

/-- The end of an entry's extent, computed exactly (R114). -/
def Landmark.finish (l : Landmark) : Int := l.start + l.length

/-- An entry applies to a rail (R114). -/
def AppliesTo.covers : AppliesTo → Rail → Bool
  | .left, .left => true
  | .left, .right => false
  | .right, .left => false
  | .right, .right => true
  | .both, _ => true

/-- An entry retires when the frontier exceeds its start plus its length plus the retention distance (R119). -/
def Landmark.retires (l : Landmark) (retention : Nat) (frontier : Int) : Bool :=
  decide (l.finish + retention < frontier)

/-- A retirement check: every entry that meets the condition is removed, the rest close up (R119). -/
def LandmarkList.retire (l : LandmarkList) (frontier : Int) : LandmarkList :=
  { l with entries := l.entries.filter (fun e => !e.retires l.retention frontier) }

/-- FRONTIER_RETIREMENT (R119): the list takes the frontier change handed to it first. -/
def frontierRetirement (s : State) : State :=
  match s.landmarks.frontiers with
  | [] => s
  | f :: rest => s.setLandmarks { s.landmarks.retire f with frontiers := rest }

def execFrontierRetirement (s : State) : Outcome := .next (frontierRetirement s)

/-! ### Queries -/

/-- The blanking query (R121). -/
def LandmarkList.blanks (l : LandmarkList) (r : Rail) (pp : Int) : Bool :=
  l.entries.any (fun e => e.blank && e.rails.covers r && decide (e.start ≤ pp) && decide (pp ≤ e.finish))

/-- The gap of an entry to a span: the largest of 0, start less b, a less end (R122). -/
def Landmark.gap (e : Landmark) (a b : Int) : Int := max 0 (max (e.start - b) (a - e.finish))

/-- The proximity query: present (R122). -/
def LandmarkList.present (l : LandmarkList) (r : Rail) (a b : Int) (k : LandmarkKind) (window : Nat) : Bool :=
  l.entries.any (fun e => e.kind == k && e.rails.covers r && decide (e.gap a b ≤ window))

/-! ### Requests -/

/-- Two entries are equal in start, kind and rails (R114). -/
def Landmark.sameAs (a b : Landmark) : Bool := a.start == b.start && a.kind == b.kind && a.rails == b.rails

/-- The checks of R115 on the entries from index `i` on: `known` holds the list's entries and then the request's own entries
already passed, `listed` is how many the list holds. The failing check with its index, or the entries as taken. -/
def checkLandmarks (listed : Nat) : (known : List Landmark) → Nat → List LandmarkFields → Except (ReplyCode × Nat) (List Landmark)
  | _, _, [] => .ok []
  | known, i, f :: rest =>
    match f.clamp with
    | none => .error (.range, i)
    | some e =>
      if known.getLast?.any (fun p => e.start < p.start) then .error (.order, i)
      else if known.any e.sameAs then .error (.duplicate, i)
      else if listed + i = Config.landmarkCapacity then .error (.full, i)
      else
        match checkLandmarks listed (known ++ [e]) (i + 1) rest with
        | .error x => .error x
        | .ok es => .ok (e :: es)

/-- ADD_LANDMARKS (R115, R116). The retirement check at its end is made against the travel unit's frontier as it stands, also where
the frontier change that raised it still waits for FRONTIER_RETIREMENT: the model's choice (log 48). -/
def addLandmarks (fs : List LandmarkFields) (fr : Frame) (s : State) : State :=
  let listed := s.landmarks.entries.length
  if fs.length < 1 ∨ 8 < fs.length then s.reply fr .range 0 (.landmarkCount listed)
  else
    match checkLandmarks listed s.landmarks.entries 0 fs with
    | .error (code, i) => s.reply fr code i (.landmarkCount listed)
    | .ok es =>
      let l := { s.landmarks with entries := s.landmarks.entries ++ es }.retire s.travel.frontier
      (s.setLandmarks l).reply fr (doneCode (fs.all LandmarkFields.fits)) 0 (.landmarksAdded l.entries.length es)

def execAddLandmarks (entries : List LandmarkFields) (s : State) : Outcome :=
  .next (request .addLandmarks (landmarksSize entries) s (addLandmarks entries))

/-- CLEAR_LANDMARKS (R117). -/
def clearLandmarks (d : Int) (fr : Frame) (s : State) : State :=
  let retention := clampNat 0 500000 d
  (s.setLandmarks { s.landmarks with entries := [], retention := retention }).reply fr (doneCode (within 0 500000 d)) 0
    (.retention retention)

def execClearLandmarks (retention : Int) (s : State) : Outcome :=
  .next (request .clearLandmarks 4 s (clearLandmarks retention))

/-- What befalls the landmark list between two proximity queries, each the step of its own command (R122, log 38). -/
def landmarkStep (s : State) : LandmarkStep → State
  | .retirement => frontierRetirement s
  | .add entries => request .addLandmarks (landmarksSize entries) s (addLandmarks entries)
  | .clear d => request .clearLandmarks 4 s (clearLandmarks d)

/-- READ_LANDMARKS (R118). -/
def readLandmarks (fr : Frame) (s : State) : State :=
  s.reply fr .ok 0 (.landmarks s.landmarks.retention s.landmarks.entries)

def execReadLandmarks (s : State) : Outcome := .next (request .readLandmarks 0 s readLandmarks)

end Sys2Proof.Machine
end

