-- ==== Sys2Proof/Machine/Tracker.lean ====
section
/-! DEFINITION. The trackers (chapter 6): associating a hit, closing traces, and the notices passed on. -/

namespace Sys2Proof.Machine

/-! ### What the tracker reads from the channel record (R97) -/

/-- A field of a gate of the channel record as it stands; a gate whose presence is NONE reads 0, which no run meets (log 17). -/
def State.gateField (s : State) (r : Rail) (ch : Channel) (g : Gate) (field : FlawGate → Nat) : Nat :=
  ((s.channel r ch).gates[g]).elim 0 field

/-! ### Associating a hit -/

/-- A trace is a candidate for a hit (R98). -/
def Trace.candidate (t : Trace) (h : KeptHit) (positionTolerance depthTolerance : Nat) : Bool :=
  decide (t.channel = h.channel) && decide (t.gate = h.gate) &&
    decide ((h.reflector - t.lastPr).natAbs ≤ positionTolerance) &&
    decide (((h.depth : Int) - t.lastD).natAbs ≤ depthTolerance)

/-- The nearer of the best slot so far and slot i: strictly nearer in position, so the lowest-numbered slot stays on equal
distance (R99). -/
def nearer (slots : Vector (Option Trace) 32) (h : KeptHit) (pt dt : Nat) (best : Option (Fin 32 × Nat)) (i : Fin 32) :
    Option (Fin 32 × Nat) :=
  match slots[i] with
  | none => best
  | some t =>
    if t.candidate h pt dt then
      let d := (h.reflector - t.lastPr).natAbs
      match best with
      | none => some (i, d)
      | some (j, e) => if d < e then some (i, d) else some (j, e)
    else best

/-- The slot a hit joins (R98, R99). -/
def nearestTrace (slots : Vector (Option Trace) 32) (h : KeptHit) (pt dt : Nat) : Option (Fin 32) :=
  ((List.finRange 32).foldl (nearer slots h pt dt) none).map Prod.fst

/-- The lowest-numbered FREE slot of a table. -/
def lowestFree {α : Type} {n : Nat} (slots : Vector (Option α) n) : Option (Fin n) :=
  (List.finRange n).find? (fun i => slots[i].isNone)

/-- A trace that opens with a hit (R94, R101). -/
def Trace.openWith (h : KeptHit) : Trace :=
  { channel := h.channel, gate := h.gate, lastPr := h.reflector, minPr := h.reflector, maxPr := h.reflector, lastD := h.depth,
    minD := h.depth, maxD := h.depth, peak := ⟨h.amplitude, h.reflector, h.depth⟩, hits := 1, lastHitPosition := h.position,
    uncoupled := h.uncoupled }

/-- A hit joins a trace (R94, R100). -/
def Trace.join (t : Trace) (h : KeptHit) : Trace :=
  { t with
    lastPr := h.reflector
    minPr := min t.minPr h.reflector
    maxPr := max t.maxPr h.reflector
    lastD := h.depth
    minD := min t.minD h.depth
    maxD := max t.maxD h.depth
    peak := if t.peak.amplitude < h.amplitude then ⟨h.amplitude, h.reflector, h.depth⟩ else t.peak
    hits := raiseCounter t.hits
    lastHitPosition := h.position
    uncoupled := t.uncoupled || h.uncoupled }

/-- The table and the overflow counter after a hit: joined, opened, or discarded on a full table (R99, R101, R102). -/
def Tracker.take (t : Tracker) (h : KeptHit) (pt dt : Nat) : Tracker :=
  match nearestTrace t.slots h pt dt with
  | some i => { t with slots := modifyAt t.slots i (Option.map (fun x => x.join h)) }
  | none =>
    match lowestFree t.slots with
    | some i => { t with slots := setAt t.slots i (some (Trace.openWith h)) }
    | none => { t with overflow := raiseCounter t.overflow }

/-- The tracker's inputs with the first one taken. -/
def dropTracker (r : Rail) (s : State) : State :=
  s.setTracker r { s.tracker.get r with inbox := (s.tracker.get r).inbox.tail }

/-- A waiting item of the line interface is the HIT record of this hit. -/
def LineItem.isHitOf (r : Rail) (h : KeptHit) : LineItem → Bool
  | .offer (.hit x) =>
    decide (x.rail = r) && decide (x.channel = h.channel) && decide (x.gate = h.gate) && decide (x.position = h.position)
  | _ => false

/-- The HIT record of a hit still waits for the moment of its offer. -/
def State.hitRecordWaits (s : State) (r : Rail) (h : KeptHit) : Bool := s.line.inbox.any (LineItem.isHitOf r h)

/-- TRACKER_HIT (R98). The HIT record of a hit has been offered, where the hit stream asks for it, before the tracker takes the hit
(R82, R102): while it waits for its offer there is nothing to take (log 34). -/
def trackerHit (r : Rail) (s : State) : State :=
  match (s.tracker.get r).inbox.head? with
  | some (.hit h) =>
    if s.hitRecordWaits r h then s
    else
      let s := dropTracker r s
      s.setTracker r ((s.tracker.get r).take h (s.gateField r h.channel h.gate FlawGate.positionTolerance)
        (s.gateField r h.channel h.gate FlawGate.depthTolerance))
  | _ => s

def execTrackerHit (rail : Rail) (s : State) : Outcome := .next (trackerHit rail s)

/-! ### Closing traces -/

/-- The indication of a trace (R105). -/
def Trace.toIndication (t : Trace) : Contribution :=
  { channel := t.channel, gate := t.gate, minPr := t.minPr, maxPr := t.maxPr, minD := t.minD, maxD := t.maxD, peak := t.peak,
    hits := t.hits, uncoupled := t.uncoupled }

/-- Close the trace of a slot where `which` holds of it: an indication handed on, or a noise trace counted; the slot becomes
FREE (R104). -/
def closeTrace (r : Rail) (which : Trace → Bool) (s : State) (i : Fin 32) : State :=
  let k := s.tracker.get r
  match k.slots[i] with
  | none => s
  | some t =>
    if which t then
      let slots := setAt k.slots i none
      if s.gateField r t.channel t.gate FlawGate.minimumHits ≤ t.hits then
        (s.setTracker r { k with slots := slots }).toAssembler r (.indication t.toIndication)
      else s.setTracker r { k with slots := slots, noise := raiseCounter k.noise }
    else s

/-- Close every OPEN trace that `which` picks, in ascending slot order. -/
def closeTraces (r : Rail) (which : Trace → Bool) (s : State) : State := (List.finRange 32).foldl (closeTrace r which) s

/-- CHANNEL_END_NOTICE (R103): the distance check of one channel, all three gates. -/
def channelEndNotice (r : Rail) (s : State) : State :=
  match (s.tracker.get r).inbox.head? with
  | some (.channelEnd ch pf) =>
    let s := dropTracker r s
    closeTraces r
      (fun t => decide (t.channel = ch) && decide (((s.channel r ch).closeDistance : Int) < pf - t.lastHitPosition)) s
  | _ => s

def execChannelEndNotice (rail : Rail) (s : State) : Outcome := .next (channelEndNotice rail s)

/-- TRACKER_COMPLETION_NOTICE (R109). -/
def trackerCompletionNotice (r : Rail) (s : State) : State :=
  match (s.tracker.get r).inbox.head? with
  | some (.completion pf) => (dropTracker r s).toAssembler r (.completion pf)
  | _ => s

def execTrackerCompletionNotice (rail : Rail) (s : State) : Outcome := .next (trackerCompletionNotice rail s)

/-- TRACKER_COMMIT_LEAVING (R106): one leaving channel's traces before the next channel's. -/
def trackerCommitLeaving (r : Rail) (s : State) : State :=
  match (s.tracker.get r).inbox.head? with
  | some (.leaving chs) => chs.foldl (fun s ch => closeTraces r (fun t => decide (t.channel = ch)) s) (dropTracker r s)
  | _ => s

def execTrackerCommitLeaving (rail : Rail) (s : State) : Outcome := .next (trackerCommitLeaving rail s)

/-- TRACKER_FLUSH_NOTICE (R107). -/
def trackerFlushNotice (r : Rail) (s : State) : State :=
  match (s.tracker.get r).inbox.head? with
  | some .flush => (closeTraces r (fun _ => true) (dropTracker r s)).toAssembler r .flush
  | _ => s

def execTrackerFlushNotice (rail : Rail) (s : State) : Outcome := .next (trackerFlushNotice rail s)

/-- TRACKER_DRAIN_NOTICE (R108). -/
def trackerDrainNotice (r : Rail) (s : State) : State :=
  match (s.tracker.get r).inbox.head? with
  | some .drain => (closeTraces r (fun _ => true) (dropTracker r s)).toAssembler r .drain
  | _ => s

def execTrackerDrainNotice (rail : Rail) (s : State) : Outcome := .next (trackerDrainNotice rail s)

end Sys2Proof.Machine
end

