-- ==== Sys2Proof/Machine/Assembler.lean ====
section
/-! DEFINITION. The finding assemblers (chapter 8): joining indications, closing findings, classification and reporting. -/

namespace Sys2Proof.Machine

/-! ### Contributions and findings -/

/-- Two contributions of the same channel and gate combined field by field (R126). -/
def Contribution.combine (c i : Contribution) : Contribution :=
  { c with
    minPr := min c.minPr i.minPr
    maxPr := max c.maxPr i.maxPr
    minD := min c.minD i.minD
    maxD := max c.maxD i.maxD
    peak := if c.peak.amplitude < i.peak.amplitude then i.peak else c.peak
    hits := min Config.counterMax (c.hits + i.hits)
    uncoupled := c.uncoupled || i.uncoupled }

def Contribution.sameSource (c i : Contribution) : Bool := decide (c.channel = i.channel) && decide (c.gate = i.gate)

/-- Place a contribution in a finding: combined, appended while there is room, or dropped with TRUNCATED set (R129). -/
def Finding.place (f : Finding) (i : Contribution) : Finding :=
  if f.contributions.any (fun c => c.sameSource i) then
    { f with contributions := f.contributions.map (fun c => if c.sameSource i then c.combine i else c) }
  else if f.contributions.length < Config.contributionCapacity then { f with contributions := f.contributions ++ [i] }
  else { f with truncated := true }

/-- An indication is added to a finding (R129). -/
def Finding.add (f : Finding) (i : Contribution) : Finding :=
  { f with
    start := min f.start i.minPr
    finish := max f.finish i.maxPr
    depthMin := min f.depthMin i.minD
    depthMax := max f.depthMax i.maxD
    uncoupled := f.uncoupled || i.uncoupled }.place i

/-- The survivor takes in another overlapped finding (R130). -/
def Finding.takeIn (f g : Finding) : Finding :=
  g.contributions.foldl Finding.place
    { f with
      start := min f.start g.start
      finish := max f.finish g.finish
      depthMin := min f.depthMin g.depthMin
      depthMax := max f.depthMax g.depthMax
      truncated := f.truncated || g.truncated
      uncoupled := f.uncoupled || g.uncoupled }

/-- A finding that opens with an indication (R131). -/
def Finding.openWith (i : Contribution) : Finding :=
  { start := i.minPr, finish := i.maxPr, depthMin := i.minD, depthMax := i.maxD, contributions := [i], truncated := false,
    uncoupled := i.uncoupled }

/-- An indication overlaps a finding: the gap between them is at most the join tolerance (R128). -/
def Finding.overlaps (f : Finding) (i : Contribution) (join : Nat) : Bool :=
  decide (f.start - join ≤ i.maxPr) && decide (i.minPr ≤ f.finish + join)

/-! ### The open findings in order -/

/-- Ascending order of start, the lower-numbered slot first on equal starts (R130, R132 to R134). -/
def comesFirst (x y : Fin 16 × Finding) : Bool :=
  decide (x.2.start < y.2.start) || (decide (x.2.start = y.2.start) && decide (x.1 < y.1))

def insertFinding (x : Fin 16 × Finding) : List (Fin 16 × Finding) → List (Fin 16 × Finding)
  | [] => [x]
  | y :: rest => if comesFirst x y then x :: y :: rest else y :: insertFinding x rest

/-- The OPEN findings with their slots, in that order. -/
def Assembler.inOrder (a : Assembler) : List (Fin 16 × Finding) :=
  ((List.finRange 16).filterMap (fun i => a.slots[i].map (fun f => (i, f)))).foldr insertFinding []

/-! ### Classification (section 8.4) -/

/-- The channel set of a finding (R137). -/
def Finding.channelSet (f : Finding) : Word16 := f.contributions.foldl (fun w c => addChannel w c.channel) 0

/-- The depth of the peak of the strongest contribution, the earliest on equal amplitudes (R137). -/
def Finding.peakDepth (f : Finding) : Nat :=
  match f.contributions with
  | [] => 0
  | c :: rest => (rest.foldl (fun (b : Peak) x => if b.amplitude < x.peak.amplitude then x.peak else b) c.peak).depth

/-- The landmark condition of a pattern (R136, R122). -/
def LandmarkCondition.holds (c : LandmarkCondition) (l : LandmarkList) (r : Rail) (f : Finding) : Bool :=
  match c with
  | .unconditional => true
  | .near k w => l.present r f.start f.finish k w
  | .notNear k w => !l.present r f.start f.finish k w

/-- A condition that takes a proximity query (R122, R136). -/
def LandmarkCondition.asks : LandmarkCondition → Bool
  | .unconditional => false
  | .near _ _ => true
  | .notNear _ _ => true

/-- Conditions 1 to 3 of a pattern (R136). -/
def Pattern.matchesShape (p : Pattern) (r : Rail) (f : Finding) : Bool :=
  p.rails.covers r && (f.channelSet &&& p.considered) == p.required &&
    decide (p.depthMin ≤ f.peakDepth) && decide (f.peakDepth ≤ p.depthMax)

/-- The search makes the proximity query of a pattern when the first three conditions hold and the fourth is NEAR or NOT_NEAR
(R137). -/
def Pattern.asks (p : Pattern) (r : Rail) (f : Finding) : Bool := p.matchesShape r f && p.condition.asks

/-- A pattern matches a closed finding (R136). -/
def Pattern.matchesFinding (p : Pattern) (l : LandmarkList) (r : Rail) (f : Finding) : Bool :=
  p.matchesShape r f && p.condition.holds l r f

/-- The moment of a proximity query: what waited to befall the landmark list right before it has come about (R122, log 38). -/
def reachQuery (s : State) : State := (s.between.headD []).foldl landmarkStep { s with between := s.between.tail }

/-- The first of these entries that matches (R137). Each proximity query is answered from the list as it stands when that query is
taken (R122). -/
def searchFrom (r : Rail) (f : Finding) : List (Fin 16) → State → State × Option (Fin 16 × Pattern)
  | [], s => (s, none)
  | i :: rest, s =>
    match s.setup.patterns[i] with
    | none => searchFrom r f rest s
    | some p =>
      let s := if p.asks r f then reachQuery s else s
      if p.matchesFinding s.landmarks r f then (s, some (i, p)) else searchFrom r f rest s

/-- What classification gives (R137): class, matching entry, action. -/
structure Verdict where
  cls : Nat
  pattern : Option (Fin 16)
  action : PatternAction
  deriving DecidableEq, Repr

/-- The classification of a closed finding: table and settings as they stand at the step that makes it, the list as it stands at
each query (R137, log 38). -/
def classify (r : Rail) (f : Finding) (s : State) : State × Verdict :=
  match searchFrom r f (List.finRange 16) s with
  | (s, some (i, p)) => (s, ⟨p.cls, some i, p.action⟩)
  | (s, none) => (s, ⟨0, none, .act (s.setup.rails.get r).defaultAction⟩)

/-! ### Closing -/

/-- The next finding number (R139). -/
def nextNumber (n : Nat) : Nat := if n = 65535 then 1 else n + 1

/-- The mark's target: floor((start + end) / 2) (R139). -/
def Finding.target (f : Finding) : Int := (f.start + f.finish) / 2

/-- Number, report and mark a closed finding, in the order of R139. -/
def reportFinding (r : Rail) (how : ClosedBy) (f : Finding) (v : Verdict) (action : ReportAction) (s : State) : State :=
  let number := nextNumber (s.assembler.get r).number
  let marks := action == .reportAndMark && (s.setup.rails.get r).markerEnable
  let s := s.setAssembler r { s.assembler.get r with number := number }
  let s := s.offer (.finding ⟨r, number, v.cls, v.pattern, action, marks, how, f, f.peakDepth⟩)
  let s := s.handPulse (.finding r)
  if marks then s.requestMark r ⟨number, f.target⟩ else s

/-- Close a finding: classified, then reported (R139) or suppressed (R138); its slot becomes FREE. -/
def closeFinding (r : Rail) (how : ClosedBy) (s : State) (x : Fin 16 × Finding) : State :=
  let (s, v) := classify r x.2 s
  let s :=
    match v.action with
    | .act action => reportFinding r how x.2 v action s
    | .suppress => s.setRun { s.run with suppressed := raiseCounter s.run.suppressed }
  s.setAssembler r { s.assembler.get r with slots := setAt (s.assembler.get r).slots x.1 none }

/-! ### Inputs -/

/-- The assembler's inputs with the first one taken. -/
def dropAssembler (r : Rail) (s : State) : State :=
  s.setAssembler r { s.assembler.get r with inbox := (s.assembler.get r).inbox.tail }

def State.setSlot (s : State) (r : Rail) (i : Fin 16) (f : Option Finding) : State :=
  s.setAssembler r { s.assembler.get r with slots := setAt (s.assembler.get r).slots i f }

/-- An indication overlaps nothing: it opens a finding in the lowest FREE slot, or in the slot of the finding with the least
start, which is closed first (R131, R132). -/
def openFinding (r : Rail) (i : Contribution) (s : State) : State :=
  match lowestFree (s.assembler.get r).slots with
  | some k => s.setSlot r k (some (Finding.openWith i))
  | none =>
    match (s.assembler.get r).inOrder.head? with
    | some x => (closeFinding r .forced s x).setSlot r x.1 (some (Finding.openWith i))
    | none => s

/-- An indication taken (R128): joined to one finding (R129), several merged (R130), or a new one opened. -/
def joinIndication (r : Rail) (i : Contribution) (s : State) : State :=
  let a := s.assembler.get r
  match a.inOrder.filter (fun x => x.2.overlaps i (s.setup.rails.get r).join) with
  | [] => openFinding r i s
  | (k, f) :: others =>
    let merged := (others.foldl (fun f x => f.takeIn x.2) f).add i
    let freed := others.foldl (fun v x => setAt v x.1 none) a.slots
    s.setAssembler r { a with slots := setAt freed k (some merged) }

/-- INDICATION (R128). -/
def takeIndication (r : Rail) (s : State) : State :=
  match (s.assembler.get r).inbox.head? with
  | some (.indication i) => joinIndication r i (dropAssembler r s)
  | _ => s

def execIndication (rail : Rail) (s : State) : Outcome := .next (takeIndication rail s)

/-- Close the OPEN findings that `which` picks, in ascending order of start. -/
def closeFindings (r : Rail) (how : ClosedBy) (which : Finding → Bool) (s : State) : State :=
  ((s.assembler.get r).inOrder.filter (fun x => which x.2)).foldl (closeFinding r how) s

/-- SETTLE_CHECK (R133). -/
def settleCheck (r : Rail) (s : State) : State :=
  match (s.assembler.get r).inbox.head? with
  | some (.completion pf) =>
    closeFindings r .settle (fun f => decide (((s.setup.rails.get r).settle : Int) < pf - f.finish)) (dropAssembler r s)
  | _ => s

def execSettleCheck (rail : Rail) (s : State) : Outcome := .next (settleCheck rail s)

/-- ASSEMBLER_FLUSH_NOTICE (R134). -/
def assemblerFlushNotice (r : Rail) (s : State) : State :=
  match (s.assembler.get r).inbox.head? with
  | some .flush => closeFindings r .flush (fun _ => true) (dropAssembler r s)
  | _ => s

def execAssemblerFlushNotice (rail : Rail) (s : State) : Outcome := .next (assemblerFlushNotice rail s)

/-- ASSEMBLER_DRAIN_NOTICE (R135): every finding closed, then the notice goes to the run controller. -/
def assemblerDrainNotice (r : Rail) (s : State) : State :=
  match (s.assembler.get r).inbox.head? with
  | some .drain =>
    let s := closeFindings r .drain (fun _ => true) (dropAssembler r s)
    s.setRun { s.run with drainNotices := s.run.drainNotices.set r true }
  | _ => s

def execAssemblerDrainNotice (rail : Rail) (s : State) : Outcome := .next (assemblerDrainNotice rail s)

end Sys2Proof.Machine
end

