-- ==== Sys2Proof/Machine/Gates.lean ====
section
/-! DEFINITION. The gates of a firing (sections 3.1 to 3.3), the snapshot's reduction (R55), the geometry of a hit
(sections 5.2, 5.3) and the coverage step of one channel (chapter 4), as functions of what the rules name. -/

namespace Sys2Proof.Machine

/-! ### Gates -/

/-- The samples with index `start` to `start + width - 1`, cut off at the end of the sequence (R42, R44). -/
def window (samples : List Nat) (start width : Nat) : List Nat := (samples.drop start).take width

/-- The interface time and amplitude: the first sample of the window at or above the interface level (R43). -/
def interfaceEcho (r : ChannelRecord) (samples : List Nat) : Option Hit :=
  let w := window samples r.interfaceStart r.interfaceWidth
  match w.findIdx? (fun a => decide (r.interfaceLevel ≤ a)) with
  | none => none
  | some k => some ⟨r.interfaceStart + k, w.getD k 0⟩

/-- The level from a point on (R46): the point's own level after the last point, and a quotient cut toward zero between
two points. -/
def levelFrom (p : CurvePoint) : List CurvePoint → Nat → Int
  | [], _ => p.level
  | q :: rest, t =>
    if t < q.time then
      p.level + Int.tdiv (((q.level : Int) - p.level) * ((t : Int) - p.time)) ((q.time : Int) - p.time)
    else levelFrom q rest t

/-- The level curve at sample time t (R46); `none` for a curve with no points. -/
def curveLevel (curve : List CurvePoint) (t : Nat) : Option Int :=
  match curve with
  | [] => none
  | p :: rest => some (if t ≤ p.time then p.level else levelFrom p rest t)

/-- The level that applies at sample time t (R45). -/
def FlawGate.levelAt (g : FlawGate) (curve : List CurvePoint) (t : Nat) : Int :=
  if g.useCurve then (curveLevel curve t).getD g.level else g.level

/-- The samples of a gate's evaluated window with their sample times (R44). -/
def FlawGate.timed (g : FlawGate) (samples : List Nat) (interfaceTime : Nat) : List Hit :=
  (window samples (interfaceTime + g.start) g.width).zipIdx.map (fun x => ⟨g.start + x.2, x.1⟩)

/-- A sample reaches its level (R45). -/
def FlawGate.reaches (g : FlawGate) (curve : List CurvePoint) (h : Hit) : Bool :=
  decide (g.levelAt curve h.time ≤ (h.amplitude : Int))

/-- The greatest amplitude, the earliest among equals (R47, R87). -/
def strongest : List Hit → Option Hit
  | [] => none
  | h :: rest => some (rest.foldl (fun b x => if b.amplitude < x.amplitude then x else b) h)

/-- The greatest amplitude of a window. -/
def greatest (hs : List Hit) : Nat := hs.foldl (fun n h => max n h.amplitude) 0

/-- The outcome of an evaluated PEAK gate (R47). -/
def peakOutcome (hs : List Hit) (reaches : Hit → Bool) : GateOutcome :=
  match strongest (hs.filter reaches) with
  | none => .noHit
  | some h => .hit h

/-- The outcome of an evaluated FIRST gate (R48): the first sample that reaches, and the greatest amplitude of the run that
starts there. -/
def firstOutcome (hs : List Hit) (reaches : Hit → Bool) : GateOutcome :=
  match hs.dropWhile (fun h => !reaches h) with
  | [] => .noHit
  | h :: rest => .hit ⟨h.time, greatest (h :: rest.takeWhile reaches)⟩

/-- The outcome of an evaluated ABSENT gate (R49). -/
def absentOutcome (start : Nat) (hs : List Hit) (reaches : Hit → Bool) : GateOutcome :=
  if hs.any reaches then .noHit else .hit ⟨start + hs.length / 2, greatest hs⟩

/-- The outcome of a present gate at this interface time (R44, R47 to R49); an empty window is not evaluated. -/
def FlawGate.outcome (g : FlawGate) (curve : List CurvePoint) (samples : List Nat) (interfaceTime : Nat) : GateOutcome :=
  let hs := g.timed samples interfaceTime
  if hs.isEmpty then .notEvaluated
  else
    match g.mode with
    | .peak => peakOutcome hs (g.reaches curve)
    | .first => firstOutcome hs (g.reaches curve)
    | .absent => absentOutcome g.start hs (g.reaches curve)

/-- The outcome of a gate, present or not, with the interface time found or not (R43, R50). -/
def gateOutcome (r : ChannelRecord) (samples : List Nat) (interface : Option Hit) (g : Option FlawGate) : GateOutcome :=
  match g, interface with
  | none, _ => .absentGate
  | some _, none => .notEvaluated
  | some g, some i => g.outcome r.curve samples i.time

/-- The gate result of one channel in one firing (R41, R43, R50). -/
def gateResult (r : ChannelRecord) (samples : List Nat) : GateResult :=
  let i := interfaceEcho r samples
  { interface := i
    pass := i.any (fun h => decide (r.couplingLevel ≤ h.amplitude))
    outcomes := Vector.ofFn (fun g => gateOutcome r samples i r.gates[g]) }

/-! ### The snapshot's points -/

/-- The greatest sample of each block of k samples, the last block cut off at the end (R55). The first argument bounds the
number of blocks. -/
def blockMaxima (k : Nat) : Nat → List Nat → List Nat
  | 0, _ => []
  | _, [] => []
  | n + 1, s :: rest => ((s :: rest).take k).foldl max 0 :: blockMaxima k n ((s :: rest).drop k)

/-- The block size k = ceil(n / 512) (R55). -/
def blockSize (n : Nat) : Nat := ceilDiv n Config.snapshotPoints

/-- The points of a snapshot (R55). -/
def snapshotPoints (samples : List Nat) : List Nat :=
  blockMaxima (blockSize samples.length) Config.snapshotPoints samples

/-! ### Geometry -/

/-- The effective time (R78). -/
def effectiveTime (t : Nat) (zero : Int) : Nat := clampNat 0 8191 (t - zero)

/-- The depth before its limit (R79). -/
def rawDepth (e kd : Nat) : Nat := (roundDiv ((e : Int) * kd) 65536).toNat

/-- Where a kept hit lies (R78 to R80): reflector position, depth, and whether DEPTH_CLAMPED is set. -/
structure Place where
  reflector : Int
  depth : Nat
  clamped : Bool
  deriving DecidableEq, Repr

def placeHit (r : ChannelRecord) (pf : Int) (h : Hit) : Place :=
  let e := effectiveTime h.time r.zero
  let d := rawDepth e r.kd
  { reflector := holdPosition (pf + r.offset + roundDiv (e * r.ka) 65536)
    depth := min d 2500
    clamped := decide (8191 < (h.time : Int) - r.zero) || decide (2500 < d) }

/-- The probe position Pp = Pf + O (R59), held within the position range (R80). -/
def probePosition (r : ChannelRecord) (pf : Int) : Int := holdPosition (pf + r.offset)

/-! ### Coverage -/

/-- The coupling state after a counted verdict (R61). An INACTIVE channel has no row in the table and stays so (log 20). -/
def nextCoupling (st : CouplingState) (pass : Bool) (fails passes failThreshold regainThreshold : Nat) : CouplingState :=
  match st, pass with
  | .inactive, _ => .inactive
  | .unknown, true => .coupled
  | .unknown, false => if failThreshold ≤ fails then .uncoupled else .unknown
  | .coupled, true => .coupled
  | .coupled, false => if failThreshold ≤ fails then .uncoupled else .coupled
  | .uncoupled, true => if regainThreshold ≤ passes then .coupled else .uncoupled
  | .uncoupled, false => .uncoupled

/-- Step 1 of R63: count the verdict of a firing at probe position pp and move the state (R61). -/
def Cover.count (c : Cover) (r : ChannelRecord) (pass : Bool) (pp : Int) : Cover :=
  let fails := if pass then 0 else raise 255 c.failCount
  let passes := if pass then raise 255 c.passCount else 0
  { c with
    failCount := fails
    passCount := passes
    firstFail := if pass then none else if c.failCount = 0 then some pp else c.firstFail
    coupling := nextCoupling c.coupling pass fails passes r.failThreshold r.regainThreshold }

def Causes.none : Causes := ⟨false, false, false⟩

/-- Step 3 of R63: a firing that took the channel into UNCOUPLED opens a stretch back to the first fail, or adds the
cause (R66). -/
def Cover.loseCoupling (c : Cover) (pp : Int) : Cover :=
  let from_ := c.firstFail.getD pp
  { c with
    stretch := some (match c.stretch with
      | Option.none => ⟨from_, { Causes.none with coupling := true }, false⟩
      | some st => { st with start := min st.start from_, causes := { st.causes with coupling := true } }) }

/-- Step 4 of R63: a blanked firing opens a stretch at its probe position, or adds the cause (R67). -/
def Cover.blank (c : Cover) (pp : Int) : Cover :=
  { c with
    stretch := some (match c.stretch with
      | Option.none => ⟨pp, { Causes.none with blanked := true }, false⟩
      | some st => { st with causes := { st.causes with blanked := true } }) }

/-- A firing overruns when its position less the previous firing position exceeds the spacing limit (R68). -/
def Cover.overruns (c : Cover) (r : ChannelRecord) (pf : Int) : Bool :=
  c.previous.any (fun p => decide ((r.spacing : Int) < pf - p))

/-- The first-fail position moves to pp where a run of fails is in progress (R68, R69). -/
def Cover.moveFirstFail (c : Cover) (pp : Int) : Cover :=
  { c with firstFail := if 0 < c.failCount then some pp else c.firstFail }

/-- An untested stretch as the step closes it: start, end, causes (R70). -/
structure Closed where
  start : Int
  finish : Int
  causes : Causes
  deriving DecidableEq, Repr

/-- Step 5 of R63: the spacing check (R68). -/
def Cover.space (c : Cover) (r : ChannelRecord) (pf pp : Int) : Cover × List Closed :=
  if c.overruns r pf then
    match c.stretch with
    | some st => ({ c with stretch := some { st with causes := { st.causes with spacing := true } } }, [])
    | Option.none =>
      (c.moveFirstFail pp, [⟨probePosition r (c.previous.getD pf), pp, { Causes.none with spacing := true }⟩])
  else (c, [])

/-- Step 6 of R63: a firing neither blanked nor made while UNCOUPLED closes the open stretch (R69). -/
def Cover.close (c : Cover) (pp : Int) : Cover × List Closed :=
  match c.stretch with
  | some st => ({ c with stretch := Option.none }.moveFirstFail pp, [⟨st.start, pp, st.causes⟩])
  | Option.none => (c, [])

/-- Steps 3 to 7 of R63, on a coverage whose verdict has been counted; `entered` says that the firing took the channel into
UNCOUPLED. The stretches closed are in the order of their records. -/
def Cover.stretches (c : Cover) (r : ChannelRecord) (pf : Int) (entered blanked : Bool) : Cover × List Closed :=
  let pp := probePosition r pf
  let c := if entered then c.loseCoupling pp else c
  let c := if blanked then c.blank pp else c
  let (c, spaced) := c.space r pf pp
  let (c, closed) := if blanked || c.coupling == .uncoupled then (c, []) else c.close pp
  ({ c with previous := some pf, lastProbe := some pp }, spaced ++ closed)

/-- The fate of a hit (R65): `none` when discarded, otherwise whether it carries the uncoupled mark. -/
def hitFate (blanked : Bool) (st : CouplingState) (mode : UncoupledMode) : Option Bool :=
  if blanked then Option.none
  else if st = .uncoupled then (match mode with | .hold => Option.none | .pass => some true)
  else some false

end Sys2Proof.Machine
end

