-- ==== Sys2Proof/Machine/Echo.lean ====
section
/-! DEFINITION. The echo processors (chapters 3 to 5): a completion processed whole, the commit handover, and the flush and
drain notices. -/

namespace Sys2Proof.Machine

/-! ### One channel of one completion (R41) -/

/-- Step 3 of R41: a snapshot bound to this firing of this channel is captured (R54 to R56). -/
def captureSnapshot (r : Rail) (pf : Int) (c : CompletedChannel) (interface : Option Hit) (s : State) : State :=
  if (s.echo.get r).snapshot = .bound c.channel pf then
    (s.setEcho r { s.echo.get r with snapshot := .idle }).offer
      (.snapshot (.captured r c.channel pf c.samples.length (interface.map Hit.time) (blockSize c.samples.length)
        (snapshotPoints c.samples)))
  else s

/-- The UNTESTED record of a closed stretch (R70). -/
def untested (r : Rail) (ch : Channel) (cut : Bool) (x : Closed) : Record := .untested ⟨r, ch, x.start, x.finish, x.causes, cut⟩

/-- Steps 1 to 7 of the coverage step (R63): the change of coupling state is handed on at the moment of the change (R62),
before the UNTESTED records are offered. -/
def coverChannel (r : Rail) (pf : Int) (c : CompletedChannel) (pass blanked : Bool) (s : State) : State :=
  let old := (s.echo.get r).cover[c.channel]
  let counted := old.count c.record pass (probePosition c.record pf)
  let entered := counted.coupling == .uncoupled && old.coupling != .uncoupled
  let (done, closed) := counted.stretches c.record pf entered blanked
  (closed.map (untested r c.channel false)).foldl State.offer (s.setCover r c.channel done)

/-- One kept hit: its geometry, its HIT record, which is offered when its turn comes if the hit-stream set then asks for it
(`recordOffer`), and its handover to the tracker, which takes it after that offer (`trackerHit`) (R76, R81 to R83, R102). -/
def keepHit (r : Rail) (pf : Int) (c : CompletedChannel) (mark : Bool) (g : Gate) (h : Hit) (s : State) : State :=
  let p := placeHit c.record pf h
  (s.offer (.hit ⟨r, c.channel, g, pf, p.reflector, p.depth, h.amplitude, mark, p.clamped⟩)).toTracker r
    (.hit ⟨c.channel, g, pf, p.reflector, p.depth, h.amplitude, mark⟩)

/-- Step 8 of the coverage step for one gate (R63, R65). -/
def sortHit (r : Rail) (pf : Int) (c : CompletedChannel) (fate : Option Bool) (res : GateResult) (s : State) (g : Gate) : State :=
  match fate, res.outcomes[g] with
  | some mark, .hit h => keepHit r pf c mark g h s
  | _, _ => s

/-- One channel of a completion of a run, whole: gates, snapshot, coverage, hits in gate order, and the channel-end notice
(R41, R63, R76, R96). The blanking query is answered from the list as it stands (R64). -/
def processChannel (r : Rail) (pf : Int) (s : State) (c : CompletedChannel) : State :=
  let res := gateResult c.record c.samples
  let s := captureSnapshot r pf c res.interface s
  let blanked := c.record.honour && s.landmarks.blanks r (probePosition c.record pf)
  let s := coverChannel r pf c res.pass blanked s
  let fate := hitFate blanked (s.echo.get r).cover[c.channel].coupling c.record.uncoupledMode
  let s := (List.finRange 3).foldl (sortHit r pf c fate res) s
  s.toTracker r (.channelEnd c.channel pf)

/-! ### The inputs of the echo processor -/

/-- An input that a completion gives the tracker: a hit, a channel-end notice or the completion notice (R96). -/
def TrackerItem.ofCompletion : TrackerItem → Bool
  | .hit _ => true
  | .channelEnd _ _ => true
  | .completion _ => true
  | .leaving _ => false
  | .flush => false
  | .drain => false

/-- The rail's tracker has still to take an input of a completion, so that the completion is not yet processed whole (R33). -/
def State.tracking (s : State) (r : Rail) : Bool := (s.tracker.get r).inbox.any TrackerItem.ofCompletion

/-- The input whose turn it is at the echo processor: the one handed over first, once the completion before it has been taken whole,
through tracking (R33, R161, R162); that this holds of a commit handover too is log 47. -/
def State.echoTurn (s : State) (r : Rail) : Option EchoItem := if s.tracking r then none else (s.echo.get r).inbox.head?

/-- The echo processor's inputs with the first one taken. -/
def dropEcho (r : Rail) (s : State) : State :=
  s.setEcho r { s.echo.get r with inbox := (s.echo.get r).inbox.tail }

/-- COMPLETION_PROCESSING (R41): the completion handed over first is taken whole, in group order; the completion notice
follows the last channel's (R96). All its blanking queries are answered from the landmark list as it stands at this step: the model's
choice (log 46). A void firing gives no result: no verdict, no hit, no snapshot, no previous firing position and
no channel-end notice (R35, R36, R71, R96, R106). -/
def completionProcessing (r : Rail) (s : State) : State :=
  match s.echoTurn r with
  | some (.completion pf _ cs) =>
    ((cs.filter (fun c => !c.void)).foldl (processChannel r pf) (dropEcho r s)).toTracker r (.completion pf)
  | _ => s

def execCompletionProcessing (rail : Rail) (s : State) : Outcome := .next (completionProcessing rail s)

/-! ### Cutting stretches, leaving and joining -/

/-- Cut the channel's open stretch at the probe position of its last firing processed (R71, R72). -/
def cutStretch (r : Rail) (s : State) (ch : Channel) : State :=
  let c := (s.echo.get r).cover[ch]
  match c.stretch with
  | none => s
  | some st =>
    (s.setCover r ch { c with stretch := none }).offer
      (untested r ch true ⟨st.start, c.lastProbe.getD st.start, st.causes⟩)

/-- The channel a pending snapshot names. -/
def PendingSnapshot.channel : PendingSnapshot → Option Channel
  | .idle => none
  | .waiting ch => some ch
  | .bound ch _ => some ch

/-- Cancel a pending snapshot, offering its CANCELLED record (R57). -/
def cancelSnapshot (r : Rail) (s : State) : State :=
  match (s.echo.get r).snapshot.channel with
  | none => s
  | some ch => (s.setEcho r { s.echo.get r with snapshot := .idle }).offer (.snapshot (.cancelled r ch))

/-- Steps 2 to 4 of R35 for a channel that leaves the in-plan set; the tracker has been handed the leaving channels. -/
def leavePlan (r : Rail) (s : State) (ch : Channel) : State :=
  let s := (cutStretch r s ch).setCover r ch (Cover.fresh false)
  if (s.echo.get r).snapshot.channel = some ch then cancelSnapshot r s else s

/-- A channel that joins the in-plan set (R36, R60). -/
def joinPlan (r : Rail) (s : State) (ch : Channel) : State := s.setCover r ch (Cover.fresh true)

/-- COMMIT_HANDOVER (R35, R36). All the leaving channels are handled before the joining ones (log 37). -/
def commitHandover (r : Rail) (s : State) : State :=
  match s.echoTurn r with
  | some (.commit leaving joining) =>
    joining.foldl (joinPlan r) (leaving.foldl (leavePlan r) ((dropEcho r s).toTracker r (.leaving leaving)))
  | _ => s

def execCommitHandover (rail : Rail) (s : State) : Outcome := .next (commitHandover rail s)

/-! ### Notices -/

/-- ECHO_FLUSH_NOTICE (R162): neither stretches nor coupling are touched. -/
def echoFlushNotice (r : Rail) (s : State) : State :=
  match s.echoTurn r with
  | some .flush => (dropEcho r s).toTracker r .flush
  | _ => s

def execEchoFlushNotice (rail : Rail) (s : State) : Outcome := .next (echoFlushNotice rail s)

/-- ECHO_DRAIN_NOTICE (R72): every open stretch of the rail is cut in ascending channel number, then the notice goes on. -/
def echoDrainNotice (r : Rail) (s : State) : State :=
  match s.echoTurn r with
  | some .drain => ((List.finRange 12).foldl (cutStretch r) (dropEcho r s)).toTracker r .drain
  | _ => s

def execEchoDrainNotice (rail : Rail) (s : State) : Outcome := .next (echoDrainNotice rail s)

end Sys2Proof.Machine
end

