-- ==== Sys2Proof/Machine/Firing.lean ====
section
/-! DEFINITION. The firing units (chapter 2): plans, binding, starting and completing groups, the commit, and the drain
notice. The two plan requests stand in Requests.lean. -/

namespace Sys2Proof.Machine

/-! ### Starting a group -/

/-- The channels of a group with their records as they stand at the start (R31, R40). -/
def State.fix (s : State) (r : Rail) (g : Group) : List FiredChannel := g.map (fun ch => ⟨ch, s.channel r ch⟩)

/-- A duration in ticks: this listen length times 10 ns, plus the rail recovery time (R21, R38). -/
def State.firingTicks (s : State) (r : Rail) (listen : Nat) : Nat :=
  listen + (s.setup.rails.get r).recovery * Config.ticksPerUs

/-- The largest listen length among the channels of a group (R21). -/
def longestListen (fired : List FiredChannel) : Nat := fired.foldl (fun n c => max n c.record.listen) 0

/-- A WAITING snapshot is bound to the first start of its channel, also where the request that starts was held already when
the snapshot was asked for (R54, log 31). -/
def bindSnapshot (g : Group) (position : Int) : PendingSnapshot → PendingSnapshot
  | .waiting ch => if g.contains ch then .bound ch position else .waiting ch
  | .idle => .idle
  | .bound ch p => .bound ch p

/-- A group starts now: the firing unit becomes FIRING with its end time fixed (R31, R21), and a WAITING snapshot of one
of its channels is bound (R54). -/
def startGroup (r : Rail) (q : PitchRequest) (s : State) : State :=
  let fired := s.fix r q.group
  let s := s.setFiring r
    { s.firing.get r with
      flight := some ⟨fired, q.position, s.now + s.firingTicks r (longestListen fired), []⟩ }
  s.setEcho r { s.echo.get r with snapshot := bindSnapshot q.group q.position (s.echo.get r).snapshot }

/-! ### Binding -/

/-- A bound pitch request reaches the firing unit: it starts at once when IDLE (R31); it is held when none is held, and
otherwise takes the held one's place, which is a skipped firing (R32). -/
def takeRequestBound (r : Rail) (q : PitchRequest) (s : State) : State :=
  let u := s.firing.get r
  if u.flight.isNone then startGroup r q s
  else if u.held.isNone then s.setFiring r { u with held := some q }
  else (s.setFiring r { u with held := some q, skipped := raiseCounter u.skipped }).handPulse .skip

/-- Bind a boundary to the group at the plan pointer, which then advances by one and returns to 0 after the last group
(R30). -/
def bindPitch (r : Rail) (boundary : Int) (s : State) : State :=
  let plan := s.setup.plans.get r
  let u := s.firing.get r
  match plan[u.pointer]? with
  | none => s
  | some g =>
    let pointer := if u.pointer + 1 < plan.length then u.pointer + 1 else 0
    takeRequestBound r ⟨g, boundary⟩ (s.setFiring r { u with pointer := pointer })

/-- Replace a rail's active plan. -/
def State.setPlan (s : State) (r : Rail) (p : Plan) : State :=
  s.setSetup { s.setup with plans := s.setup.plans.set r p }

/-- The channels in plan under `a` and not under `b`, in ascending number (R34). -/
def planDifference (a b : Plan) : List Channel := (List.finRange 12).filter (fun ch => a.has ch && !b.has ch)

/-- A commit leaves a group in flight as it is (R34), but its firing of a channel that left or joined gives no result (R35, R36). -/
def Flight.voided (f : Flight) (channels : List Channel) : Flight := { f with void := f.void ++ channels }

/-- The commit (R34): the staged plan becomes active, and the channels that left and joined go to the echo processor. -/
def commitPlan (r : Rail) (staged : Plan) (s : State) : State :=
  let old := s.setup.plans.get r
  let left := planDifference old staged
  let joined := planDifference staged old
  let u := s.firing.get r
  ((s.setPlan r staged).setFiring r { u with staged := none, flight := u.flight.map (fun f => f.voided (left ++ joined)) }).toEcho r
    (.commit left joined)

/-- PITCH_EVENT (R30): the firing unit takes the pitch event handed to it first. -/
def pitchEvent (r : Rail) (s : State) : State :=
  match (s.firing.get r).pitchEvents with
  | [] => s
  | b :: rest =>
    let u := { s.firing.get r with pitchEvents := rest }
    let s := s.setFiring r u
    if s.run.state = .running then
      match u.staged with
      | some p => if u.pointer = 0 then bindPitch r b (commitPlan r p s) else bindPitch r b s
      | none => bindPitch r b s
    else s

def execPitchEvent (rail : Rail) (s : State) : Outcome := .next (pitchEvent rail s)

/-! ### Completion -/

/-- What a lane's receiver records: listen-length samples, saturated at 4095 (R40). Beyond the operand's list the lane is
silent (log 15). -/
def recorded (listen : Nat) (signal : List Nat) : List Nat :=
  ((signal.take listen).map (fun a => min a 4095)) ++ List.replicate (listen - signal.length) 0

/-- The signal of one lane. -/
def laneSignal (l : LaneSamples) (lane : Lane) : List Nat := #v[l.lane0, l.lane1, l.lane2, l.lane3][lane]

/-- The channels of a group that are in plan at the completion, each with its sample sequence (R33). A channel that one commit
removed and a second one brought back while the group was in flight is in plan here and is handed over; its firing is void, so that
it gives no result (R35, R36, R71, R106, log 32). -/
def State.completed (s : State) (r : Rail) (l : LaneSamples) (f : Flight) : List CompletedChannel :=
  (f.channels.filter (fun c => s.inPlan r c.channel)).map
    (fun c => ⟨c.channel, c.record, recorded c.record.listen (laneSignal l c.record.lane), f.void.contains c.channel⟩)

/-- The group in flight: its channels in group order. -/
def Flight.group (f : Flight) : Group := f.channels.map FiredChannel.channel

/-- A firing unit that is IDLE in DRAINING sends the drain notice behind its last completion (R37). -/
def sendDrainNotice (r : Rail) (s : State) : State :=
  if s.run.state = .draining ∧ (s.firing.get r).flight = none then s.toEcho r .drain else s

/-- GROUP_COMPLETION (R33): the end time has come; the completion is handed over with its firing position and its group, then the held request starts or the unit
becomes IDLE. -/
def groupCompletion (r : Rail) (l : LaneSamples) (s : State) : State :=
  match (s.firing.get r).flight with
  | none => s
  | some f =>
    let s := s.advanceTo f.endTime
    let s := s.toEcho r (.completion f.position f.group (s.completed r l f))
    let u := s.firing.get r
    let s := s.setFiring r { u with flight := none, held := none }
    match u.held with
    | some q => startGroup r q s
    | none => sendDrainNotice r s

def execGroupCompletion (rail : Rail) (lanes : LaneSamples) (s : State) : Outcome :=
  .next (groupCompletion rail lanes s)

/-- The firing unit's part of a taken RUN_STOP (R37): the held request is dropped without a skip, and a unit that is IDLE
sends its drain notice at once. -/
def drainFiring (r : Rail) (s : State) : State :=
  sendDrainNotice r (s.setFiring r { s.firing.get r with held := none })

/-- The firing unit after RESTART (R39). Pitch events not yet taken stay (log 7). -/
def FiringUnit.restarted (u : FiringUnit) : FiringUnit :=
  { FiringUnit.powerOn with pitchEvents := u.pitchEvents }

end Sys2Proof.Machine
end

