-- ==== Sys2Proof/Machine/Crc.lean ====
section
/-! DEFINITION. The CRC-16 of line frames and of the verification signature (R167, R173): polynomial 0x1021, initial value
0xFFFF, each byte fed most significant bit first, no final inversion. -/

namespace Sys2Proof.Machine

/-- One bit of the division by the polynomial. -/
def crcShift (c : Word16) : Word16 := if c.msb then (c <<< 1) ^^^ 0x1021#16 else c <<< 1

/-- Feed one byte. -/
def crcByte (c : Word16) (b : Byte) : Word16 :=
  crcShift (crcShift (crcShift (crcShift (crcShift (crcShift (crcShift (crcShift (c ^^^ (b.setWidth 16 <<< 8)))))))))

/-- The CRC-16 over a sequence of bytes. -/
def crc16 (bs : List Byte) : Word16 := bs.foldl crcByte 0xFFFF#16

/-- A number as bytes, high byte first (R173); signed numbers in two's complement. -/
def bytes1 (v : Int) : List Byte := [BitVec.ofInt 8 v]
def bytes2 (v : Int) : List Byte := [BitVec.ofInt 8 (v / 256), BitVec.ofInt 8 v]
def bytes4 (v : Int) : List Byte :=
  [BitVec.ofInt 8 (v / 16777216), BitVec.ofInt 8 (v / 65536), BitVec.ofInt 8 (v / 256), BitVec.ofInt 8 v]

end Sys2Proof.Machine
end

