-- ==== Sys2Proof/Machine/Wire.lean ====
section
/-! DEFINITION. The bytes of the line (section 11.6): record lengths and layouts, bundle and reply bodies, and whole frames
(R173). What section 11.6 does not say is a free value of Config or, for the replies, the layout of log 13. -/

namespace Sys2Proof.Machine

/-! ### Enumerations as the line carries them: counted from 0 in the order their chapters list them -/

def railByte : Rail → Nat
  | .left => 0
  | .right => 1

def RunState.code : RunState → Nat
  | .stopped => 0
  | .running => 1
  | .draining => 2
  | .calibrating => 3
  | .verifying => 4

def Motion.code : Motion → Nat
  | .forward => 0
  | .reverse => 1
  | .standstill => 2

def CouplingState.code : CouplingState → Nat
  | .inactive => 0
  | .unknown => 1
  | .coupled => 2
  | .uncoupled => 3

def StatusCause.code : StatusCause → Nat
  | .periodic => 0
  | .change => 1
  | .request => 2

def SetupSource.code : SetupSource → Nat
  | .stored => 0
  | .default => 1

def MarkOutcome.code : MarkOutcome → Nat
  | .queued => 0
  | .late => 1
  | .merged => 2
  | .full => 3
  | .fired => 4
  | .discarded => 5

def ReportAction.code : ReportAction → Nat
  | .report => 0
  | .reportAndMark => 1

def ClosedBy.code : ClosedBy → Nat
  | .settle => 0
  | .forced => 1
  | .flush => 2
  | .drain => 3

def CalResult.code : CalResult → Nat
  | .step1Done => 0
  | .noEcho => 1
  | .done => 2
  | .order => 3
  | .range => 4
  | .aborted => 5

def ReplyCode.code : ReplyCode → Nat
  | .ok => 0
  | .clamped => 1
  | .busy => 2
  | .state => 3
  | .range => 4
  | .conflict => 5
  | .order => 6
  | .full => 7
  | .duplicate => 8
  | .invalid => 9
  | .unknown => 10
  | .length => 11

/-- A flaw gate's number 1 to 3. -/
def gateNumber (g : Gate) : Nat := g.val + 1

/-! ### Records -/

/-- The total length of a record (section 11.6); CAL_RESULT and VERIFY_RESULT as their chapters' tables give their fields
(log 10). -/
def Record.length : Record → Nat
  | .hit _ => 19
  | .snapshot (.captured _ _ _ _ _ _ points) => 17 + 2 * points.length
  | .snapshot (.cancelled _ _) => 17
  | .finding r => 27 + 25 * r.finding.contributions.length
  | .untested _ => 15
  | .mark _ => 23
  | .calResult _ => 28
  | .verifyResult r => 17 + 15 * r.entries.length
  | .setupResult _ => 5
  | .status _ => 73

/-- A record's kind (section 11.6). -/
def Record.kindCode : Record → Nat
  | .hit _ => 1
  | .snapshot _ => 2
  | .finding _ => 3
  | .untested _ => 4
  | .mark _ => 5
  | .calResult _ => 6
  | .verifyResult _ => 7
  | .setupResult _ => 8
  | .status _ => 9

/-- Byte 1 of the record head: 0 left, 1 right, 2 device-wide. -/
def Record.railCode : Record → Nat
  | .hit r => railByte r.rail
  | .snapshot (.captured r _ _ _ _ _ _) => railByte r
  | .snapshot (.cancelled r _) => railByte r
  | .finding r => railByte r.rail
  | .untested r => railByte r.rail
  | .mark r => railByte r.rail
  | .calResult r => railByte r.rail
  | .verifyResult r => railByte r.rail
  | .setupResult _ => 2
  | .status _ => 2

/-- A time that is none is 0xFFFF. -/
def timeBytes (t : Option Nat) : List Byte := bytes2 (t.getD 0xFFFF)

/-- A hit's time and amplitude, or none. -/
def hitBytes (h : Option Hit) : List Byte :=
  timeBytes (h.map Hit.time) ++
    (match h with
    | some h => bytes2 h.amplitude
    | none => bytes2 Config.noAmplitudeWord.toNat)

/-- A contribution of a FINDING record (section 11.6). The uncoupled flag's byte is 1 when set and 0 when clear: the section gives
it a byte and no code (log 39). -/
def Contribution.bytes (c : Contribution) : List Byte :=
  bytes1 c.channel.val ++ bytes1 (gateNumber c.gate) ++ bytes1 (flagBit 0 c.uncoupled) ++ bytes4 c.minPr ++ bytes4 c.maxPr ++
    bytes2 c.minD ++ bytes2 c.maxD ++ bytes2 c.peak.amplitude ++ bytes4 c.peak.reflector ++ bytes2 c.peak.depth ++ bytes2 c.hits

/-- The channels of a rail whose coupling state entered a change set. -/
def couplingBytes (v : Vector CouplingState 12) : List Byte := (List.finRange 12).flatMap (fun ch => bytes1 v[ch].code)

/-- The STATUS bytes from byte 4 on: bytes 4 to 72. -/
def StatusRecord.bytes (r : StatusRecord) : List Byte :=
  bytes1 r.cause.code ++ bytes1 r.runState.code ++ bytes1 (if r.writing then 1 else 0) ++ bytes1 r.source.code ++
    bytes1 r.motion.code ++ bytes1 r.lineBits ++ bytes4 r.carPosition ++ bytes4 r.frontier ++ bytes2 r.speed ++
    couplingBytes r.coupling.left ++ couplingBytes r.coupling.right ++ bytes1 r.changes.markBits ++
    bytes2 r.changes.coupling.left.toNat ++ bytes2 r.changes.coupling.right.toNat ++ bytes2 r.occupancy ++
    bytes2 r.skipped.left ++ bytes2 r.skipped.right ++ bytes2 r.overflow.left ++ bytes2 r.overflow.right ++
    bytes2 r.noise.left ++ bytes2 r.noise.right ++ bytes2 r.suppressed ++ bytes2 r.frameErrors ++ bytes2 r.overruns ++
    bytes2 r.dropped ++ bytes2 r.lost

/-- A VERIFY_RESULT entry (R167). -/
def VerifyEntry.bytes (e : VerifyEntry) : List Byte :=
  bytes1 e.channel.val ++ timeBytes e.interface ++ (List.finRange 3).flatMap (fun g => hitBytes e.hits[g])

/-- The bytes of a record after its four-byte head. -/
def Record.fieldBytes : Record → List Byte
  | .hit r =>
    bytes1 r.channel.val ++ bytes1 (gateNumber r.gate) ++ bytes1 r.flagBits ++ bytes2 r.amplitude ++ bytes2 r.depth ++
      bytes4 r.position ++ bytes4 r.reflector
  | .snapshot (.captured _ ch pf n i k points) =>
    bytes1 ch.val ++ bytes1 0 ++ bytes4 pf ++ bytes2 n ++ timeBytes i ++ bytes1 k ++ bytes2 points.length ++
      points.flatMap (fun p => bytes2 p)
  | .snapshot (.cancelled _ ch) =>
    bytes1 ch.val ++ bytes1 1 ++ bytes4 0 ++ bytes2 0 ++ timeBytes none ++ bytes1 0 ++ bytes2 0
  | .finding r =>
    bytes2 r.number ++ bytes1 r.cls ++ bytes1 ((r.pattern.map Fin.val).getD 0xFF) ++ bytes1 r.action.code ++
      bytes1 (yesNo r.markRequested) ++ bytes1 r.closedBy.code ++ bytes1 r.flagBits ++ bytes4 r.finding.start ++
      bytes4 r.finding.finish ++ bytes2 r.finding.depthMin ++ bytes2 r.finding.depthMax ++ bytes2 r.peakDepth ++
      bytes1 r.finding.contributions.length ++ r.finding.contributions.flatMap Contribution.bytes
  | .untested r => bytes1 r.channel.val ++ bytes1 r.causes.bits ++ bytes1 (yesNo r.cut) ++ bytes4 r.start ++ bytes4 r.finish
  | .mark r =>
    bytes1 r.outcome.code ++ bytes1 r.occupancy ++ bytes1 r.mergedCount ++ bytes2 r.finding ++ bytes4 r.target ++
      (match r.absorbing with
      | some a => bytes2 a.finding ++ bytes4 a.target
      | none => bytes2 0 ++ bytes4 Config.noPositionWord.toNat) ++
      bytes4 (r.gun.getD 0)
  | .calResult r =>
    bytes1 r.channel.val ++ bytes1 (gateNumber r.gate) ++ bytes1 (if r.second then 2 else 1) ++ bytes1 r.result.code ++
      bytes2 r.depth ++ hitBytes r.measured ++ bytes2 r.done ++
      (match r.firstPoint with
      | some (d, t) => bytes2 d ++ bytes2 t
      | none => bytes2 Config.noDepthWord.toNat ++ timeBytes none) ++
      bytes2 r.kd ++ bytes2 r.zero ++ bytes4 r.ka
  | .verifyResult r =>
    bytes1 (if r.signature.isSome then 0 else 1) ++ bytes2 r.echo.d1 ++ bytes2 r.echo.a1 ++ bytes2 r.echo.d2 ++
      bytes2 r.echo.a2 ++ bytes2 r.entries.length ++ r.entries.flatMap VerifyEntry.bytes ++
      bytes2 (r.signature.getD Config.noSignatureWord).toNat
  | .setupResult done => bytes1 (if done then 0 else 1)
  | .status r => r.bytes

/-- A whole record: its head (kind, rail, total length) and its fields. -/
def Record.bytes (r : Record) : List Byte :=
  bytes1 r.kindCode ++ bytes1 r.railCode ++ bytes2 r.length ++ r.fieldBytes

/-! ### Frames -/

/-- A frame around a body: two sync bytes, the body length, the body, the CRC-16 over length and body (R173). -/
def frameBytes (body : List Byte) : List Byte :=
  bytes1 0xC3 ++ bytes1 0x5A ++ bytes2 body.length ++ body ++ bytes2 (crc16 (bytes2 body.length ++ body)).toNat

/-! ### Replies

A reply's fields take the bytes that the same fields take in the request that brings them (`TravelFields.size` to
`ReportingFields.size`, log 4), in the order of their chapter's table, every number high byte first (R173, log 13). -/

def DirectionSense.code : DirectionSense → Nat
  | .normal => 0
  | .swapped => 1

def Source.code : Source → Nat
  | .off => 0
  | .on => 1
  | .uncoupledLeft => 2
  | .uncoupledRight => 3
  | .allCoupled => 4
  | .sprayLeft => 5
  | .sprayRight => 6
  | .overspeed => 7
  | .hostSilent => 8
  | .running => 9
  | .findingLeft => 10
  | .findingRight => 11
  | .findingAny => 12
  | .skip => 13

/-- The four travel settings (section 1.4). -/
def TravelSettings.bytes (t : TravelSettings) : List Byte :=
  bytes1 t.sense.code ++ bytes4 t.scale ++ bytes4 t.pitch ++ bytes2 t.standstill

/-- The reporting settings (section 11.5). -/
def ReportingSettings.bytes (x : ReportingSettings) : List Byte :=
  bytes2 x.highWater ++ bytes2 x.cap ++ bytes2 x.flushDelay ++ bytes2 x.statusInterval ++ bytes1 (yesNo x.statusOnChange) ++
    bytes2 x.hitStream.left.toNat ++ bytes2 x.hitStream.right.toNat ++ bytes2 x.silenceLimit

/-- A flaw gate (R19, R24). -/
def gateBytes (g : GateFields) : List Byte :=
  bytes1 g.presence ++ bytes1 g.mode ++ bytes2 g.start ++ bytes2 g.width ++ bytes2 g.level ++ bytes1 g.useCurve ++
    bytes4 g.positionTolerance ++ bytes2 g.depthTolerance ++ bytes2 g.minimumHits

/-- A channel record (R19). -/
def channelBytes (f : ChannelFields) : List Byte :=
  bytes1 f.lane ++ bytes2 f.listen ++ bytes4 f.offset ++ bytes2 f.kd ++ bytes4 f.angle ++ bytes2 f.zero ++
    bytes2 f.interfaceStart ++ bytes2 f.interfaceWidth ++ bytes2 f.interfaceLevel ++ bytes2 f.couplingLevel ++
    bytes2 f.failThreshold ++ bytes2 f.regainThreshold ++ bytes1 f.uncoupledMode ++ bytes4 f.spacing ++ bytes1 f.honour ++
    bytes4 f.closeDistance ++ bytes2 f.curve.length ++ f.curve.flatMap (fun p => bytes2 p.time ++ bytes2 p.level) ++
    gateBytes f.gate1 ++ gateBytes f.gate2 ++ gateBytes f.gate3

/-- A group: its count and its channels. -/
def groupBytes (g : Group) : List Byte := bytes2 g.length ++ g.flatMap (fun ch => bytes1 ch.val)

/-- A plan: its count and its groups (R27). -/
def planBytes (p : Plan) : List Byte := bytes2 p.length ++ p.flatMap groupBytes

/-- A rail record (section 2.3). -/
def RailSettings.bytes (x : RailSettings) : List Byte :=
  bytes2 x.recovery ++ bytes4 x.join ++ bytes4 x.settle ++ bytes1 x.defaultAction.code ++ bytes1 (yesNo x.markerEnable) ++
    bytes4 x.gunOffset ++ bytes4 x.merge ++ bytes2 x.spray

/-- A pattern (R136). -/
def patternBytes (p : PatternFields) : List Byte :=
  bytes1 p.rails ++ bytes2 p.considered.toNat ++ bytes2 p.required.toNat ++ bytes2 p.depthMin ++ bytes2 p.depthMax ++
    bytes1 p.condition ++ bytes1 p.kind ++ bytes4 p.window ++ bytes1 p.cls ++ bytes1 p.action

/-- The four routes and the speed limit (section 9.6). -/
def SignalSettings.bytes (x : SignalSettings) : List Byte :=
  x.routes.toList.flatMap (fun q => bytes1 q.source.code ++ bytes1 (yesNo q.invert) ++ bytes2 q.stretch) ++ bytes2 x.speedLimit

/-- Two echoes (R165). -/
def TestEcho.bytes (e : TestEcho) : List Byte := bytes2 e.d1 ++ bytes2 e.a1 ++ bytes2 e.d2 ++ bytes2 e.a2

/-- FREE VALUE (log 13): the last of the twelve bytes that R118 gives an entry of READ_LANDMARKS, which its fields leave over. -/
opaque landmarkSpareByte : Landmark → Byte

/-- A landmark in its twelve bytes (R118). -/
def Landmark.bytes (e : Landmark) : List Byte :=
  bytes4 e.start ++ bytes4 e.length ++ bytes1 e.kind.code ++ bytes1 e.rails.code ++ bytes1 (yesNo e.blank) ++ [landmarkSpareByte e]

/-- The bytes of a reply beyond its head: the fields its rule names, in that order (log 13); those of READ_STATUS are the STATUS
bytes (R183). -/
def ReplyPayload.bytes : ReplyPayload → List Byte
  | .headOnly => []
  | .identity vendor part revision source capacities =>
    bytes2 vendor ++ bytes2 part ++ bytes1 revision ++ bytes1 source.code ++ capacities.flatten.flatMap (fun n : Nat => bytes2 n)
  | .status r => r.bytes
  | .reporting x => x.bytes
  | .travel t => t.bytes
  | .calibration count scale distance => bytes4 count ++ bytes4 scale ++ bytes4 distance
  | .channel fields ka => channelBytes fields ++ bytes4 ka
  | .plan active staged pointer firing =>
    planBytes active ++ bytes1 (yesNo staged.isSome) ++ staged.elim [] planBytes ++ bytes1 pointer ++ bytes1 (flagBit 0 firing)
  | .railRecord x => x.bytes
  | .levels interface coupling flaw => bytes2 interface ++ bytes2 coupling ++ flaw.toList.flatMap (fun n : Nat => bytes2 n)
  | .calDepth depth => bytes2 depth
  | .landmarkCount count => bytes2 count
  | .landmarksAdded count entries => bytes2 count ++ bytes2 entries.length ++ entries.flatMap Landmark.bytes
  | .retention distance => bytes4 distance
  | .landmarks distance entries => bytes4 distance ++ bytes2 entries.length ++ entries.flatMap Landmark.bytes
  | .pattern entry => bytes1 (yesNo entry.isSome) ++ entry.elim [] patternBytes
  | .signals x => x.bytes
  | .verification rail e => bytes1 (railByte rail) ++ e.bytes

/-- The body of an outgoing frame (section 11.6, Body head). -/
def Outgoing.body : Outgoing → List Byte
  | .reply r => [r.kind, r.tag] ++ bytes1 r.code.code ++ bytes1 r.index ++ r.payload.bytes
  | .bundle tag rs => bytes1 0x80 ++ [tag] ++ bytes2 rs.length ++ rs.flatMap Record.bytes

/-- The bytes the transmitter sends for a frame (R173). -/
def Outgoing.bytes (o : Outgoing) : List Byte := frameBytes o.body

end Sys2Proof.Machine
end

