-- ==== Sys2Proof/Machine/Line.lean ====
section
/-! DEFINITION. The host line (chapter 11): the frame receiver, the transmitter, the report queue and its bundle, STATUS and
host silence. -/

namespace Sys2Proof.Machine

/-! ### The frame receiver (R174) -/

/-- What one byte does to the receiver: it moves or stays, completes a valid frame, or discards the frame. -/
inductive ByteOutcome where
  | moved (r : Receiver)
  | valid (body : List Byte)
  | discarded
  deriving DecidableEq, Repr

/-- A body length in range: 4 to 2040 (R173). -/
def lengthInRange (n : Nat) : Bool := decide (4 ≤ n) && decide (n ≤ 2040)

/-- The number two bytes spell, high byte first (R173). -/
def word2 (high low : Byte) : Nat := high.toNat * 256 + low.toNat

/-- The receiver takes a byte that came with its stop bit (R174). -/
def Receiver.takeByte (r : Receiver) (b : Byte) : ByteOutcome :=
  match r with
  | .hunt => .moved (if b = 0xC3#8 then .sync else .hunt)
  | .sync => .moved (if b = 0x5A#8 then .length none else if b = 0xC3#8 then .sync else .hunt)
  | .length none => .moved (.length (some b))
  | .length (some h) => if lengthInRange (word2 h b) then .moved (.body h b []) else .discarded
  | .body h l got =>
    if (got ++ [b]).length < word2 h l then .moved (.body h l (got ++ [b])) else .moved (.check h l (got ++ [b]) none)
  | .check h l whole none => .moved (.check h l whole (some b))
  | .check h l whole (some c) => if crc16 (h :: l :: whole) = c ++ b then .valid whole else .discarded

/-- From LENGTH to CHECK a frame is being received (R174). -/
def Receiver.inFrame : Receiver → Bool
  | .hunt => false
  | .sync => false
  | .length _ => true
  | .body _ _ _ => true
  | .check _ _ _ _ => true

/-- One byte of the line, with or without its stop bit (R174). -/
def Receiver.receive (r : Receiver) (b : Byte) (stopBit : Bool) : ByteOutcome :=
  if stopBit then r.takeByte b else if r.inFrame then .discarded else .moved .hunt

/-- A frame is discarded: the frame-error counter rises and the receiver hunts again (R174). -/
def discardFrame (s : State) : State :=
  s.setLine { s.line with receiver := .hunt, frameErrors := raiseCounter s.line.frameErrors }

/-- A valid frame (R175): silence ends, the silence timer restarts, and the frame joins the input buffer or is an overrun.
The receiver returns to HUNT. -/
def acceptFrame (body : List Byte) (s : State) : State :=
  let s := s.setLine
    { s.line with
      receiver := .hunt
      silenceEnd := timerFrom s.now s.setup.reporting.silenceLimit Config.ticksPerSecond }
  let s := s.setSilence false
  if s.line.input.length < Config.inputCapacity then s.setLine { s.line with input := s.line.input ++ [⟨body⟩] }
  else s.setLine { s.line with overruns := raiseCounter s.line.overruns }

/-- What a byte's outcome does to the unit. -/
def applyByte (o : ByteOutcome) (s : State) : State :=
  match o with
  | .moved r => s.setLine { s.line with receiver := r }
  | .valid body => acceptFrame body s
  | .discarded => discardFrame s

/-- LINE_BYTE_RECEIVED (R174): any byte of the line. -/
def lineByteReceived (b : Byte) (stopBit : Bool) (s : State) : State := applyByte (s.line.receiver.receive b stopBit) s

def execLineByteReceived (byte : Byte) (stopBit : Bool) (s : State) : Outcome := .next (lineByteReceived byte stopBit s)

/-- FRAME_RECEIVED (R175): the byte that completes a valid frame (log 5). -/
def frameReceived (b : Byte) (s : State) : State :=
  match s.line.receiver.receive b true with
  | .valid body => acceptFrame body s
  | .moved _ => s
  | .discarded => s

def execFrameReceived (byte : Byte) (s : State) : Outcome := .next (frameReceived byte s)

/-- FRAME_ERROR (R174): the byte that discards the frame, for its length, its CRC or its missing stop bit (log 5). -/
def frameError (b : Byte) (stopBit : Bool) (s : State) : State :=
  match s.line.receiver.receive b stopBit with
  | .discarded => discardFrame s
  | .moved _ => s
  | .valid _ => s

def execFrameError (byte : Byte) (stopBit : Bool) (s : State) : Outcome := .next (frameError byte stopBit s)

/-- INTER_BYTE_TIMEOUT (R174): in HUNT and SYNC a gap is no error. -/
def interByteTimeout (s : State) : State := if s.line.receiver.inFrame then discardFrame s else s

def execInterByteTimeout (s : State) : Outcome := .next (interByteTimeout s)

/-- UNKNOWN_REQUEST (R176): the kind at the head of the buffer names no request. -/
def unknownRequest (s : State) : State :=
  match s.line.input with
  | [] => s
  | f :: rest =>
    if s.line.replies.length < Config.replyCapacity ∧ namesRequest f.kind = false then
      (s.setLine { s.line with input := rest }).reply f .unknown 0 .headOnly
    else s

def execUnknownRequest (s : State) : Outcome := .next (unknownRequest s)

/-! ### The bundle (R179) -/

/-- The body of a bundle: the 4-byte head plus the lengths of its records. -/
def bundleBody (rs : List Record) : Nat := 4 + (rs.map Record.length).sum

/-- From a body of this length on, how many further records join in queue order, and whether the next one does not fit. -/
def joinFurther (cap : Nat) : Nat → List Record → Nat × Bool
  | _, [] => (0, false)
  | body, r :: rest =>
    if body + r.length ≤ cap then ((joinFurther cap (body + r.length) rest).1 + 1, (joinFurther cap (body + r.length) rest).2)
    else (0, true)

/-- What an EMPTY bundle becomes: OPEN with the records that join, READY at once where the next does not fit or where the
first is longer than the cap on its own; it stays EMPTY with an empty queue (R179). -/
def openBundle (cap flushEnd : Nat) (queue : List Record) : Bundle :=
  match queue with
  | [] => Bundle.initial
  | r :: rest =>
    if cap < bundleBody [r] then ⟨.ready, 1, none⟩
    else
      let (n, stopped) := joinFurther cap (bundleBody [r]) rest
      if stopped then ⟨.ready, n + 1, none⟩ else ⟨.open, n + 1, some flushEnd⟩

/-- The flush timer of a bundle that opens now (R179). -/
def State.flushEnd (s : State) : Nat := s.now + s.setup.reporting.flushDelay * Config.ticksPerMs

/-- An EMPTY bundle takes the records at the head of the queue (R179). -/
def refill (s : State) : State :=
  if s.line.bundle.state = .empty then
    s.setLine { s.line with bundle := openBundle s.setup.reporting.cap s.flushEnd s.line.queue }
  else s

/-- A record has been appended to the queue: it joins an OPEN bundle if it fits, and makes it READY if not; an EMPTY bundle
opens with it (R179). `before` is the queue without it. -/
def joinAppended (before : List Record) (r : Record) (s : State) : State :=
  match s.line.bundle.state with
  | .empty => refill s
  | .ready => s
  | .open =>
    if bundleBody before + r.length ≤ s.setup.reporting.cap then
      s.setLine { s.line with bundle := { s.line.bundle with held := s.line.bundle.held + 1 } }
    else s.setLine { s.line with bundle := { s.line.bundle with state := .ready, flushEnd := none } }

/-! ### The report queue (R178) -/

/-- LOW records: HIT and SNAPSHOT (R178). -/
def Record.isLow : Record → Bool
  | .hit _ => true
  | .snapshot _ => true
  | .finding _ => false
  | .untested _ => false
  | .mark _ => false
  | .calResult _ => false
  | .verifyResult _ => false
  | .setupResult _ => false
  | .status _ => false

/-- The place of the newest LOW record in the queue. -/
def newestLow (q : List Record) : Option Nat :=
  (q.reverse.findIdx? Record.isLow).map (fun k => q.length - 1 - k)

/-- A STATUS record carries the report queue occupancy just before it is appended (R180). -/
def Record.withOccupancy (n : Nat) : Record → Record
  | .status r => .status { r with occupancy := n }
  | .hit r => .hit r
  | .snapshot r => .snapshot r
  | .finding r => .finding r
  | .untested r => .untested r
  | .mark r => .mark r
  | .calResult r => .calResult r
  | .verifyResult r => .verifyResult r
  | .setupResult d => .setupResult d

/-- Append a record to the queue and let it join the bundle; a STATUS record takes the occupancy as it is just before. -/
def appendRecord (r : Record) (s : State) : State :=
  let before := s.line.queue
  let r := r.withOccupancy before.length
  joinAppended before r (s.setLine { s.line with queue := before ++ [r] })

/-- The bundle after one of its records has been taken out; left with none it becomes EMPTY (R179). -/
def Bundle.without (b : Bundle) : Bundle :=
  if b.held ≤ 1 then Bundle.initial else { b with held := b.held - 1 }

/-- Remove the LOW record at place k: the dropped-record counter rises, and it is taken out of the bundle that holds it; an
emptied bundle opens again with the queue's head (R178, R179). -/
def displace (k : Nat) (s : State) : State :=
  let l := s.line
  refill (s.setLine
    { l with
      queue := l.queue.eraseIdx k
      dropped := raiseCounter l.dropped
      bundle := if k < l.bundle.held then l.bundle.without else l.bundle })

/-- A HIGH record is lost: the lost-record counter rises and the loss flag is set, whose setting is the next change to enter the
change set, before what waits (R178, R180, log 8). -/
def loseRecord (s : State) : State :=
  let s' := s.setLine { s.line with lost := raiseCounter s.line.lost, loss := true }
  if s.line.loss then s' else s'.setLine { s'.line with inbox := .change .loss :: s'.line.inbox }

/-- An offer taken whole: the first line of R178's table that fits. -/
def takeOffer (r : Record) (s : State) : State :=
  if r.isLow then
    if s.setup.reporting.highWater ≤ s.line.queue.length then
      s.setLine { s.line with dropped := raiseCounter s.line.dropped }
    else appendRecord r s
  else if s.line.queue.length < Config.reportCapacity then appendRecord r s
  else
    match newestLow s.line.queue with
    | some k => appendRecord r (displace k s)
    | none => loseRecord s

/-- A record is offered: every one but the HIT record of a channel that does not stand in its rail's hit-stream set (R82, R83). -/
def State.isOffered (s : State) : Record → Bool
  | .hit r => hasChannel (s.setup.reporting.hitStream.get r.rail) r.channel
  | _ => true

/-- RECORD_OFFER (R178): the record whose turn it is is offered and taken. The hit-stream set is read now, at the moment a HIT
record would be offered; a hit outside it gives no record and counts nowhere (R83, log 34). -/
def recordOffer (s : State) : State :=
  match s.line.inbox with
  | .offer r :: rest =>
    let s' := s.setLine { s.line with inbox := rest }
    if s.isOffered r then takeOffer r s' else s'
  | _ => s

def execRecordOffer (s : State) : Outcome := .next (recordOffer s)

/-- BUNDLE_FLUSH_EXPIRY (R179). -/
def bundleFlushExpiry (s : State) : State :=
  match s.line.bundle.state, s.line.bundle.flushEnd with
  | .open, some t =>
    let s := s.advanceTo t
    s.setLine { s.line with bundle := { s.line.bundle with state := .ready, flushEnd := none } }
  | _, _ => s

def execBundleFlushExpiry (s : State) : Outcome := .next (bundleFlushExpiry s)

/-! ### The transmitter (R177) -/

/-- SEND_REPLY: at a frame boundary the oldest waiting reply leaves the queue and its sending begins. -/
def sendReply (s : State) : State :=
  match s.line.sending, s.line.replies with
  | none, r :: rest => s.setLine { s.line with sending := some (.reply r), replies := rest }
  | _, _ => s

def execSendReply (s : State) : Outcome := .next (sendReply s)

/-- SEND_BUNDLE: at a frame boundary with no reply waiting a READY bundle's sending begins; its records leave the queue, the
tag rises, and the records that wait join the next bundle (R177, R179). -/
def sendBundle (s : State) : State :=
  match s.line.sending, s.line.replies, s.line.bundle.state with
  | none, [], .ready =>
    let l := s.line
    refill (s.setLine
      { l with
        sending := some (.bundle l.tag (l.queue.take l.bundle.held))
        queue := l.queue.drop l.bundle.held
        tag := l.tag + 1
        bundle := Bundle.initial })
  | _, _, _ => s

def execSendBundle (s : State) : Outcome := .next (sendBundle s)

/-- FRAME_SEND_END: the end of the frame in progress, a frame boundary (R177). -/
def frameSendEnd (s : State) : State := s.setLine { s.line with sending := none }

def execFrameSendEnd (s : State) : Outcome := .next (frameSendEnd s)

/-! ### STATUS and silence -/

/-- A STATUS record with the fields as they stand is offered and taken at once, so that its fields and its place in the queue are of
one moment; the change set is emptied at the offer, before the queue's outcome (R180, log 8). -/
def offerStatus (cause : StatusCause) (s : State) : State :=
  takeOffer (.status (s.status cause)) (s.setLine { s.line with changes := ChangeSet.empty })

/-- CHANGE_HANDOVER (R180): the change handed over first enters the set; with status-on-change ON one STATUS record is
offered in its place. -/
def changeHandover (s : State) : State :=
  match s.line.inbox with
  | .change c :: rest =>
    let s := s.setLine { s.line with inbox := rest, changes := s.line.changes.enter c }
    if s.setup.reporting.statusOnChange then offerStatus .change s else s
  | _ => s

def execChangeHandover (s : State) : Outcome := .next (changeHandover s)

/-- STATUS_TIMER_EXPIRY (R180): a PERIODIC record, and the timer starts again with the interval in force. It waits until the line
interface has taken all that was handed to it, so that the record follows the records offered before it and names every change
handed over (R90, R163, R167, log 8). -/
def statusTimerExpiry (s : State) : State :=
  match s.line.statusEnd, s.line.inbox with
  | none, _ => s
  | _, _ :: _ => s
  | some t, [] =>
    let s := offerStatus .periodic (s.advanceTo t)
    s.setLine { s.line with statusEnd := timerFrom s.now s.setup.reporting.statusInterval Config.ticksPerMs }

def execStatusTimerExpiry (s : State) : Outcome := .next (statusTimerExpiry s)

/-- SILENCE_EXPIRY (R181): the silence timer reaches the limit. -/
def silenceExpiry (s : State) : State :=
  match s.line.silenceEnd with
  | none => s
  | some t =>
    let s := s.advanceTo t
    (s.setLine { s.line with silenceEnd := none }).setSilence true

def execSilenceExpiry (s : State) : Outcome := .next (silenceExpiry s)

/-! ### Requests of the line interface -/

/-- IDENTIFY (R183). -/
def identify (fr : Frame) (s : State) : State :=
  s.reply fr .ok 0 (.identity Config.vendorCode Config.partNumber Config.hardwareRevision s.run.source Config.capacities)

def execIdentify (s : State) : Outcome := .next (request .identify 0 s identify)

/-- READ_STATUS (R183): the change set is left as it is. -/
def readStatus (fr : Frame) (s : State) : State := s.reply fr .ok 0 (.status (s.status .request))

def execReadStatus (s : State) : Outcome := .next (request .readStatus 0 s readStatus)

/-- Take reporting settings (R182): an OPEN bundle above the new cap becomes READY, both timers restart, and a silence limit
of 0 clears a set silence state. -/
def applyReporting (new : ReportingSettings) (s : State) : State :=
  let s := s.setSetup { s.setup with reporting := new }
  let l := s.line
  let s := s.setLine
    { l with
      bundle :=
        if l.bundle.state = .open ∧ new.cap < bundleBody (l.queue.take l.bundle.held) then
          { l.bundle with state := .ready, flushEnd := none }
        else l.bundle
      statusEnd := timerFrom s.now new.statusInterval Config.ticksPerMs
      silenceEnd := timerFrom s.now new.silenceLimit Config.ticksPerSecond }
  if new.silenceLimit = 0 then s.setSilence false else s

/-- SET_REPORTING (R182). -/
def setReporting (f : ReportingFields) (fr : Frame) (s : State) : State :=
  match f.clamp with
  | none => s.reply fr .range 0 (.reporting s.setup.reporting)
  | some new =>
    if s.writing then s.reply fr .busy 0 (.reporting s.setup.reporting)
    else
      let s := applyReporting new s
      s.reply fr (doneCode f.fits) 0 (.reporting s.setup.reporting)

def execSetReporting (fields : ReportingFields) (s : State) : Outcome :=
  .next (request .setReporting fields.size s (setReporting fields))

end Sys2Proof.Machine
end

