-- ==== Sys2Proof/Machine/Marking.lean ====
section
/-! DEFINITION. The marking units (sections 9.1 to 9.5). -/

namespace Sys2Proof.Machine

/-- The spray duration in force, from now (R149). -/
def State.sprayUntil (s : State) (r : Rail) : Nat := s.now + (s.setup.rails.get r).spray * Config.ticksPerMs

/-! ### Position changes and firing -/

/-- One mark leaves the head of the queue, of which `rest` stays: its FIRED record, and the valve (R148, R149). -/
def fireMark (r : Rail) (gun : Int) (m : Mark) (rest : List Mark) (s : State) : State :=
  let s := s.setMarking r { s.marking.get r with queue := rest }
  let s := s.offer (.mark ⟨r, .fired, m.finding, m.target, none, m.merged, some gun, rest.length⟩)
  s.setSpray r (some (s.sprayUntil r))

/-- Fire every mark at the head of the queue whose target is at or below the gun position (R148). -/
def fireReached (r : Rail) (gun : Int) : List Mark → State → State
  | [], s => s
  | m :: rest, s => if m.target ≤ gun then fireReached r gun rest (fireMark r gun m rest s) else s

/-- CAR_POSITION_CHANGE (R145, R148): the marking unit takes the change handed to it first. Whether marks are fired depends on the
motion that came with the change; the motion it holds is the travel unit's and stays (log 29). -/
def carPositionChange (r : Rail) (s : State) : State :=
  match (s.marking.get r).moves with
  | [] => s
  | m :: rest =>
    let gun := m.position - ((s.setup.rails.get r).gunOffset : Int)
    let s := s.setMarking r { s.marking.get r with gun := gun, moves := rest }
    if m.motion = .forward then fireReached r gun (s.marking.get r).queue s else s

def execCarPositionChange (rail : Rail) (s : State) : Outcome := .next (carPositionChange rail s)

/-! ### Mark requests -/

/-- A mark put where its target falls in ascending order (R146). -/
def insertMark (m : Mark) : List Mark → List Mark
  | [] => [m]
  | q :: rest => if m.target < q.target then m :: q :: rest else q :: insertMark m rest

/-- The queued mark nearest to a target among those within the merge distance; the lower target on equal distance (R147).
The queue is in ascending order of target. -/
def nearestMark (target : Int) (merge : Nat) (q : List Mark) : Option Mark :=
  (q.filter (fun m => decide ((m.target - target).natAbs ≤ merge))).foldl
    (fun best m =>
      match best with
      | none => some m
      | some b => if (m.target - target).natAbs < (b.target - target).natAbs then some m else some b)
    none

/-- The queue with the merged count of the mark at this target raised (R147). -/
def absorbAt (target : Int) (q : List Mark) : List Mark :=
  q.map (fun m => if m.target = target then { m with merged := raise 255 m.merged } else m)

/-- What becomes of a request: the queue afterwards and the MARK record (R146, R152). -/
def judgeRequest (r : Rail) (q : MarkRequest) (merge : Nat) (u : MarkingUnit) : List Mark × MarkRecord :=
  if q.target ≤ u.gun then
    (u.queue, ⟨r, .late, q.finding, q.target, none, 0, some u.gun, u.queue.length⟩)
  else
    match nearestMark q.target merge u.queue with
    | some m =>
      (absorbAt m.target u.queue, ⟨r, .merged, q.finding, q.target, some ⟨m.finding, m.target⟩, 0, none, u.queue.length⟩)
    | none =>
      if Config.markCapacity ≤ u.queue.length then
        (u.queue, ⟨r, .full, q.finding, q.target, none, 0, none, u.queue.length⟩)
      else
        (insertMark ⟨q.target, q.finding, 0⟩ u.queue,
          ⟨r, .queued, q.finding, q.target, none, 0, none, u.queue.length + 1⟩)

/-- MARK_REQUEST (R146): the marking unit takes the request handed to it first. -/
def markRequest (r : Rail) (s : State) : State :=
  match (s.marking.get r).requests with
  | [] => s
  | q :: rest =>
    let (queue, record) := judgeRequest r q (s.setup.rails.get r).merge (s.marking.get r)
    (s.setMarking r { s.marking.get r with queue := queue, requests := rest }).offer (.mark record)

def execMarkRequest (rail : Rail) (s : State) : Outcome := .next (markRequest rail s)

/-! ### The end of a spray, and discarding -/

/-- SPRAY_END (R149): the spray end time is reached and the valve closes. -/
def sprayEnd (r : Rail) (s : State) : State :=
  match (s.marking.get r).sprayEnd with
  | none => s
  | some t => (s.advanceTo t).setSpray r none

def execSprayEnd (rail : Rail) (s : State) : Outcome := .next (sprayEnd rail s)

/-- The DISCARDED records of a queue, in ascending order of target; each carries the number of marks left (R151, R152). -/
def discardRecords (r : Rail) : List Mark → List Record
  | [] => []
  | m :: rest => .mark ⟨r, .discarded, m.finding, m.target, none, m.merged, none, rest.length⟩ :: discardRecords r rest

/-- Discard every queued mark of a rail (R151). -/
def discardMarks (r : Rail) (s : State) : State :=
  let q := (s.marking.get r).queue
  (discardRecords r q).foldl State.offer (s.setMarking r { s.marking.get r with queue := [] })

end Sys2Proof.Machine
end

