-- ==== Sys2Proof/Machine/Operation.lean ====
section
/-! DEFINITION. The operations of the run controller: calibration steps (section 5.5), verifications (section 10.6), and the
time-triggered firings that serve both (R38). -/

namespace Sys2Proof.Machine

/-! ### Time-triggered firings (R38) -/

/-- A time-triggered firing of one channel starts now, at the car position; the next one is due 1 ms later (R38, R86,
R166). -/
def startOperationFiring (r : Rail) (ch : Channel) (s : State) : State :=
  let rec_ := s.channel r ch
  let s := s.setFiring r
    { s.firing.get r with
      operationFlight := some ⟨⟨ch, rec_⟩, s.travel.carPosition, s.now + s.firingTicks r rec_.listen⟩ }
  s.setRun { s.run with nextFiring := s.now + Config.ticksPerMs }

/-- Place a rail's firing unit in time-triggered mode (R38). -/
def setMode (r : Rail) (m : TimeMode) (echo : Option TestEcho) (s : State) : State :=
  s.setFiring r { s.firing.get r with mode := m, generators := Vector.replicate 4 echo }

/-- The end of an operation: mode and generators off, the unit IDLE, no operation in flight, run state STOPPED (R38, R86,
R167). -/
def endOperation (r : Rail) (s : State) : State :=
  let s := s.setFiring r { s.firing.get r with mode := .off, generators := Vector.replicate 4 none, operationFlight := none }
  (s.setRun { s.run with operation := none }).setRunState .stopped

/-! ### Calibration -/

/-- The flaw gate a calibration request names, where its presence is not NONE and its mode is not ABSENT (R84). -/
def calGate (rec_ : ChannelRecord) (g : Gate) : Option FlawGate :=
  match rec_.gates[g] with
  | some f => if f.mode = .absent then none else some f
  | none => none

/-- The pending first point serves this rail, channel and gate at a depth below this one (R84, check 5). -/
def CalPoint.serves (p : CalPoint) (r : Rail) (ch : Channel) (g : Gate) (depth : Nat) : Bool :=
  p.rail == r && p.channel == ch && p.gate == g && decide (p.depth < depth)

/-- The checks of R84 in order; the first that fails gives the code. -/
def checkCal (r : Rail) (ch : Channel) (g : Gate) (second : Bool) (depth : Nat) (f : FlawGate) (s : State) : Option ReplyCode :=
  let rec_ := s.channel r ch
  if s.writing then some .busy
  else if !s.stopped then some .state
  else if rec_.listen ≤ rec_.interfaceStart ∨ rec_.listen ≤ f.start then some .conflict
  else if second && !s.run.pendingPoint.any (fun p => p.serves r ch g depth) then some .order
  else none

/-- CAL_CHANNEL taken (R85). -/
def beginCal (c : CalStep) (s : State) : State :=
  let s := (s.setRun { s.run with operation := some (.calibration c) }).setRunState .calibrating
  startOperationFiring c.rail c.channel (setMode c.rail .calibrate none s)

/-- CAL_CHANNEL (R84, R85). -/
def calChannel (f : CalFields) (fr : Frame) (s : State) : State :=
  let depth := clampNat 0 2500 f.depth
  match fr.rail, fr.channel, gateOf f.gate with
  | some r, some ch, some g =>
    match calGate (s.channel r ch) g, decide (f.step = 1 ∨ f.step = 2) with
    | some gate, true =>
      match checkCal r ch g (f.step == 2) depth gate s with
      | some code => s.reply fr code 0 .headOnly
      | none =>
        (beginCal ⟨r, ch, g, f.step == 2, depth, 0, none⟩ s).reply fr (doneCode (within 0 2500 f.depth)) 0 (.calDepth depth)
    | _, _ => s.reply fr .range 0 .headOnly
  | _, _, _ => s.reply fr .range 0 .headOnly

def execCalChannel (fields : CalFields) (s : State) : Outcome := .next (request .calChannel fields.size s (calChannel fields))

/-- CAL_FIRING_START (R86): the 1 ms interval elapses and the step's next firing starts, once the firing before it has
completed. -/
def calFiringStart (s : State) : State :=
  match s.run.operation with
  | some (.calibration c) =>
    if c.done < Config.calibrationFirings ∧ (s.firing.get c.rail).operationFlight = none then
      startOperationFiring c.rail c.channel (s.advanceTo s.run.nextFiring)
    else s
  | _ => s

def execCalFiringStart (s : State) : Outcome := .next (calFiringStart s)

/-- The best hit so far after one more outcome of the named gate (R86, R87). -/
def betterHit (best : Option Hit) (o : GateOutcome) : Option Hit :=
  match o with
  | .hit h =>
    match best with
    | none => some h
    | some b => if b.amplitude < h.amplitude then some h else some b
  | _ => best

/-- The result of a step 2 and the new Kd and Z where it is DONE (R89). -/
def calOutcome (p : CalPoint) (depth : Nat) (measured : Option Hit) : CalResult × Option (Nat × Int) :=
  match measured with
  | none => (.noEcho, none)
  | some h =>
    if h.time < p.time + 16 then (.order, none)
    else
      let kd := roundDiv (((depth : Int) - p.depth) * 65536) (h.time - p.time)
      if kd < 1 ∨ 65535 < kd then (.range, none)
      else
        let z := (p.time : Int) - roundDiv ((p.depth : Int) * 65536) kd.toNat
        if z < -512 ∨ 1023 < z then (.range, none) else (.done, some (kd.toNat, z))

/-- Replace a channel's record. -/
def State.setChannelRecord (s : State) (r : Rail) (ch : Channel) (x : ChannelRecord) : State :=
  s.setSetup { s.setup with channels := s.setup.channels.modify r (fun v => setAt v ch x) }

/-- The CAL_RESULT of a step at its end or abort (R90). -/
def calRecord (s : State) (c : CalStep) (result : CalResult) (measured : Option Hit) (first : Option CalPoint) : Record :=
  let x := s.channel c.rail c.channel
  .calResult ⟨c.rail, c.channel, c.gate, c.second, result, c.depth, measured, c.done,
    if c.second then first.map (fun p => (p.depth, p.time)) else none, x.kd, x.zero, x.ka⟩

/-- CAL_STEP_END (R88, R89, R90): after the sixteenth firing. -/
def endCal (c : CalStep) (s : State) : State :=
  if c.second then
    match s.run.pendingPoint with
    | none =>
      -- no point is held: unreachable, since only the run controller's own steps clear it in CALIBRATING (log 20)
      endOperation c.rail (s.offer (calRecord s c .noEcho c.best none))
    | some p =>
      let (result, new) := calOutcome p c.depth c.best
      let s :=
        match new with
        | some (kd, z) => s.setChannelRecord c.rail c.channel { s.channel c.rail c.channel with kd := kd, zero := z }
        | none => s
      let s := s.setRun { s.run with pendingPoint := none }
      endOperation c.rail (s.offer (calRecord s c result c.best (some p)))
  else
    match c.best with
    | some h =>
      let s := s.setRun { s.run with pendingPoint := some ⟨c.rail, c.channel, c.gate, c.depth, h.time⟩ }
      endOperation c.rail (s.offer (calRecord s c .step1Done (some h) none))
    | none => endOperation c.rail (s.offer (calRecord s c .noEcho none none))

/-- CAL_FIRING_COMPLETION (R86): the firing's samples are gated and the named gate's outcome meets the best hit. The sixteenth waits
until the line interface has taken all that was handed to it, so that no STATUS record shows STOPPED ahead of the CAL_RESULT
(R90, log 8). -/
def calFiringCompletion (signal : List Nat) (s : State) : State :=
  match s.run.operation with
  | some (.calibration c) =>
    match (s.firing.get c.rail).operationFlight with
    | none => s
    | some f =>
      let rec_ := f.fired.record
      let res := gateResult rec_ (recorded rec_.listen signal)
      let c := { c with done := c.done + 1, best := betterHit c.best res.outcomes[c.gate] }
      let t := (s.advanceTo f.endTime).setFiring c.rail { s.firing.get c.rail with operationFlight := none }
      if c.done < Config.calibrationFirings then t.setRun { t.run with operation := some (.calibration c) }
      else if s.line.inbox.isEmpty then endCal c t
      else s
  | _ => s

def execCalFiringCompletion (samples : List Nat) (s : State) : Outcome := .next (calFiringCompletion samples s)

/-! ### Verification -/

/-- The channels of a plan in order of first appearance (R165). -/
def firstAppearance (p : Plan) : List Channel :=
  p.flatten.foldl (fun seen ch => if seen.contains ch then seen else seen ++ [ch]) []

/-- Sample k of a test echo (R166). -/
def TestEcho.sample (e : TestEcho) (k : Nat) : Nat :=
  let one := if e.d1 ≤ k ∧ k ≤ e.d1 + 7 then e.a1 else 0
  let two := if e.d1 + e.d2 ≤ k ∧ k ≤ e.d1 + e.d2 + 7 then e.a2 else 0
  max one two

/-- What a lane records from its generator; a generator that is off gives no echo (R38, R166). -/
def generatorSamples (e : Option TestEcho) (listen : Nat) : List Nat :=
  match e with
  | none => List.replicate listen 0
  | some e => (List.range listen).map e.sample

/-- VERIFY taken (R165): the channel order fixed, the generators set, the first channel fires at once. -/
def beginVerify (r : Rail) (e : TestEcho) (s : State) : State :=
  let order := firstAppearance (s.setup.plans.get r)
  let s := (s.setRun { s.run with operation := some (.verification ⟨r, e, order, []⟩) }).setRunState .verifying
  let s := setMode r .verify (some e) s
  match order with
  | [] => s
  | ch :: _ => startOperationFiring r ch s

/-- VERIFY (R165). -/
def verify (f : VerifyFields) (fr : Frame) (s : State) : State :=
  match fr.rail with
  | none => s.reply fr .range 0 .headOnly
  | some r =>
    if s.writing then s.reply fr .busy 0 .headOnly
    else if !s.stopped then s.reply fr .state 0 .headOnly
    else if (s.setup.plans.get r).isEmpty then s.reply fr .conflict 0 .headOnly
    else (beginVerify r f.clamp s).reply fr (doneCode f.fits) 0 (.verification r f.clamp)

def execVerify (fields : VerifyFields) (s : State) : Outcome := .next (request .verify fields.size s (verify fields))

/-- VERIFY_FIRING_START (R166): the 1 ms interval elapses and the next channel of the order fires. -/
def verifyFiringStart (s : State) : State :=
  match s.run.operation with
  | some (.verification v) =>
    match v.order[v.results.length]?, (s.firing.get v.rail).operationFlight with
    | some ch, none => startOperationFiring v.rail ch (s.advanceTo s.run.nextFiring)
    | _, _ => s
  | _ => s

def execVerifyFiringStart (s : State) : Outcome := .next (verifyFiringStart s)

def GateOutcome.toHit : GateOutcome → Option Hit
  | .hit h => some h
  | .absentGate => none
  | .notEvaluated => none
  | .noHit => none

/-- The entry a gate result gives (R167). -/
def verifyEntry (ch : Channel) (res : GateResult) : VerifyEntry :=
  { channel := ch, interface := res.interface.map Hit.time, hits := Vector.ofFn (fun g => res.outcomes[g].toHit) }

/-- The eight values of an entry (R167). -/
def VerifyEntry.values (e : VerifyEntry) : List Nat :=
  [e.channel.val, e.interface.getD 0xFFFF] ++
    (List.finRange 3).flatMap (fun g => (e.hits[g]).elim [0xFFFF, 0] (fun h => [h.time, h.amplitude]))

/-- The signature: the CRC-16 over the entries' values, each fed high byte first (R167). -/
def signature (es : List VerifyEntry) : Word16 := crc16 ((es.flatMap VerifyEntry.values).flatMap (fun n => bytes2 n))

/-- VERIFY_FIRING_COMPLETION (R166, R167): the result is entered; after the last channel the VERIFY_RESULT is offered and the
run state returns to STOPPED. The last waits until the line interface has taken all that was handed to it, so that no STATUS record
shows STOPPED ahead of the VERIFY_RESULT (log 8). -/
def verifyFiringCompletion (s : State) : State :=
  match s.run.operation with
  | some (.verification v) =>
    match (s.firing.get v.rail).operationFlight with
    | none => s
    | some f =>
      let u := s.firing.get v.rail
      let rec_ := f.fired.record
      let res := gateResult rec_ (generatorSamples u.generators[rec_.lane] rec_.listen)
      let v : Verification := { v with results := v.results ++ [verifyEntry f.fired.channel res] }
      let t := (s.advanceTo f.endTime).setFiring v.rail { u with operationFlight := none }
      if v.results.length < v.order.length then t.setRun { t.run with operation := some (.verification v) }
      else if s.line.inbox.isEmpty then
        endOperation v.rail (t.offer (.verifyResult ⟨v.rail, v.echo, v.results, some (signature v.results)⟩))
      else s
  | _ => s

def execVerifyFiringCompletion (s : State) : Outcome := .next (verifyFiringCompletion s)

/-- The record of an operation that a RESTART aborts (R93, R167). -/
def abortRecord (s : State) : Operation → Record
  | .calibration c => calRecord s c .aborted none s.run.pendingPoint
  | .verification v => .verifyResult ⟨v.rail, v.echo, v.results, none⟩

end Sys2Proof.Machine
end

