-- ==== Sys2Proof/Machine/Settings.lean ====
section
/-! DEFINITION. The settings requests of the echo processors, the firing units, the rails' blocks and the finding
assemblers: channel records, plans, rail records, levels, snapshots and patterns. -/

namespace Sys2Proof.Machine

/-! ### Channel records (R22 to R24) -/

/-- The rail of an operation in flight. -/
def Operation.rail : Operation → Rail
  | .calibration c => c.rail
  | .verification v => v.rail

/-- Check 3 of R22: outside STOPPED a channel of the active plan stands still, and so does every channel of the rail of an
operation in flight. -/
def State.channelHeld (s : State) (r : Rail) (ch : Channel) : Bool :=
  (!s.stopped && s.inPlan r ch) ||
    ((s.run.state == .calibrating || s.run.state == .verifying) && s.run.operation.any (fun o => o.rail == r))

/-- The plans a lane must be free of conflict in: the active plan and the staged plan (R20). -/
def State.laneGroups (s : State) (r : Rail) : List Group := s.setup.plans.get r ++ ((s.firing.get r).staged).getD []

/-- Check 5 of R22: the new lane is the lane of another channel that some group holds beside this one. -/
def State.laneTaken (s : State) (r : Rail) (ch : Channel) (lane : Lane) : Bool :=
  (s.channel r ch).lane != lane &&
    (s.laneGroups r).any (fun g => g.contains ch && g.any (fun other => other != ch && (s.channel r other).lane == lane))

/-- The pending first point names this rail and channel, whatever its gate (R23). -/
def CalPoint.names (p : CalPoint) (r : Rail) (ch : Channel) : Bool := p.rail == r && p.channel == ch

/-- The effect of a taken SET_CHANNEL (R23). -/
def takeChannel (r : Rail) (ch : Channel) (x : ChannelRecord) (s : State) : State :=
  let s := s.setChannelRecord r ch x
  if s.run.pendingPoint.any (fun p => p.names r ch) then s.setRun { s.run with pendingPoint := none } else s

/-- The checks of R22 after RANGE, in order; the first that fails gives the code. -/
def checkChannel (r : Rail) (ch : Channel) (x : ChannelRecord) (s : State) : Option ReplyCode :=
  if s.writing then some .busy
  else if s.channelHeld r ch then some .state
  else if !ascending x.curve then some .order
  else if s.laneTaken r ch x.lane then some .conflict
  else none

/-- SET_CHANNEL (R22, R23). -/
def setChannel (f : ChannelFields) (fr : Frame) (s : State) : State :=
  match fr.rail, fr.channel, f.clamp with
  | some r, some ch, some x =>
    match checkChannel r ch x s with
    | some code => s.reply fr code 0 .headOnly
    | none => (takeChannel r ch x s).reply fr (doneCode f.fits) 0 x.payload
  | _, _, _ => s.reply fr .range 0 .headOnly

/-- A commit that removed this channel has not yet closed its traces: its leaving channels wait for the echo processor or for
the tracker (R35). -/
def State.isLeaving (s : State) (r : Rail) (ch : Channel) : Bool :=
  (s.echo.get r).inbox.any (fun i => match i with | .commit leaving _ => leaving.contains ch | _ => false) ||
    (s.tracker.get r).inbox.any (fun i => match i with | .leaving chs => chs.contains ch | _ => false)

/-- The request names a channel whose traces a commit has still to close. -/
def State.namesLeaving (s : State) (f : Frame) : Bool :=
  match f.rail, f.channel with
  | some r, some ch => s.isLeaving r ch
  | _, _ => false

/-- SET_CHANNEL: a leaving channel's traces are closed before any SET_CHANNEL can reach it, so until then the request stays in the
buffer (R97, log 40). -/
def execSetChannel (fields : ChannelFields) (s : State) : Outcome :=
  .next (if s.line.input.head?.any s.namesLeaving then s else request .setChannel fields.size s (setChannel fields))

/-- READ_CHANNEL (R24). -/
def readChannel (fr : Frame) (s : State) : State :=
  match fr.rail, fr.channel with
  | some r, some ch => s.reply fr .ok 0 (s.channel r ch).payload
  | _, _ => s.reply fr .range 0 .headOnly

def execReadChannel (s : State) : Outcome := .next (request .readChannel 0 s readChannel)

/-! ### Plans (R27 to R29) -/

/-- A group as the request carries it: one to four channel numbers from 0 to 11. -/
def groupOf (numbers : List Nat) : Option Group :=
  if 1 ≤ numbers.length ∧ numbers.length ≤ 4 then numbers.mapM (indexBelow 12) else none

/-- A plan as the request carries it, or the index of its first failing group: one outside its set, or one beyond the
sixteenth (R28, log 27). The first argument counts the groups before. -/
def planOf : Nat → List (List Nat) → Except Nat Plan
  | _, [] => .ok []
  | i, g :: rest =>
    match decide (i < 16), groupOf g with
    | true, some group =>
      match planOf (i + 1) rest with
      | .ok plan => .ok (group :: plan)
      | .error k => .error k
    | _, _ => .error i

/-- A group holds a channel twice, or two channels on one lane: some channel's lane is that of one further on (R28). A
channel shares its lane with itself. -/
def State.groupClashes (s : State) (r : Rail) : Group → Bool
  | [] => false
  | ch :: rest => rest.any (fun other => (s.channel r other).lane == (s.channel r ch).lane) || s.groupClashes r rest

/-- The plan taken in STOPPED (R29, R60): active at once, and the coverage of the channels that leave or join set anew. All the
leaving channels are handled before the joining ones, each in ascending number (log 37). -/
def takePlanNow (r : Rail) (p : Plan) (s : State) : State :=
  let old := s.setup.plans.get r
  let s := (s.setPlan r p).setFiring r { s.firing.get r with staged := none, pointer := 0 }
  let s := (planDifference old p).foldl (fun s ch => s.setCover r ch (Cover.fresh false)) s
  (planDifference p old).foldl (fun s ch => s.setCover r ch (Cover.fresh true)) s

/-- A taken STAGE_PLAN (R29). -/
def takePlan (r : Rail) (p : Plan) (s : State) : State :=
  if s.stopped then takePlanNow r p s else s.setFiring r { s.firing.get r with staged := some p }

/-- STAGE_PLAN (R28, R29). -/
def stagePlan (f : List (List Nat)) (fr : Frame) (s : State) : State :=
  match fr.rail with
  | none => s.reply fr .range 0 .headOnly
  | some r =>
    match planOf 0 f with
    | .error i => s.reply fr .range i .headOnly
    | .ok p =>
      if s.stopped && s.writing then s.reply fr .busy 0 .headOnly
      else
        match p.findIdx? (s.groupClashes r) with
        | some i => s.reply fr .conflict i .headOnly
        | none => (takePlan r p s).reply fr .ok 0 .headOnly

def execStagePlan (plan : List (List Nat)) (s : State) : Outcome :=
  .next (request .stagePlan (planSize plan) s (stagePlan plan))

/-- READ_PLAN (R27). -/
def readPlan (fr : Frame) (s : State) : State :=
  match fr.rail with
  | none => s.reply fr .range 0 .headOnly
  | some r =>
    s.reply fr .ok 0
      (.plan (s.setup.plans.get r) (s.firing.get r).staged (s.firing.get r).pointer (s.firing.get r).isFiring)

def execReadPlan (s : State) : Outcome := .next (request .readPlan 0 s readPlan)

/-! ### Rail records (R25, R26) -/

/-- Replace a rail's record. -/
def State.setRailRecord (s : State) (r : Rail) (x : RailSettings) : State :=
  s.setSetup { s.setup with rails := s.setup.rails.set r x }

/-- SET_RAIL (R25). -/
def setRail (f : RailFields) (fr : Frame) (s : State) : State :=
  match fr.rail with
  | none => s.reply fr .range 0 .headOnly
  | some r =>
    let old := s.setup.rails.get r
    match f.clamp with
    | none => s.reply fr .range 0 (.railRecord old)
    | some new =>
      if s.writing then s.reply fr .busy 0 (.railRecord old)
      else if !s.stopped && !(new.join == old.join && new.settle == old.settle) then s.reply fr .state 0 (.railRecord old)
      else (s.setRailRecord r new).reply fr (doneCode f.fits) 0 (.railRecord new)

def execSetRail (fields : RailFields) (s : State) : Outcome := .next (request .setRail fields.size s (setRail fields))

/-! ### Levels (R51, R52) -/

/-- The record with new levels; an absent gate has none (R52). -/
def ChannelRecord.withLevels (x : ChannelRecord) (f : LevelFields) : ChannelRecord :=
  { x with
    interfaceLevel := clampNat 0 4095 f.interface
    couplingLevel := clampNat 0 4095 f.coupling
    gates := Vector.ofFn (fun g => (x.gates[g]).map (fun y => { y with level := f.flaw[g] })) }

/-- The five levels of a channel as a reply carries them; an absent gate shows 0 (R51). -/
def ChannelRecord.levels (x : ChannelRecord) : ReplyPayload :=
  .levels x.interfaceLevel x.couplingLevel (Vector.ofFn (fun g => (x.gates[g]).elim 0 FlawGate.level))

/-- SET_LEVELS (R51). -/
def setLevels (f : LevelFields) (fr : Frame) (s : State) : State :=
  match fr.rail, fr.channel with
  | some r, some ch =>
    let old := s.channel r ch
    if s.writing then s.reply fr .busy 0 old.levels
    else (s.setChannelRecord r ch (old.withLevels f)).reply fr (doneCode f.fits) 0 (old.withLevels f).levels
  | _, _ => s.reply fr .range 0 .headOnly

def execSetLevels (fields : LevelFields) (s : State) : Outcome := .next (request .setLevels fields.size s (setLevels fields))

/-! ### Snapshots (R53) -/

/-- SNAPSHOT (R53). -/
def snapshot (fr : Frame) (s : State) : State :=
  match fr.rail, fr.channel with
  | some r, some ch =>
    if s.run.state ≠ .running ∨ s.inPlan r ch = false then s.reply fr .state 0 .headOnly
    else if (s.echo.get r).snapshot ≠ .idle then s.reply fr .busy 0 .headOnly
    else (s.setEcho r { s.echo.get r with snapshot := .waiting ch }).reply fr .ok 0 .headOnly
  | _, _ => s.reply fr .range 0 .headOnly

def execSnapshot (s : State) : Outcome := .next (request .snapshot 0 s snapshot)

/-! ### Patterns (R141, R142) -/

/-- An entry as SET_PATTERN carries it, clamped: EMPTY or a pattern; `none` where a structural field is outside its set. -/
def entryOf : Option PatternFields → Option (Option Pattern)
  | none => some none
  | some f => f.clamp.map some

/-- Check 3 of R141: depth min is greater than depth max. -/
def depthsCross : Option Pattern → Bool
  | none => false
  | some p => decide (p.depthMax < p.depthMin)

/-- Replace an entry of the pattern table. -/
def State.setEntry (s : State) (i : Fin 16) (x : Option Pattern) : State :=
  s.setSetup { s.setup with patterns := setAt s.setup.patterns i x }

/-- SET_PATTERN (R141). For an index outside 0 to 15 there is no entry to carry, and the reply is its head alone (log 28). -/
def setPattern (f : SetPatternFields) (fr : Frame) (s : State) : State :=
  match (indexBelow 16 f.index : Option (Fin 16)) with
  | none => s.reply fr .range 0 .headOnly
  | some i =>
    let old := s.setup.patterns[i]
    match entryOf f.entry with
    | none => s.reply fr .range 0 (patternPayload old)
    | some new =>
      if s.writing then s.reply fr .busy 0 (patternPayload old)
      else if depthsCross new then s.reply fr .order 0 (patternPayload old)
      else (s.setEntry i new).reply fr (doneCode (f.entry.all PatternFields.fits)) 0 (patternPayload new)

def execSetPattern (fields : SetPatternFields) (s : State) : Outcome :=
  .next (request .setPattern fields.size s (setPattern fields))

/-- READ_PATTERN (R142). Refused, its reply is its head alone (log 28). -/
def readPattern (index : Nat) (fr : Frame) (s : State) : State :=
  match (indexBelow 16 index : Option (Fin 16)) with
  | none => s.reply fr .range 0 .headOnly
  | some i => s.reply fr .ok 0 (patternPayload s.setup.patterns[i])

def execReadPattern (index : Nat) (s : State) : Outcome := .next (request .readPattern 1 s (readPattern index))

end Sys2Proof.Machine
end

