-- ==== Sys2Proof/Machine/Signals.lean ====
section
/-! DEFINITION. The signal router (sections 9.6): routes, level and pulse sources, stretch timers, line outputs. -/

namespace Sys2Proof.Machine

/-! ### Sources and lines -/

/-- Some channel of a rail is UNCOUPLED (R154). -/
def RouterView.anyUncoupled (v : RouterView) (r : Rail) : Bool :=
  (List.finRange 12).any (fun ch => (v.coupling.get r)[ch] == .uncoupled)

/-- Every in-plan channel of both rails is COUPLED, and some channel of either rail is in plan (R154); a channel is INACTIVE
exactly when it is not in plan (R60). -/
def RouterView.allCoupled (v : RouterView) : Bool :=
  let states := (List.finRange 12).map (fun ch => v.coupling.left[ch]) ++ (List.finRange 12).map (fun ch => v.coupling.right[ch])
  states.all (fun c => c == .coupled || c == .inactive) && states.any (fun c => c == .coupled)

/-- The condition of a level source; `none` for a pulse source (R154, R155). -/
def RouterView.condition (v : RouterView) (speedLimit : Nat) : Source → Option Bool
  | .off => some false
  | .on => some true
  | .uncoupledLeft => some (v.anyUncoupled .left)
  | .uncoupledRight => some (v.anyUncoupled .right)
  | .allCoupled => some v.allCoupled
  | .sprayLeft => some v.spraying.left
  | .sprayRight => some v.spraying.right
  | .overspeed => some (decide (speedLimit < v.speed))
  | .hostSilent => some v.silence
  | .running => some (v.runState == .running)
  | .findingLeft => none
  | .findingRight => none
  | .findingAny => none
  | .skip => none

/-- A line's active state: its source's condition, or for a pulse source its running stretch timer (R154, R155). -/
def State.lineActive (s : State) (l : SignalLine) : Bool :=
  match s.router.view.condition s.setup.signals.speedLimit s.setup.signals.routes[l].source with
  | some b => b
  | none => s.router.stretchEnd[l].isSome

/-- A line's output: driven on when active with invert OFF, or inactive with invert ON (R156). -/
def State.lineDriven (s : State) (l : SignalLine) : Bool := s.lineActive l != s.setup.signals.routes[l].invert

/-- A source that a pulse makes active (R155). -/
def Pulse.feeds : Pulse → Source → Bool
  | .finding .left, .findingLeft => true
  | .finding .right, .findingRight => true
  | .finding _, .findingAny => true
  | .skip, .skip => true
  | _, _ => false

/-! ### Steps -/

/-- SIGNAL_PULSE (R155): the pulse handed over first starts or restarts the timer of each line routed to its source. -/
def signalPulse (s : State) : State :=
  match s.router.pulses with
  | [] => s
  | p :: rest =>
    s.setRouter
      { s.router with
        pulses := rest
        stretchEnd := Vector.ofFn (fun l =>
          let route := s.setup.signals.routes[l]
          if p.feeds route.source then some (s.now + route.stretch * Config.ticksPerMs) else s.router.stretchEnd[l]) }

def execSignalPulse (s : State) : Outcome := .next (signalPulse s)

/-- What the router holds after a handover (R154). -/
def RouterView.take (v : RouterView) : LevelHandover → RouterView
  | .coupling r ch st => { v with coupling := v.coupling.modify r (fun c => setAt c ch st) }
  | .gun r b => { v with spraying := v.spraying.set r b }
  | .speed n => { v with speed := n }
  | .silence b => { v with silence := b }
  | .runState st => { v with runState := st }

/-- SIGNAL_LEVEL_CHANGE (R154): the handover made first is taken. -/
def signalLevelChange (s : State) : State :=
  match s.router.levels with
  | [] => s
  | l :: rest => s.setRouter { s.router with view := s.router.view.take l, levels := rest }

def execSignalLevelChange (s : State) : Outcome := .next (signalLevelChange s)

/-- STRETCH_END (R155): a line's stretch timer reaches its end. -/
def stretchEnd (l : SignalLine) (s : State) : State :=
  match s.router.stretchEnd[l] with
  | none => s
  | some t => (s.advanceTo t).setRouter { s.router with stretchEnd := setAt s.router.stretchEnd l none }

def execStretchEnd (line : SignalLine) (s : State) : Outcome := .next (stretchEnd line s)

/-! ### Routes -/

/-- Take signal settings (R153, R157): the stretch timer of a line whose source changes stops. -/
def applySignals (new : SignalSettings) (s : State) : State :=
  let old := s.setup.signals
  (s.setSetup { s.setup with signals := new }).setRouter
    { s.router with
      stretchEnd := Vector.ofFn (fun l =>
        if old.routes[l].source = new.routes[l].source then s.router.stretchEnd[l] else none) }

/-- SET_SIGNALS (R153). -/
def setSignals (f : SignalFields) (fr : Frame) (s : State) : State :=
  match f.clamp with
  | none => s.reply fr .range f.failingLine (.signals s.setup.signals)
  | some new =>
    if s.writing then s.reply fr .busy 0 (.signals s.setup.signals)
    else
      let s := applySignals new s
      s.reply fr (doneCode f.fits) 0 (.signals s.setup.signals)

def execSetSignals (fields : SignalFields) (s : State) : Outcome := .next (request .setSignals fields.size s (setSignals fields))

end Sys2Proof.Machine
end

