-- ==== Sys2Proof/Machine/Travel.lean ====
section
/-! DEFINITION. The travel unit (chapter 1): counts, motion and speed, pitch events, the travel settings, position setting
and odometer calibration. -/

namespace Sys2Proof.Machine

/-! ### Counts -/

/-- The sign of an edge with direction sense NORMAL: +1 when phase 1 leads phase 2 (R1). Phase 1 leads when it rises while
phase 2 is low or falls while phase 2 is high, and when phase 2 rises while phase 1 is high or falls while it is low. -/
def normalSign : Edge → Option Int
  | .phase1 rising otherHigh => some (if rising = otherHigh then -1 else 1)
  | .phase2 rising otherHigh => some (if rising = otherHigh then 1 else -1)
  | .bothTogether => none

/-- The sign of a count (R1); SWAPPED exchanges the two signs. -/
def countSign (sense : DirectionSense) (e : Edge) : Option Int :=
  match sense with
  | .normal => normalSign e
  | .swapped => (normalSign e).map (fun v => -v)

/-- The motion a count gives (R4). -/
def motionOf (sign : Int) : Motion := if 0 < sign then .forward else .reverse

/-- How many boundaries a car position has reached, from boundary b on at this pitch (R7). -/
def boundariesReached (car b : Int) (pitch : Nat) : Nat := if car < b then 0 else ((car - b) / pitch + 1).toNat

/-- The boundaries of those pitch events, in ascending order (R7). -/
def pitchBoundaries (b : Int) (pitch n : Nat) : List Int := (List.range n).map (fun k => b + (k * pitch : Nat))

/-- The travel unit after one count of this sign, but for the motion state (R2, R3, R5, R7, R14). -/
def Travel.count (t : Travel) (set : TravelSettings) (now : Nat) (sign : Int) : Travel :=
  let acc := clampInt Config.accumulatorMin Config.accumulatorMax (t.accumulator + sign * set.scale)
  let car := acc / 65536
  { t with
    accumulator := acc
    frontier := max t.frontier car
    boundary := t.boundary + (boundariesReached car t.boundary set.pitch * set.pitch : Nat)
    lastCount := some now
    calCount := if t.calOpen then clampInt Config.calCountMin Config.calCountMax (t.calCount + sign) else t.calCount }

/-- Hand a new car position with its motion to a marking unit (R9, R145). -/
def State.handMove (s : State) (r : Rail) (m : Move) : State :=
  s.setMarking r { s.marking.get r with moves := (s.marking.get r).moves ++ [m] }

/-- Hand pitch events to a firing unit (R7, R9). -/
def State.handPitch (s : State) (r : Rail) (bs : List Int) : State :=
  s.setFiring r { s.firing.get r with pitchEvents := (s.firing.get r).pitchEvents ++ bs }

/-- Hand a frontier change to the landmark list (R9). -/
def State.handFrontier (s : State) (f : Int) : State :=
  s.setLandmarks { s.landmarks with frontiers := s.landmarks.frontiers ++ [f] }

/-- One count of this sign, with its handovers (R2 to R9, R14). -/
def takeCount (sign : Int) (s : State) : State :=
  let t := s.travel
  let t' := t.count s.setup.travel s.now sign
  let events := pitchBoundaries t.boundary s.setup.travel.pitch
    (boundariesReached t'.carPosition t.boundary s.setup.travel.pitch)
  let s := (s.setTravel t').setMotion (motionOf sign)
  let s := if t'.carPosition = t.carPosition then s
    else (s.handMove .left ⟨t'.carPosition, motionOf sign⟩).handMove .right ⟨t'.carPosition, motionOf sign⟩
  let s := if t.frontier < t'.frontier then s.handFrontier t'.frontier else s
  if events = [] then s else (s.handPitch .left events).handPitch .right events

/-- ENCODER_COUNT (R1). -/
def encoderCount (e : Edge) (s : State) : State :=
  match countSign s.setup.travel.sense e with
  | none => s
  | some sign => takeCount sign s

def execEncoderCount (edge : Edge) (s : State) : Outcome := .next (encoderCount edge s)

/-! ### Motion and speed -/

/-- STANDSTILL_EXPIRY (R5): the measure reaches the standstill time. It does not run before the first count, and
STANDSTILL is not reached twice. -/
def standstillExpiry (s : State) : State :=
  match s.travel.lastCount with
  | none => s
  | some t =>
    if s.travel.motion = .standstill then s
    else (s.advanceTo (t + s.setup.travel.standstill * Config.ticksPerMs)).setMotion .standstill

def execStandstillExpiry (s : State) : Outcome := .next (standstillExpiry s)

/-- The speed of a window over a distance of `d` tenths (R6). -/
def speedOf (d : Int) : Nat := min 65535 ((d.natAbs * 36 + 500) / 1000)

/-- SPEED_WINDOW_END (R6). -/
def speedWindowEnd (s : State) : State :=
  let t := s.travel
  let speed := speedOf (t.carPosition - t.speedReference)
  (((s.advanceTo t.windowEnd).setTravel
    { t with speed := speed, speedReference := t.carPosition, windowEnd := t.windowEnd + Config.speedWindowTicks })).handLevel
      (.speed speed)

def execSpeedWindowEnd (s : State) : Outcome := .next (speedWindowEnd s)

/-! ### Settings -/

/-- Take travel settings (R11, R18): a standstill time the running measure already exceeds makes motion STANDSTILL (R5). -/
def applyTravel (new : TravelSettings) (s : State) : State :=
  let s := s.setSetup { s.setup with travel := new }
  match s.travel.lastCount with
  | none => s
  | some t => if new.standstill * Config.ticksPerMs < s.now - t then s.setMotion .standstill else s

/-- SET_TRAVEL's check and effect (R10). -/
def setTravel (f : TravelFields) (fr : Frame) (s : State) : State :=
  let refuse (c : ReplyCode) := s.reply fr c 0 (.travel s.setup.travel)
  match senseOf f.sense with
  | none => refuse .range
  | some sense =>
    let new := f.clamp sense
    if s.writing then refuse .busy
    else if !s.stopped && !(new.sense == s.setup.travel.sense && new.pitch == s.setup.travel.pitch) then refuse .state
    else
      let s := applyTravel new s
      s.reply fr (doneCode f.fits) 0 (.travel s.setup.travel)

def execSetTravel (fields : TravelFields) (s : State) : Outcome := .next (request .setTravel fields.size s (setTravel fields))

/-! ### Position setting -/

/-- The effect of a taken SET_POSITION (R12, R120, R145, R151). Pitch events and position changes still waiting are overwritten
by the set, so that no firing after it carries a boundary from before it (R31); the retirement checks of frontier changes still
waiting are made before the set's own (log 16). -/
def takePosition (p : Int) (s : State) : State :=
  let s := s.setTravel
    { s.travel with
      accumulator := p * 65536
      frontier := p
      boundary := p + s.setup.travel.pitch
      speedReference := p }
  let s := bothRails.foldl
    (fun s r =>
      let s := discardMarks r (s.setFiring r { s.firing.get r with pitchEvents := [] })
      s.setMarking r
        { s.marking.get r with gun := p - ((s.setup.rails.get r).gunOffset : Int), moves := [] }) s
  s.setLandmarks { (s.landmarks.frontiers.foldl LandmarkList.retire s.landmarks).retire p with frontiers := [] }

/-- SET_POSITION (R12). -/
def setPosition (p : Word32) (fr : Frame) (s : State) : State :=
  if s.stopped then (takePosition p.toInt s).reply fr .ok 0 .headOnly else s.reply fr .state 0 .headOnly

def execSetPosition (position : Word32) (s : State) : Outcome :=
  .next (request .setPosition 4 s (setPosition position))

/-! ### Odometer calibration -/

/-- ODO_CAL_BEGIN (R13). -/
def odoCalBegin (fr : Frame) (s : State) : State :=
  (s.setTravel { s.travel with calOpen := true, calCount := 0 }).reply fr .ok 0 .headOnly

def execOdoCalBegin (s : State) : Outcome := .next (request .odoCalBegin 0 s odoCalBegin)

/-- ODO_CAL_END (R15): the conditions of its table in order. -/
def odoCalEnd (d : Int) (fr : Frame) (s : State) : State :=
  let distance := clampNat 10000 100000000 d
  let n := s.travel.calCount.natAbs
  let answer (s : State) (c : ReplyCode) := s.reply fr c 0 (.calibration n s.setup.travel.scale distance)
  if !s.travel.calOpen then answer s .order
  else if s.writing then answer s .busy
  else if n < 1000 then answer s .order
  else
    let scale := (roundDiv (distance * 65536) n).toNat
    let closed := s.setTravel { s.travel with calOpen := false }
    if scale < 1 ∨ 16777215 < scale then answer closed .range
    else
      answer (closed.setSetup { s.setup with travel := { s.setup.travel with scale := scale } })
        (doneCode (within 10000 100000000 d))

def execOdoCalEnd (distance : Int) (s : State) : Outcome := .next (request .odoCalEnd 4 s (odoCalEnd distance))

end Sys2Proof.Machine
end

