-- ==== Sys2Proof/Machine/Runs.lean ====
section
/-! DEFINITION. The run controller (chapter 10): starting, draining and flushing a run, and the setup store. -/

namespace Sys2Proof.Machine

/-! ### Runs (R158 to R162) -/

/-- A taken RUN_START (R159): pointers 0, coverage anew, RUNNING. The changes of coupling state are handed on before the change of
run state: the model's choice (log 45). -/
def startRun (s : State) : State :=
  let s := bothRails.foldl
    (fun s r => (s.setFiring r { s.firing.get r with pointer := 0, flight := none, held := none }).resetCoverage r) s
  s.setRunState .running

/-- RUN_START (R159). -/
def runStart (fr : Frame) (s : State) : State :=
  if !s.stopped then s.reply fr .state 0 .headOnly
  else if s.writing then s.reply fr .busy 0 .headOnly
  else if s.setup.plans.left.isEmpty && s.setup.plans.right.isEmpty then s.reply fr .conflict 0 .headOnly
  else (startRun s).reply fr .ok 0 .headOnly

def execRunStart (s : State) : Outcome := .next (request .runStart 0 s runStart)

/-- A taken RUN_STOP (R160): DRAINING, no rail drained, snapshots cancelled, held requests dropped. The change of run state is
handed on before the CANCELLED records are offered (R57, log 35). -/
def stopRun (s : State) : State :=
  let s := (s.setRun { s.run with drained := ⟨false, false⟩ }).setRunState .draining
  bothRails.foldl (fun s r => drainFiring r (cancelSnapshot r s)) s

/-- RUN_STOP (R160). -/
def runStop (fr : Frame) (s : State) : State :=
  if s.run.state = .running then (stopRun s).reply fr .ok 0 .headOnly else s.reply fr .state 0 .headOnly

def execRunStop (s : State) : Outcome := .next (request .runStop 0 s runStop)

/-- RAIL_DRAINED (R161): the run controller takes a rail's drain notice; with both rails recorded the run state becomes
STOPPED. A drain notice exists in DRAINING alone (R158). That the drained-rails record then stands at both, until the next RUN_STOP
or RESTART, is the model's choice (log 49). -/
def railDrained (r : Rail) (s : State) : State :=
  if s.run.state = .draining ∧ s.run.drainNotices.get r = true then
    let drained := s.run.drained.set r true
    let s := s.setRun { s.run with drained := drained, drainNotices := s.run.drainNotices.set r false }
    if drained.left && drained.right then s.setRunState .stopped else s
  else s

def execRailDrained (rail : Rail) (s : State) : Outcome := .next (railDrained rail s)

/-- FLUSH (R162): a flush notice to each rail's echo processor. -/
def flush (fr : Frame) (s : State) : State :=
  if s.run.state = .running then ((s.toEcho .left .flush).toEcho .right .flush).reply fr .ok 0 .headOnly
  else s.reply fr .state 0 .headOnly

def execFlush (s : State) : Outcome := .next (request .flush 0 s flush)

/-! ### The setup store (R168 to R171) -/

/-- SETUP_SAVE (R169): the old image is erased and the setup as it stands is being written (log 18). -/
def setupSave (fr : Frame) (s : State) : State :=
  if !s.stopped then s.reply fr .state 0 .headOnly
  else if s.writing then s.reply fr .busy 0 .headOnly
  else (s.setRun { s.run with writing := some s.setup, image := none }).reply fr .ok 0 .headOnly

def execSetupSave (s : State) : Outcome := .next (request .setupSave 0 s setupSave)

/-- SETUP_SAVE_COMPLETE (R169): the read-back matched, or not. -/
def setupSaveComplete (matched : Bool) (s : State) : State :=
  match s.run.writing with
  | none => s
  | some image =>
    (s.setRun { s.run with writing := none, image := if matched then some image else none }).offer (.setupResult matched)

def execSetupSaveComplete (readBackMatched : Bool) (s : State) : Outcome := .next (setupSaveComplete readBackMatched s)

/-- The channel records, rail records, plans and patterns of an image (R19, R39, R144). -/
def takeImageRecords (image : Setup) (s : State) : State :=
  let s := s.setSetup
    { s.setup with rails := image.rails, channels := image.channels, plans := image.plans, patterns := image.patterns }
  bothRails.foldl
    (fun s r => (s.setFiring r { s.firing.get r with staged := none, pointer := 0 }).resetCoverage r) s

/-- A taken SETUP_RELOAD (R171): every setting of the image, each block's part as its own rule gives. R171 gives the parts no order;
that a change of motion is handed on first, then the changes of coupling state, then that of the silence state is the model's
choice (log 42). -/
def applyImage (image : Setup) (s : State) : State :=
  let s := applyReporting image.reporting (applySignals image.signals (takeImageRecords image (applyTravel image.travel s)))
  s.setRun { s.run with pendingPoint := none, source := .stored }

/-- SETUP_RELOAD (R171). -/
def setupReload (fr : Frame) (s : State) : State :=
  if !s.stopped then s.reply fr .state 0 .headOnly
  else if s.writing then s.reply fr .busy 0 .headOnly
  else
    match s.run.image with
    | none => s.reply fr .invalid 0 .headOnly
    | some image => (applyImage image s).reply fr .ok 0 .headOnly

def execSetupReload (s : State) : Outcome := .next (request .setupReload 0 s setupReload)

end Sys2Proof.Machine
end

