-- ==== Sys2Proof/Machine/Resets.lean ====
section
/-! DEFINITION. Power-on, the reset input, and RESTART (R16, R163, R164, R172, R184). -/

namespace Sys2Proof.Machine

/-- POWER_ON (R172): the setup from the store's image or the defaults, every block at its power-on value. A save in progress
left the store without a valid image (R169). -/
def powerOn (s : State) : State := State.powered s.run.image s.now s.pending s.between

def execPowerOn (s : State) : Outcome := .next (powerOn s)

/-- RESET_INPUT acts as POWER_ON (R16, R172). -/
def resetInput (s : State) : State := powerOn s

def execResetInput (s : State) : Outcome := .next (resetInput s)

/-! ### RESTART (R163, R164) -/

/-- The line interface at a taken RESTART (R184). What blocks had handed over and was not yet taken goes with the queue
(log 7). -/
def restartLine (s : State) : State :=
  s.setLine
    { s.line with
      queue := [], bundle := Bundle.initial, tag := 0, changes := ChangeSet.empty, frameErrors := 0, overruns := 0,
      dropped := 0, lost := 0, loss := false, inbox := [] }

/-- The record of an operation in flight (R93, R167). -/
def abortOperation (s : State) : State :=
  match s.run.operation with
  | none => s
  | some o => s.offer (abortRecord s o)

/-- The run controller at a taken RESTART (R164): no operation, no pending point, no rail drained, STOPPED. -/
def restartRun (s : State) : State :=
  let s := abortOperation s
  (s.setRun
    { s.run with
      drained := ⟨false, false⟩, operation := none, pendingPoint := none, suppressed := 0,
      drainNotices := ⟨false, false⟩ }).setRunState .stopped

/-- One rail's firing unit, echo processor, tracker and assembler at a taken RESTART (R39, R57, R73, R110, R144); what was
handed along the data path and not yet taken is discarded (R163). That a rail's CANCELLED record is offered before its changes of
coupling state are handed on is the model's choice (log 43). -/
def restartRail (s : State) (r : Rail) : State :=
  let s := cancelSnapshot r (s.setFiring r (s.firing.get r).restarted)
  let s := s.resetCoverage r
  let s := s.setEcho r { s.echo.get r with inbox := [] }
  (s.setTracker r Tracker.powerOn).setAssembler r Assembler.powerOn

/-- One rail's marking unit at a taken RESTART (R151): marks discarded, the valve closed, the gun position kept. -/
def restartMarking (s : State) (r : Rail) : State := (discardMarks r s).setSpray r none

/-- A taken RESTART (R163, R164): the line interface first, then each block. That the run controller comes before the blocks of the
rails, so that the change of run state is handed on before the CANCELLED records and the changes of coupling state, is the model's
choice (log 43). -/
def takeRestart (s : State) : State :=
  let s := restartRun (restartLine s)
  let s := bothRails.foldl restartRail s
  let s := s.setLandmarks { s.landmarks with entries := [] }
  let s := bothRails.foldl restartMarking s
  s.setRouter { s.router with stretchEnd := Vector.replicate 4 none }

/-- RESTART (R163). -/
def restart (fr : Frame) (s : State) : State :=
  if s.writing then s.reply fr .busy 0 .headOnly else (takeRestart s).reply fr .ok 0 .headOnly

def execRestart (s : State) : Outcome := .next (request .restart 0 s restart)

end Sys2Proof.Machine
end

