-- ==== Sys2Proof/Machine/Dispatch.lean ====
section
/-! DEFINITION. One arm per command: each calls its meaning. -/

namespace Sys2Proof.Machine

def exec (i : Instr) (s : State) : Host.Outcome State Fault Refusal :=
  match i with
  | .powerOn => Sys2Proof.Machine.execPowerOn s
  | .resetInput => Sys2Proof.Machine.execResetInput s
  | .encoderCount edge => Sys2Proof.Machine.execEncoderCount edge s
  | .standstillExpiry => Sys2Proof.Machine.execStandstillExpiry s
  | .speedWindowEnd => Sys2Proof.Machine.execSpeedWindowEnd s
  | .pitchEvent rail => Sys2Proof.Machine.execPitchEvent rail s
  | .groupCompletion rail lanes => Sys2Proof.Machine.execGroupCompletion rail lanes s
  | .completionProcessing rail => Sys2Proof.Machine.execCompletionProcessing rail s
  | .commitHandover rail => Sys2Proof.Machine.execCommitHandover rail s
  | .echoFlushNotice rail => Sys2Proof.Machine.execEchoFlushNotice rail s
  | .echoDrainNotice rail => Sys2Proof.Machine.execEchoDrainNotice rail s
  | .trackerHit rail => Sys2Proof.Machine.execTrackerHit rail s
  | .channelEndNotice rail => Sys2Proof.Machine.execChannelEndNotice rail s
  | .trackerCompletionNotice rail => Sys2Proof.Machine.execTrackerCompletionNotice rail s
  | .trackerCommitLeaving rail => Sys2Proof.Machine.execTrackerCommitLeaving rail s
  | .trackerFlushNotice rail => Sys2Proof.Machine.execTrackerFlushNotice rail s
  | .trackerDrainNotice rail => Sys2Proof.Machine.execTrackerDrainNotice rail s
  | .indication rail => Sys2Proof.Machine.execIndication rail s
  | .settleCheck rail => Sys2Proof.Machine.execSettleCheck rail s
  | .assemblerFlushNotice rail => Sys2Proof.Machine.execAssemblerFlushNotice rail s
  | .assemblerDrainNotice rail => Sys2Proof.Machine.execAssemblerDrainNotice rail s
  | .railDrained rail => Sys2Proof.Machine.execRailDrained rail s
  | .frontierRetirement => Sys2Proof.Machine.execFrontierRetirement s
  | .carPositionChange rail => Sys2Proof.Machine.execCarPositionChange rail s
  | .markRequest rail => Sys2Proof.Machine.execMarkRequest rail s
  | .sprayEnd rail => Sys2Proof.Machine.execSprayEnd rail s
  | .signalPulse => Sys2Proof.Machine.execSignalPulse s
  | .signalLevelChange => Sys2Proof.Machine.execSignalLevelChange s
  | .stretchEnd line => Sys2Proof.Machine.execStretchEnd line s
  | .calFiringStart => Sys2Proof.Machine.execCalFiringStart s
  | .calFiringCompletion samples => Sys2Proof.Machine.execCalFiringCompletion samples s
  | .verifyFiringStart => Sys2Proof.Machine.execVerifyFiringStart s
  | .verifyFiringCompletion => Sys2Proof.Machine.execVerifyFiringCompletion s
  | .setupSaveComplete readBackMatched => Sys2Proof.Machine.execSetupSaveComplete readBackMatched s
  | .frameReceived byte => Sys2Proof.Machine.execFrameReceived byte s
  | .frameError byte stopBit => Sys2Proof.Machine.execFrameError byte stopBit s
  | .interByteTimeout => Sys2Proof.Machine.execInterByteTimeout s
  | .unknownRequest => Sys2Proof.Machine.execUnknownRequest s
  | .sendReply => Sys2Proof.Machine.execSendReply s
  | .sendBundle => Sys2Proof.Machine.execSendBundle s
  | .recordOffer => Sys2Proof.Machine.execRecordOffer s
  | .bundleFlushExpiry => Sys2Proof.Machine.execBundleFlushExpiry s
  | .changeHandover => Sys2Proof.Machine.execChangeHandover s
  | .statusTimerExpiry => Sys2Proof.Machine.execStatusTimerExpiry s
  | .silenceExpiry => Sys2Proof.Machine.execSilenceExpiry s
  | .identify => Sys2Proof.Machine.execIdentify s
  | .readStatus => Sys2Proof.Machine.execReadStatus s
  | .setReporting fields => Sys2Proof.Machine.execSetReporting fields s
  | .setTravel fields => Sys2Proof.Machine.execSetTravel fields s
  | .setPosition position => Sys2Proof.Machine.execSetPosition position s
  | .odoCalBegin => Sys2Proof.Machine.execOdoCalBegin s
  | .odoCalEnd distance => Sys2Proof.Machine.execOdoCalEnd distance s
  | .setChannel fields => Sys2Proof.Machine.execSetChannel fields s
  | .readChannel => Sys2Proof.Machine.execReadChannel s
  | .stagePlan plan => Sys2Proof.Machine.execStagePlan plan s
  | .readPlan => Sys2Proof.Machine.execReadPlan s
  | .setRail fields => Sys2Proof.Machine.execSetRail fields s
  | .setLevels fields => Sys2Proof.Machine.execSetLevels fields s
  | .snapshot => Sys2Proof.Machine.execSnapshot s
  | .calChannel fields => Sys2Proof.Machine.execCalChannel fields s
  | .addLandmarks entries => Sys2Proof.Machine.execAddLandmarks entries s
  | .clearLandmarks retention => Sys2Proof.Machine.execClearLandmarks retention s
  | .readLandmarks => Sys2Proof.Machine.execReadLandmarks s
  | .setPattern fields => Sys2Proof.Machine.execSetPattern fields s
  | .readPattern index => Sys2Proof.Machine.execReadPattern index s
  | .setSignals fields => Sys2Proof.Machine.execSetSignals fields s
  | .runStart => Sys2Proof.Machine.execRunStart s
  | .runStop => Sys2Proof.Machine.execRunStop s
  | .flush => Sys2Proof.Machine.execFlush s
  | .restart => Sys2Proof.Machine.execRestart s
  | .verify fields => Sys2Proof.Machine.execVerify fields s
  | .setupSave => Sys2Proof.Machine.execSetupSave s
  | .setupReload => Sys2Proof.Machine.execSetupReload s
  | .lineByteReceived byte stopBit => Sys2Proof.Machine.execLineByteReceived byte stopBit s
  | .frameSendEnd => Sys2Proof.Machine.execFrameSendEnd s

end Sys2Proof.Machine
end

