-- ==== Sys2Proof/Safety.lean ====
section
/-! DEFINITION. What the statements speak of: the parts of State and which of them a command may touch, and the laws that
the spec gives for what each block holds. A safe step is one that answers a next state: the spec names nothing that stops
the unit. -/

namespace Sys2Proof.Machine

/-! ### Parts of the state -/

/-- The parts: the queue, what waits between the queries, the clock, the settings, and each block, a block of a rail with its rail. -/
inductive Part where
  | pending | between | now | setup | travel | landmarks | router | run | line
  | firing (r : Rail)
  | echo (r : Rail)
  | tracker (r : Rail)
  | assembler (r : Rail)
  | marking (r : Rail)
  deriving DecidableEq, Repr

/-- A part is the same in two states. -/
def Part.same (p : Part) (s t : State) : Prop :=
  match p with
  | .pending => t.pending = s.pending
  | .between => t.between = s.between
  | .now => t.now = s.now
  | .setup => t.setup = s.setup
  | .travel => t.travel = s.travel
  | .landmarks => t.landmarks = s.landmarks
  | .router => t.router = s.router
  | .run => t.run = s.run
  | .line => t.line = s.line
  | .firing r => t.firing.get r = s.firing.get r
  | .echo r => t.echo.get r = s.echo.get r
  | .tracker r => t.tracker.get r = s.tracker.get r
  | .assembler r => t.assembler.get r = s.assembler.get r
  | .marking r => t.marking.get r = s.marking.get r

/-- Every part but those named is the same in both states. -/
def TouchesOnly (ps : List Part) (s t : State) : Prop := ∀ p, p ∉ ps → p.same s t

/-- Every part but the queue, what waits between the queries, and the clock. -/
def Part.blocks : List Part :=
  [.setup, .travel, .landmarks, .router, .run, .line, .firing .left, .firing .right, .echo .left, .echo .right,
    .tracker .left, .tracker .right, .assembler .left, .assembler .right, .marking .left, .marking .right]

/-- What closing findings of a rail may touch (R137 to R139), with what befalls the landmark list meanwhile (R122). -/
def Part.closing (r : Rail) : List Part := [.assembler r, .line, .router, .run, .marking r, .landmarks, .between]

/-- The parts a command may touch, from the owners its rules name. The queue is in none of them. -/
def commandParts : Instr → List Part
  | .powerOn => Part.blocks
  | .resetInput => Part.blocks
  | .encoderCount _ => [.travel, .marking .left, .marking .right, .firing .left, .firing .right, .landmarks, .line]
  | .standstillExpiry => [.now, .travel, .marking .left, .marking .right, .line]
  | .speedWindowEnd => [.now, .travel, .router]
  | .pitchEvent r => [.firing r, .setup, .echo r, .router]
  | .groupCompletion r _ => [.now, .firing r, .echo r]
  | .completionProcessing r => [.echo r, .tracker r, .line, .router]
  | .commitHandover r => [.echo r, .tracker r, .line, .router]
  | .echoFlushNotice r => [.echo r, .tracker r]
  | .echoDrainNotice r => [.echo r, .tracker r, .line]
  | .trackerHit r => [.tracker r]
  | .channelEndNotice r => [.tracker r, .assembler r]
  | .trackerCompletionNotice r => [.tracker r, .assembler r]
  | .trackerCommitLeaving r => [.tracker r, .assembler r]
  | .trackerFlushNotice r => [.tracker r, .assembler r]
  | .trackerDrainNotice r => [.tracker r, .assembler r]
  | .indication r => Part.closing r
  | .settleCheck r => Part.closing r
  | .assemblerFlushNotice r => Part.closing r
  | .assemblerDrainNotice r => Part.closing r
  | .railDrained _ => [.run, .line, .router]
  | .frontierRetirement => [.landmarks]
  | .carPositionChange r => [.marking r, .line, .router]
  | .markRequest r => [.marking r, .line]
  | .sprayEnd r => [.now, .marking r, .router]
  | .signalPulse => [.router]
  | .signalLevelChange => [.router]
  | .stretchEnd _ => [.now, .router]
  | .calFiringStart => [.now, .run, .firing .left, .firing .right]
  | .calFiringCompletion _ => [.now, .setup, .run, .firing .left, .firing .right, .line, .router]
  | .verifyFiringStart => [.now, .run, .firing .left, .firing .right]
  | .verifyFiringCompletion => [.now, .run, .firing .left, .firing .right, .line, .router]
  | .setupSaveComplete _ => [.run, .line]
  | .frameReceived _ => [.line, .router]
  | .frameError _ _ => [.line]
  | .interByteTimeout => [.line]
  | .unknownRequest => [.line]
  | .sendReply => [.line]
  | .sendBundle => [.line]
  | .recordOffer => [.line]
  | .bundleFlushExpiry => [.now, .line]
  | .changeHandover => [.line]
  | .statusTimerExpiry => [.now, .line]
  | .silenceExpiry => [.now, .line, .router]
  | .identify => [.line]
  | .readStatus => [.line]
  | .setReporting _ => [.setup, .line, .router]
  | .setTravel _ => [.setup, .travel, .marking .left, .marking .right, .line]
  | .setPosition _ =>
    [.travel, .firing .left, .firing .right, .marking .left, .marking .right, .landmarks, .line]
  | .odoCalBegin => [.travel, .line]
  | .odoCalEnd _ => [.setup, .travel, .line]
  | .setChannel _ => [.setup, .run, .line]
  | .readChannel => [.line]
  | .stagePlan _ => [.setup, .firing .left, .firing .right, .echo .left, .echo .right, .line, .router]
  | .readPlan => [.line]
  | .setRail _ => [.setup, .line]
  | .setLevels _ => [.setup, .line]
  | .snapshot => [.echo .left, .echo .right, .line]
  | .calChannel _ => [.run, .firing .left, .firing .right, .line, .router]
  | .addLandmarks _ => [.landmarks, .line]
  | .clearLandmarks _ => [.landmarks, .line]
  | .readLandmarks => [.line]
  | .setPattern _ => [.setup, .line]
  | .readPattern _ => [.line]
  | .setSignals _ => [.setup, .line, .router]
  | .runStart => [.run, .firing .left, .firing .right, .echo .left, .echo .right, .line, .router]
  | .runStop => [.run, .firing .left, .firing .right, .echo .left, .echo .right, .line, .router]
  | .flush => [.echo .left, .echo .right, .line]
  | .restart =>
    [.landmarks, .router, .run, .line, .firing .left, .firing .right, .echo .left, .echo .right, .tracker .left,
      .tracker .right, .assembler .left, .assembler .right, .marking .left, .marking .right]
  | .verify _ => [.run, .firing .left, .firing .right, .line, .router]
  | .setupSave => [.run, .line]
  | .setupReload =>
    [.setup, .travel, .run, .firing .left, .firing .right, .echo .left, .echo .right, .marking .left, .marking .right, .line,
      .router]
  | .lineByteReceived _ _ => [.line, .router]
  | .frameSendEnd => [.line]

/-! ### Handovers -/

/-- The line interface with these items waiting behind what already waits. -/
def Line.hear (l : Line) (xs : List LineItem) : Line := { l with inbox := l.inbox ++ xs }

/-- The signal router with these state handovers waiting behind what already waits. -/
def Router.hear (x : Router) (ls : List LevelHandover) : Router := { x with levels := x.levels ++ ls }

/-- What is handed on when a value goes from `a` to `b`: nothing where it stays. -/
def onChange {α β : Type} [DecidableEq α] (a b : α) (x : β) : List β := if a = b then [] else [x]

/-- The marking units when motion becomes `m`: where that is a change both hold it (R9, log 29). -/
def State.markingAt (s : State) (m : Motion) : Rails MarkingUnit :=
  if s.travel.motion = m then s.marking else ⟨{ s.marking.left with motion := m }, { s.marking.right with motion := m }⟩

/-- The MARK records DISCARDED of a queue, each with the number of marks left. -/
def discardedItems (r : Rail) (q : List Mark) : List LineItem :=
  q.zipIdx.map (fun x =>
    .offer (.mark ⟨r, .discarded, x.1.finding, x.1.target, none, x.1.merged, none, q.length - 1 - x.2⟩))

/-! ### Firings and gates -/

/-- The greatest of some lengths; 0 of none. -/
def isLongest (ls : List Nat) (n : Nat) : Prop := (∀ l ∈ ls, l ≤ n) ∧ (n ∈ ls ∨ ls = [] ∧ n = 0)

/-- The duration of a group (R21): the largest listen length among its channels in ticks, plus the rail recovery time. -/
def isDuration (s : State) (r : Rail) (g : Group) (n : Nat) : Prop :=
  ∃ l, isLongest (g.map (fun ch => (s.channel r ch).listen)) l ∧ n = l + (s.setup.rails.get r).recovery * 100

/-- The flight of a group that starts now at this position (R31), no firing of it void. -/
def flightFrom (s : State) (r : Rail) (g : Group) (position : Int) (endTime : Nat) : Flight :=
  ⟨g.map (fun ch => ⟨ch, s.channel r ch⟩), position, endTime, []⟩

/-- What a pending snapshot becomes when a group starts (R54): WAITING for one of its channels, it is bound. -/
def startedSnapshot (g : Group) (position : Int) (old new : PendingSnapshot) : Prop :=
  (∀ ch ∈ g, old = .waiting ch → new = .bound ch position) ∧ ((∀ ch ∈ g, old ≠ .waiting ch) → new = old)

/-- The group the plan pointer stands at, and where the pointer goes (R30). -/
def planStep (p : Plan) (pointer : Nat) (g : Group) (next : Nat) : Prop :=
  p[pointer]? = some g ∧ next = if pointer + 1 = p.length then 0 else pointer + 1

/-- Sample k of a gate's evaluated window at this interface time is `a`, at the sample time t it returns (R44). -/
def FlawGate.sampleAt (g : FlawGate) (samples : List Nat) (interfaceTime t a : Nat) : Prop :=
  g.start ≤ t ∧ t < g.start + g.width ∧ samples[interfaceTime + t]? = some a

/-- That sample reaches its level (R45). -/
def FlawGate.reachesAt (g : FlawGate) (curve : List CurvePoint) (samples : List Nat) (interfaceTime t a : Nat) : Prop :=
  g.sampleAt samples interfaceTime t a ∧ g.levelAt curve t ≤ (a : Int)

/-! ### Coverage -/

/-- The UNTESTED record of a channel's open stretch cut at the probe position of its last firing processed (R71, R72). -/
def cutRecord (r : Rail) (ch : Channel) (c : Cover) : List Record :=
  match c.stretch with
  | none => []
  | some st => [.untested ⟨r, ch, st.start, c.lastProbe.getD st.start, st.causes, true⟩]

/-- A firing is blanked (R64, R121): its channel honours blanking and its probe position lies in the extent of an entry with
the blank flag that applies to the rail. -/
def State.isBlanked (s : State) (r : Rail) (x : ChannelRecord) (pp : Int) : Bool :=
  x.honour && s.landmarks.entries.any (fun e =>
    e.blank && (e.rails == .both || e.rails == (match r with | .left => .left | .right => .right)) && decide (e.start ≤ pp) &&
      decide (pp ≤ e.start + e.length))

/-- The unit once one channel of a completion has been processed whole (R41, R63): a snapshot bound to the firing captured,
the coverage step made, a change of coupling state handed on, the UNTESTED records offered, then the kept hits in gate order
with their HIT records, and the channel-end notice behind them. -/
def State.afterChannel (r : Rail) (pf : Int) (s : State) (c : CompletedChannel) : State :=
  let res := gateResult c.record c.samples
  let pp := max (-2147483648) (min 2147483647 (pf + c.record.offset))
  let blanked := s.isBlanked r c.record pp
  let old := (s.echo.get r).cover[c.channel]
  let counted := old.count c.record res.pass pp
  let step := counted.stretches c.record pf (counted.coupling == .uncoupled && old.coupling != .uncoupled) blanked
  let captured := (s.echo.get r).snapshot = .bound c.channel pf
  let hits := (List.finRange 3).filterMap (fun g =>
    match hitFate blanked counted.coupling c.record.uncoupledMode, res.outcomes[g] with
    | some mark, .hit h => some (g, h, mark)
    | _, _ => none)
  let point (h : Hit) := placeHit c.record pf h
  { s with
    echo := s.echo.set r
      { s.echo.get r with
        cover := setAt (s.echo.get r).cover c.channel step.1
        snapshot := if captured then .idle else (s.echo.get r).snapshot }
    tracker := s.tracker.set r
      { s.tracker.get r with
        inbox := (s.tracker.get r).inbox ++
          hits.map (fun x => .hit ⟨c.channel, x.1, pf, (point x.2.1).reflector, (point x.2.1).depth, x.2.1.amplitude, x.2.2⟩) ++
          [.channelEnd c.channel pf] }
    line := s.line.hear
      ((if captured then
          [.offer (.snapshot (.captured r c.channel pf c.samples.length (res.interface.map Hit.time)
            (blockSize c.samples.length) (snapshotPoints c.samples)))] else []) ++
        onChange old.coupling counted.coupling (.change (.coupling r c.channel)) ++
        step.2.map (fun x => .offer (.untested ⟨r, c.channel, x.start, x.finish, x.causes, false⟩)) ++
        hits.map (fun x => .offer (.hit ⟨r, c.channel, x.1, pf, (point x.2.1).reflector, (point x.2.1).depth, x.2.1.amplitude,
          x.2.2, (point x.2.1).clamped⟩)))
    router := s.router.hear (onChange old.coupling counted.coupling (.coupling r c.channel counted.coupling)) }

/-! ### Traces -/

/-- The traces of a table that a predicate picks, in ascending slot order. -/
def tracesOf (slots : Vector (Option Trace) 32) (w : Trace → Bool) : List Trace :=
  (List.finRange 32).filterMap (fun i => slots[i].filter w)

/-- The minimum hits of a trace's gate as the channel record stands (R97, R104). -/
def State.minimumHits (s : State) (r : Rail) (t : Trace) : Nat :=
  match (s.channel r t.channel).gates[t.gate] with
  | some y => y.minimumHits
  | none => 0

/-- The unit once the tracker has taken its first input and closed these traces in this order, freeing the slots that `gone`
picks (R104): an indication for each with enough hits, a noise trace counted for each other, then these notices. -/
def State.afterClosing (s : State) (r : Rail) (picked : List Trace) (gone : Trace → Bool) (notice : List AssemblerItem) : State :=
  let k := s.tracker.get r
  { s with
    tracker := s.tracker.set r
      { k with
        slots := Vector.ofFn (fun i => if k.slots[i].any gone then none else k.slots[i])
        noise := min 65535 (k.noise + (picked.filter (fun t => decide (t.hits < s.minimumHits r t))).length)
        inbox := k.inbox.tail }
    assembler := s.assembler.set r
      { s.assembler.get r with
        inbox := (s.assembler.get r).inbox ++
          (picked.filter (fun t => decide (s.minimumHits r t ≤ t.hits))).map (fun t => .indication
            ⟨t.channel, t.gate, t.minPr, t.maxPr, t.minD, t.maxD, t.peak, t.hits, t.uncoupled⟩) ++ notice } }

/-! ### Findings -/

/-- The OPEN findings of a table that a predicate picks, with their slots, in ascending order of start, the lower slot first on
equal starts (R130, R132 to R135). -/
def inStartOrder (slots : Vector (Option Finding) 16) (w : Finding → Bool) (xs : List (Fin 16 × Finding)) : Prop :=
  xs.Pairwise (fun x y => x.2.start < y.2.start ∨ x.2.start = y.2.start ∧ x.1 < y.1) ∧
    ∀ i f, (i, f) ∈ xs ↔ slots[i] = some f ∧ w f = true

/-- A finding that a pattern's first three conditions fit (R136). -/
def Pattern.fitsShape (p : Pattern) (r : Rail) (f : Finding) : Prop :=
  p.rails.covers r = true ∧
    (∀ ch, hasChannel p.considered ch = true →
      ((∃ c ∈ f.contributions, c.channel = ch) ↔ hasChannel p.required ch = true)) ∧
    p.depthMin ≤ f.peakDepth ∧ f.peakDepth ≤ p.depthMax

/-- A finding that a pattern's four conditions fit (R136, R122). -/
def Pattern.fits (p : Pattern) (l : LandmarkList) (r : Rail) (f : Finding) : Prop :=
  p.fitsShape r f ∧
    match p.condition with
    | .unconditional => True
    | .near k w => l.present r f.start f.finish k w = true
    | .notNear k w => l.present r f.start f.finish k w = false

/-- The unit once n proximity queries have been reached: what waited before each of them has befallen the landmark list. -/
def State.seen (s : State) (n : Nat) : State :=
  { (s.between.take n).flatten.foldl landmarkStep s with between := s.between.drop n }

/-- How many proximity queries the search of a finding makes over the entries below n (R122, R137): one for each that asks. -/
def State.queries (s : State) (r : Rail) (f : Finding) (n : Nat) : Nat :=
  ((List.finRange 16).take n).countP (fun i => s.setup.patterns[i].any (fun p => p.asks r f))

/-- The landmark list that entry i of the search is judged by: as it stands at the entry's own query (R122). -/
def State.listAt (s : State) (r : Rail) (f : Finding) (i : Fin 16) : LandmarkList := (s.seen (s.queries r f (i.val + 1))).landmarks

/-- A finding fits none of these entries, each judged by the list of its own query; the entries are as R136 has them. -/
def State.fitsNoneBelow (s : State) (r : Rail) (f : Finding) (n : Nat) : Prop :=
  ∀ (j : Fin 16) q, j.val < n → s.setup.patterns[j] = some q →
    q.considered.toNat < 4096 ∧ q.required &&& q.considered = q.required ∧ ¬ q.fits (s.listAt r f j) r f

/-- The unit once a finding has been closed this way, its slot apart (R137 to R139): suppressed, or numbered, reported with a
finding pulse, and marked where its action and the marker enable ask for it. -/
def State.afterFinding (r : Rail) (how : ClosedBy) (s : State) (x : Fin 16 × Finding) : State :=
  let v := (classify r x.2 s).2
  let s := (classify r x.2 s).1
  match v.action with
  | .suppress => { s with run := { s.run with suppressed := raiseCounter s.run.suppressed } }
  | .act action =>
    let number := if (s.assembler.get r).number = 65535 then 1 else (s.assembler.get r).number + 1
    let marks := action == .reportAndMark && (s.setup.rails.get r).markerEnable
    { s with
      assembler := s.assembler.set r { s.assembler.get r with number := number }
      line := s.line.hear [.offer (.finding ⟨r, number, v.cls, v.pattern, action, marks, how, x.2, x.2.peakDepth⟩)]
      router := { s.router with pulses := s.router.pulses ++ [.finding r] }
      marking := s.marking.set r
        { s.marking.get r with
          requests := (s.marking.get r).requests ++ if marks then [⟨number, (x.2.start + x.2.finish) / 2⟩] else [] } }

/-- The unit once the assembler has taken its first input and closed these findings in this order. -/
def State.afterFindings (s : State) (r : Rail) (how : ClosedBy) (xs : List (Fin 16 × Finding)) : State :=
  let t := xs.foldl (State.afterFinding r how) s
  { t with
    assembler := t.assembler.set r
      { t.assembler.get r with
        inbox := (s.assembler.get r).inbox.tail
        slots := Vector.ofFn (fun i => if xs.any (fun x => decide (x.1 = i)) then none else (s.assembler.get r).slots[i]) } }

/-- The assembler of a rail with its first input taken and these slots. -/
def State.withFindings (s : State) (r : Rail) (slots : Vector (Option Finding) 16) : State :=
  { s with
    assembler := s.assembler.set r
      { s.assembler.get r with inbox := (s.assembler.get r).inbox.tail, slots := slots } }

/-! ### Requests -/

/-- The frame `f` is the request at the head of the input buffer, with `rest` behind it, of this kind, and the reply queue
has room (R176). -/
def requestHeads (s : State) (k : RequestKind) (f : Frame) (rest : List Frame) : Prop :=
  s.line.input = f :: rest ∧ s.line.replies.length < 4 ∧ f.kind.toNat = k.code

/-- Its body is as long as fields of `n` bytes beyond the head declare (R176, log 4). -/
def requestWaits (s : State) (k : RequestKind) (n : Nat) (f : Frame) (rest : List Frame) : Prop :=
  requestHeads s k f rest ∧ f.body.length = 4 + n

/-- The request a command takes: its kind, and the bytes that its fields beyond the head declare (R176, log 4). Of the other
commands none takes a request that its kind names. -/
def requestOf : Instr → Option (RequestKind × Nat)
  | .identify => some (.identify, 0)
  | .readStatus => some (.readStatus, 0)
  | .setReporting _ => some (.setReporting, 15)
  | .setTravel _ => some (.setTravel, 11)
  | .setPosition _ => some (.setPosition, 4)
  | .odoCalBegin => some (.odoCalBegin, 0)
  | .odoCalEnd _ => some (.odoCalEnd, 4)
  | .setChannel q => some (.setChannel, 90 + 4 * q.curve.length)
  | .readChannel => some (.readChannel, 0)
  | .stagePlan groups => some (.stagePlan, 2 + (groups.map (fun g => 2 + g.length)).sum)
  | .readPlan => some (.readPlan, 0)
  | .setRail _ => some (.setRail, 22)
  | .setLevels _ => some (.setLevels, 10)
  | .snapshot => some (.snapshot, 0)
  | .calChannel _ => some (.calChannel, 4)
  | .addLandmarks entries => some (.addLandmarks, 2 + 12 * entries.length)
  | .clearLandmarks _ => some (.clearLandmarks, 4)
  | .readLandmarks => some (.readLandmarks, 0)
  | .setPattern q => some (.setPattern, if q.entry = none then 2 else 19)
  | .readPattern _ => some (.readPattern, 1)
  | .setSignals _ => some (.setSignals, 18)
  | .runStart => some (.runStart, 0)
  | .runStop => some (.runStop, 0)
  | .flush => some (.flush, 0)
  | .restart => some (.restart, 0)
  | .verify _ => some (.verify, 8)
  | .setupSave => some (.setupSave, 0)
  | .setupReload => some (.setupReload, 0)
  | _ => none

/-- The line interface once the request `f` has left the buffer and its one reply is placed (R176). -/
def answeredLine (l : Line) (f : Frame) (rest : List Frame) (code : ReplyCode) (index : Nat) (payload : ReplyPayload) : Line :=
  { l with input := rest, replies := l.replies ++ [⟨f.kind, f.tag, code, index, payload⟩] }

/-- The state with nothing changed but the request taken and answered. -/
def answered (s : State) (f : Frame) (rest : List Frame) (code : ReplyCode) (index : Nat) (payload : ReplyPayload) : State :=
  { s with line := answeredLine s.line f rest code index payload }

/-- A request is answered with this code and changes nothing. -/
def answersOnly (i : Instr) (s : State) (f : Frame) (rest : List Frame) (code : ReplyCode) (index : Nat)
    (payload : ReplyPayload) : Prop :=
  exec i s = .next (answered s f rest code index payload)

/-- A group as STAGE_PLAN carries it lies within its set (R28): one to four channels from 0 to 11. -/
def isGroup (g : List Nat) : Prop := 1 ≤ g.length ∧ g.length ≤ 4 ∧ ∀ ch ∈ g, ch < 12

/-- A request of this kind stands at the head of the input buffer and the reply queue has room. -/
def State.requestFits (s : State) (k : RequestKind) : Prop := ∃ f rest, requestHeads s k f rest

/-- A commit has removed the channel and its traces are still to be closed: its leaving channels wait for the echo processor or
for the tracker (R35, R97). -/
def State.leaves (s : State) (r : Rail) (ch : Channel) : Prop :=
  (∃ a b, EchoItem.commit a b ∈ (s.echo.get r).inbox ∧ ch ∈ a) ∨ ∃ a, TrackerItem.leaving a ∈ (s.tracker.get r).inbox ∧ ch ∈ a

/-- A completion is not yet through tracking: the tracker has still to take a hit, a channel-end notice or a completion notice
(R33, R96). -/
def State.tracks (s : State) (r : Rail) : Prop :=
  (∃ h, TrackerItem.hit h ∈ (s.tracker.get r).inbox) ∨ (∃ ch pf, TrackerItem.channelEnd ch pf ∈ (s.tracker.get r).inbox) ∨
    ∃ pf, TrackerItem.completion pf ∈ (s.tracker.get r).inbox

/-- The HIT record of a hit has still to be offered: it waits at the line interface (R82, R102). -/
def State.streams (s : State) (r : Rail) (h : KeptHit) : Prop :=
  ∃ x, LineItem.offer (.hit x) ∈ s.line.inbox ∧ x.rail = r ∧ x.channel = h.channel ∧ x.gate = h.gate ∧ x.position = h.position

/-- The unit holds what the command takes: the handover, the running timer, the operation, the byte's frame or the request it
is about; and nothing that comes before it waits elsewhere: a completion in tracking, a HIT record, a channel's leaving, what the line interface
was handed. -/
def State.awaits (s : State) : Instr → Prop
  | .powerOn => True
  | .resetInput => True
  | .encoderCount e => countSign s.setup.travel.sense e ≠ none
  | .standstillExpiry => s.travel.lastCount ≠ none ∧ s.travel.motion ≠ .standstill
  | .speedWindowEnd => True
  | .pitchEvent r => (s.firing.get r).pitchEvents ≠ []
  | .groupCompletion r _ => (s.firing.get r).flight ≠ none
  | .completionProcessing r => (∃ pf g cs, (s.echo.get r).inbox.head? = some (.completion pf g cs)) ∧ ¬s.tracks r
  | .commitHandover r => (∃ a b, (s.echo.get r).inbox.head? = some (.commit a b)) ∧ ¬s.tracks r
  | .echoFlushNotice r => (s.echo.get r).inbox.head? = some .flush ∧ ¬s.tracks r
  | .echoDrainNotice r => (s.echo.get r).inbox.head? = some .drain ∧ ¬s.tracks r
  | .trackerHit r => ∃ h, (s.tracker.get r).inbox.head? = some (.hit h) ∧ ¬s.streams r h
  | .channelEndNotice r => ∃ ch pf, (s.tracker.get r).inbox.head? = some (.channelEnd ch pf)
  | .trackerCompletionNotice r => ∃ pf, (s.tracker.get r).inbox.head? = some (.completion pf)
  | .trackerCommitLeaving r => ∃ chs, (s.tracker.get r).inbox.head? = some (.leaving chs)
  | .trackerFlushNotice r => (s.tracker.get r).inbox.head? = some .flush
  | .trackerDrainNotice r => (s.tracker.get r).inbox.head? = some .drain
  | .indication r => ∃ i, (s.assembler.get r).inbox.head? = some (.indication i)
  | .settleCheck r => ∃ pf, (s.assembler.get r).inbox.head? = some (.completion pf)
  | .assemblerFlushNotice r => (s.assembler.get r).inbox.head? = some .flush
  | .assemblerDrainNotice r => (s.assembler.get r).inbox.head? = some .drain
  | .railDrained r => s.run.state = .draining ∧ s.run.drainNotices.get r = true
  | .frontierRetirement => s.landmarks.frontiers ≠ []
  | .carPositionChange r => (s.marking.get r).moves ≠ []
  | .markRequest r => (s.marking.get r).requests ≠ []
  | .sprayEnd r => (s.marking.get r).sprayEnd ≠ none
  | .signalPulse => s.router.pulses ≠ []
  | .signalLevelChange => s.router.levels ≠ []
  | .stretchEnd l => s.router.stretchEnd[l] ≠ none
  | .calFiringStart => ∃ c, s.run.operation = some (.calibration c) ∧ c.done < 16 ∧ (s.firing.get c.rail).operationFlight = none
  | .calFiringCompletion _ =>
    ∃ c, s.run.operation = some (.calibration c) ∧ (s.firing.get c.rail).operationFlight ≠ none ∧
      (c.done + 1 < 16 ∨ s.line.inbox = [])
  | .verifyFiringStart =>
    ∃ v, s.run.operation = some (.verification v) ∧ v.results.length < v.order.length ∧
      (s.firing.get v.rail).operationFlight = none
  | .verifyFiringCompletion =>
    ∃ v, s.run.operation = some (.verification v) ∧ (s.firing.get v.rail).operationFlight ≠ none ∧
      (v.results.length + 1 < v.order.length ∨ s.line.inbox = [])
  | .setupSaveComplete _ => s.run.writing ≠ none
  | .frameReceived b =>
    ∃ (h l c : Byte) (whole : List Byte), s.line.receiver = .check h l whole (some c) ∧ crc16 (h :: l :: whole) = c ++ b
  | .frameError b stop =>
    (stop = true ∧ ∃ h : Byte, s.line.receiver = .length (some h) ∧
        (h.toNat * 256 + b.toNat < 4 ∨ 2040 < h.toNat * 256 + b.toNat)) ∨
      (stop = true ∧ ∃ (h l c : Byte) (whole : List Byte), s.line.receiver = .check h l whole (some c) ∧
        crc16 (h :: l :: whole) ≠ c ++ b) ∨
      (stop = false ∧ s.line.receiver ≠ .hunt ∧ s.line.receiver ≠ .sync)
  | .interByteTimeout => s.line.receiver ≠ .hunt ∧ s.line.receiver ≠ .sync
  | .unknownRequest =>
    ∃ f rest, s.line.input = f :: rest ∧ s.line.replies.length < 4 ∧ (f.kind.toNat = 0 ∨ 0x1C < f.kind.toNat)
  | .sendReply => s.line.sending = none ∧ s.line.replies ≠ []
  | .sendBundle => s.line.sending = none ∧ s.line.replies = [] ∧ s.line.bundle.state = .ready
  | .recordOffer => ∃ x, s.line.inbox.head? = some (.offer x)
  | .bundleFlushExpiry => s.line.bundle.state = .open ∧ s.line.bundle.flushEnd ≠ none
  | .changeHandover => ∃ c, s.line.inbox.head? = some (.change c)
  | .statusTimerExpiry => s.line.statusEnd ≠ none ∧ s.line.inbox = []
  | .silenceExpiry => s.line.silenceEnd ≠ none
  | .identify => s.requestFits .identify
  | .readStatus => s.requestFits .readStatus
  | .setReporting _ => s.requestFits .setReporting
  | .setTravel _ => s.requestFits .setTravel
  | .setPosition _ => s.requestFits .setPosition
  | .odoCalBegin => s.requestFits .odoCalBegin
  | .odoCalEnd _ => s.requestFits .odoCalEnd
  | .setChannel _ =>
    s.requestFits .setChannel ∧ ∀ f r ch, s.line.input.head? = some f → f.rail = some r → f.channel = some ch → ¬s.leaves r ch
  | .readChannel => s.requestFits .readChannel
  | .stagePlan _ => s.requestFits .stagePlan
  | .readPlan => s.requestFits .readPlan
  | .setRail _ => s.requestFits .setRail
  | .setLevels _ => s.requestFits .setLevels
  | .snapshot => s.requestFits .snapshot
  | .calChannel _ => s.requestFits .calChannel
  | .addLandmarks _ => s.requestFits .addLandmarks
  | .clearLandmarks _ => s.requestFits .clearLandmarks
  | .readLandmarks => s.requestFits .readLandmarks
  | .setPattern _ => s.requestFits .setPattern
  | .readPattern _ => s.requestFits .readPattern
  | .setSignals _ => s.requestFits .setSignals
  | .runStart => s.requestFits .runStart
  | .runStop => s.requestFits .runStop
  | .flush => s.requestFits .flush
  | .restart => s.requestFits .restart
  | .verify _ => s.requestFits .verify
  | .setupSave => s.requestFits .setupSave
  | .setupReload => s.requestFits .setupReload
  | .lineByteReceived _ _ => True
  | .frameSendEnd => True

/-! ### Operations -/

/-- A time-triggered firing of a channel that starts at this moment (R38). -/
def State.operationFlightAt (s : State) (r : Rail) (ch : Channel) (start : Nat) : OperationFlight :=
  ⟨⟨ch, s.channel r ch⟩, s.travel.carPosition,
    start + (s.channel r ch).listen + (s.setup.rails.get r).recovery * 100⟩

/-- The unit once an operation has ended with this record (R38, R86, R167): the record offered, the firing unit out of its
time-triggered mode with its generators off, no operation in flight, and the run state STOPPED with its change handed on. -/
def State.afterOperation (s : State) (r : Rail) (endTime : Nat) (x : Record) : State :=
  { s with
    now := max s.now endTime
    firing := s.firing.set r
      { s.firing.get r with mode := .off, generators := Vector.replicate 4 none, operationFlight := none }
    run := { s.run with operation := none, state := .stopped }
    line := s.line.hear [.offer x, .change .runState]
    router := s.router.hear [.runState .stopped] }

/-- The CAL_RESULT of a step (R90), with the channel's geometry as it stands after it. -/
def calResultOf (c : CalStep) (x : ChannelRecord) (result : CalResult) (best : Option Hit) (first : Option (Nat × Nat)) : Record :=
  .calResult ⟨c.rail, c.channel, c.gate, c.second, result, c.depth, best, 16, first, x.kd, x.zero, x.ka⟩

/-! ### Coverage set anew -/

/-- An echo processor with every channel's coverage set anew from a plan (R73). -/
def EchoProcessor.anew (e : EchoProcessor) (p : Plan) : EchoProcessor :=
  { e with
    cover := Vector.ofFn (fun ch => ⟨if p.has ch then .unknown else .inactive, 0, 0, none, none, none, none⟩) }

/-- The changes of coupling state that setting the coverage anew hands on, in ascending channel number (R62). -/
def anewChanges (e : EchoProcessor) (p : Plan) : List Channel :=
  (List.finRange 12).filter (fun ch => e.cover[ch].coupling != (if p.has ch then .unknown else .inactive))

def anewItems (r : Rail) (e : EchoProcessor) (p : Plan) : List LineItem :=
  (anewChanges e p).map (fun ch => .change (.coupling r ch))

def anewLevels (r : Rail) (e : EchoProcessor) (p : Plan) : List LevelHandover :=
  (anewChanges e p).map (fun ch => .coupling r ch (if p.has ch then .unknown else .inactive))

/-! ### The host line -/

/-- A valid frame accepted (R175): the receiver hunts, silence ends, its timer starts again, and the frame joins the input
buffer or is an overrun. -/
def State.accepting (s : State) (body : List Byte) : State :=
  { s with
    line :=
      { s.line.hear (onChange s.line.silence false (.change .silence)) with
        receiver := .hunt
        silence := false
        silenceEnd :=
          if s.setup.reporting.silenceLimit = 0 then none else some (s.now + s.setup.reporting.silenceLimit * 100000000)
        input := s.line.input ++ if s.line.input.length < 4 then [⟨body⟩] else []
        overruns := if s.line.input.length < 4 then s.line.overruns else raiseCounter s.line.overruns }
    router := s.router.hear (onChange s.line.silence false (.silence false)) }

/-- A frame discarded (R174). -/
def State.discarding (s : State) : State :=
  { s with line := { s.line with receiver := .hunt, frameErrors := raiseCounter s.line.frameErrors } }

/-- The body a bundle of these records has (R179, section 11.6): the 4-byte head and the records. -/
def bodyLength (rs : List Record) : Nat := 4 + (rs.map Record.length).sum

/-- The bundle that an EMPTY bundle becomes over a queue (R179): the longest run of records from the queue's head that fits
the cap, at least one; OPEN with its flush timer started when that is all of the queue and fits, and READY otherwise. -/
def isFilled (cap flushEnd : Nat) (queue : List Record) (b : Bundle) : Prop :=
  (queue = [] ∧ b = ⟨.empty, 0, none⟩) ∨
    (queue ≠ [] ∧ bodyLength queue ≤ cap ∧ b = ⟨.open, queue.length, some flushEnd⟩) ∨
    (cap < bodyLength queue ∧ b.state = .ready ∧ b.flushEnd = none ∧ 1 ≤ b.held ∧ b.held ≤ queue.length ∧
      (b.held = 1 ∨ bodyLength (queue.take b.held) ≤ cap) ∧
      (b.held < queue.length → cap < bodyLength (queue.take (b.held + 1))))

/-- The bundle once this record has been appended behind `before` (R179). -/
def isJoined (cap flushEnd : Nat) (before : List Record) (r : Record) (old new : Bundle) : Prop :=
  (old.state = .empty → isFilled cap flushEnd (before ++ [r]) new) ∧ (old.state = .ready → new = old) ∧
    (old.state = .open →
      new = if bodyLength (before ++ [r]) ≤ cap then { old with held := old.held + 1 }
        else { old with state := .ready, flushEnd := none })

/-! ### The settings' laws: every setting lies within its range -/

/-- Section 1.4. -/
def TravelSettings.lawful (t : TravelSettings) : Prop :=
  1 ≤ t.scale ∧ t.scale ≤ 16777215 ∧ 10 ≤ t.pitch ∧ t.pitch ≤ 200 ∧ 50 ≤ t.standstill ∧ t.standstill ≤ 5000

/-- The table of R19. -/
def FlawGate.lawful (g : FlawGate) : Prop :=
  g.start ≤ 8191 ∧ 1 ≤ g.width ∧ g.width ≤ 8192 ∧ g.level ≤ 4095 ∧ g.positionTolerance ≤ 10000 ∧
    g.depthTolerance ≤ 2500 ∧ 1 ≤ g.minimumHits ∧ g.minimumHits ≤ 255

/-- The curve (R46). -/
def curveLawful (curve : List CurvePoint) : Prop :=
  curve.length ≤ 8 ∧ (∀ p ∈ curve, p.time ≤ 8191 ∧ p.level ≤ 4095) ∧ ascending curve = true

/-- The geometry fields of R19. -/
def ChannelRecord.geometryLawful (x : ChannelRecord) : Prop :=
  256 ≤ x.listen ∧ x.listen ≤ 8192 ∧ -60000 ≤ x.offset ∧ x.offset ≤ 60000 ∧ 1 ≤ x.kd ∧ x.kd ≤ 65535 ∧
    -262143 ≤ x.angle ∧ x.angle ≤ 262143 ∧ -512 ≤ x.zero ∧ x.zero ≤ 1023

/-- The table of R19. -/
def ChannelRecord.lawful (x : ChannelRecord) : Prop :=
  x.geometryLawful ∧ x.interfaceStart ≤ 8191 ∧ 1 ≤ x.interfaceWidth ∧ x.interfaceWidth ≤ 8192 ∧
    x.interfaceLevel ≤ 4095 ∧ x.couplingLevel ≤ 4095 ∧ 1 ≤ x.failThreshold ∧ x.failThreshold ≤ 255 ∧
    1 ≤ x.regainThreshold ∧ x.regainThreshold ≤ 255 ∧ 10 ≤ x.spacing ∧ x.spacing ≤ 100000 ∧
    10 ≤ x.closeDistance ∧ x.closeDistance ≤ 100000 ∧ curveLawful x.curve ∧
    ∀ (g : Gate) (y : FlawGate), x.gates[g] = some y → y.lawful

/-- Section 2.3. -/
def RailSettings.lawful (x : RailSettings) : Prop :=
  2 ≤ x.recovery ∧ x.recovery ≤ 100 ∧ x.join ≤ 10000 ∧ 100 ≤ x.settle ∧ x.settle ≤ 200000 ∧
    1000 ≤ x.gunOffset ∧ x.gunOffset ≤ 200000 ∧ x.merge ≤ 10000 ∧ 10 ≤ x.spray ∧ x.spray ≤ 500

/-- A plan of at most sixteen groups, each of one to four channels on distinct lanes (R20, R27, R28). -/
def planLawful (lane : Channel → Lane) (p : Plan) : Prop :=
  p.length ≤ 16 ∧ ∀ g ∈ p, 1 ≤ g.length ∧ g.length ≤ 4 ∧ (g.map lane).Nodup

/-- The window of a landmark condition (R136). -/
def LandmarkCondition.lawful : LandmarkCondition → Prop
  | .unconditional => True
  | .near _ w => w ≤ 10000
  | .notNear _ w => w ≤ 10000

/-- The table of R136. -/
def Pattern.lawful (p : Pattern) : Prop :=
  p.considered.toNat < 4096 ∧ p.required &&& p.considered = p.required ∧ p.depthMin ≤ p.depthMax ∧ p.depthMax ≤ 2500 ∧
    p.condition.lawful ∧ 1 ≤ p.cls ∧ p.cls ≤ 63

/-- Section 9.6. -/
def SignalSettings.lawful (x : SignalSettings) : Prop :=
  x.speedLimit ≤ 2000 ∧ ∀ l : SignalLine, 1 ≤ x.routes[l].stretch ∧ x.routes[l].stretch ≤ 1000

/-- Section 11.5. -/
def ReportingSettings.lawful (x : ReportingSettings) : Prop :=
  1 ≤ x.highWater ∧ x.highWater ≤ 256 ∧ 128 ≤ x.cap ∧ x.cap ≤ 2040 ∧ 1 ≤ x.flushDelay ∧ x.flushDelay ≤ 50 ∧
    (x.statusInterval = 0 ∨ 100 ≤ x.statusInterval ∧ x.statusInterval ≤ 10000) ∧
    x.hitStream.left.toNat < 4096 ∧ x.hitStream.right.toNat < 4096 ∧ x.silenceLimit ≤ 60

/-- The lane of each channel of a rail under a setup. -/
def Setup.lanes (u : Setup) (r : Rail) : Channel → Lane := fun ch => ((u.channels.get r)[ch]).lane

/-- Every setting of a setup within its range. -/
def Setup.lawful (u : Setup) : Prop :=
  u.travel.lawful ∧ (∀ r, (u.rails.get r).lawful) ∧ (∀ r (ch : Channel), ((u.channels.get r)[ch]).lawful) ∧
    (∀ r, planLawful (u.lanes r) (u.plans.get r)) ∧ (∀ (i : Fin 16) p, u.patterns[i] = some p → p.lawful) ∧
    u.signals.lawful ∧ u.reporting.lawful

/-- The settings in force, the stored image, the image being written and the staged plans are lawful. -/
def State.settingsLawful (s : State) : Prop :=
  s.setup.lawful ∧ (∀ u, s.run.image = some u → u.lawful) ∧ (∀ u, s.run.writing = some u → u.lawful) ∧
    ∀ r p, (s.firing.get r).staged = some p → planLawful (s.setup.lanes r) p

/-! ### The blocks' laws -/

/-- The travel unit (table at the head of chapter 1, R2, R3, R7): the accumulator within its limits, the frontier at or
above the car position and below the next boundary, and the standstill measure never started in the future. -/
def Travel.lawful (t : Travel) (now : Nat) : Prop :=
  Config.accumulatorMin ≤ t.accumulator ∧ t.accumulator ≤ Config.accumulatorMax ∧ t.carPosition ≤ t.frontier ∧
    t.frontier ≤ Config.positionMax ∧ t.frontier < t.boundary ∧ t.boundary ≤ Config.positionMax + 200 ∧
    t.speed ≤ 65535 ∧ Config.positionMin ≤ t.speedReference ∧ t.speedReference ≤ Config.positionMax ∧
    Config.calCountMin ≤ t.calCount ∧ t.calCount ≤ Config.calCountMax ∧ (t.lastCount = none → t.motion = .standstill) ∧
    ∀ m, t.lastCount = some m → m ≤ now

/-- The travel unit's law, with the settings it rests on; both marking units hold its motion (R9). -/
def State.travelLawful (s : State) : Prop :=
  s.settingsLawful ∧ s.travel.lawful s.now ∧ ∀ r, (s.marking.get r).motion = s.travel.motion

/-- A mark queue (R146, R147): at most sixteen marks in strictly ascending order of target. -/
def MarkingUnit.lawful (m : MarkingUnit) : Prop :=
  m.queue.length ≤ 16 ∧ (m.queue.map Mark.target).Pairwise (· < ·) ∧ ∀ k ∈ m.queue, k.merged ≤ 255

/-- The landmark list (R114). -/
def LandmarkList.lawful (l : LandmarkList) : Prop :=
  l.entries.length ≤ 64 ∧ l.entries.Pairwise (fun a b => a.start ≤ b.start) ∧
    l.entries.Pairwise (fun a b => ¬(a.start = b.start ∧ a.kind = b.kind ∧ a.rails = b.rails)) ∧
    l.retention ≤ 500000 ∧ ∀ e ∈ l.entries, e.length ≤ 1000000

/-- The bundle against the report queue (R179): EMPTY with an empty queue alone, OPEN with all of the queue, READY with some
of it; the flush timer runs exactly while it is OPEN. -/
def Bundle.lawful (b : Bundle) (queue : List Record) : Prop :=
  match b.state with
  | .empty => b.held = 0 ∧ queue = [] ∧ b.flushEnd = none
  | .open => 1 ≤ b.held ∧ b.held = queue.length ∧ b.flushEnd.isSome = true
  | .ready => 1 ≤ b.held ∧ b.held ≤ queue.length ∧ b.flushEnd = none

/-- The receiver's bytes gathered against the length it was told (R174). -/
def Receiver.lawful : Receiver → Prop
  | .hunt => True
  | .sync => True
  | .length _ => True
  | .body h l got => lengthInRange (word2 h l) = true ∧ got.length < word2 h l
  | .check h l whole _ => lengthInRange (word2 h l) = true ∧ whole.length = word2 h l

/-- The line interface (table at the head of chapter 11, R173 to R179). -/
def Line.lawful (l : Line) : Prop :=
  l.receiver.lawful ∧ l.input.length ≤ 4 ∧ (∀ f ∈ l.input, lengthInRange f.body.length = true) ∧ l.replies.length ≤ 4 ∧
    l.queue.length ≤ 256 ∧ l.bundle.lawful l.queue ∧ l.frameErrors ≤ 65535 ∧ l.overruns ≤ 65535 ∧ l.dropped ≤ 65535 ∧
    l.lost ≤ 65535 ∧ (l.loss = true ↔ 0 < l.lost)

/-- The line interface's law, with the settings it rests on (the threshold of a LOW record is at most 256). -/
def State.lineLawful (s : State) : Prop := s.settingsLawful ∧ s.line.lawful

/-- A reply's body is a frame's: from 4 to 2040 bytes long (R173). -/
def Reply.fitsABody (p : Reply) : Prop := 4 ≤ (Outgoing.reply p).body.length ∧ (Outgoing.reply p).body.length ≤ 2040

/-- Every reply that waits or is being sent fits in one body, with the settings and the landmark list it shows (R46, R27, R114). -/
def State.repliesLawful (s : State) : Prop :=
  s.settingsLawful ∧ s.landmarks.lawful ∧ (∀ p ∈ s.line.replies, p.fitsABody) ∧
    ∀ p, s.line.sending = some (.reply p) → p.fitsABody

/-- The run controller (table at the head of chapter 10, R158, R169): WRITING exists in STOPPED alone and holds no valid
image; a calibration step is in flight exactly in CALIBRATING, a verification exactly in VERIFYING. -/
def RunControl.lawful (c : RunControl) : Prop :=
  (c.writing.isSome = true → c.state = .stopped ∧ c.image = none) ∧
    (c.state = .calibrating ↔ ∃ k, c.operation = some (.calibration k)) ∧
    (c.state = .verifying ↔ ∃ v, c.operation = some (.verification v)) ∧ c.suppressed ≤ 65535

/-- A span that a trace, an indication or a finding covers, with its depths. -/
def spanLawful (a b : Int) (c d : Nat) : Prop := a ≤ b ∧ c ≤ d

/-- A trace (R94): its last position and depth within its ranges, 1 to 65,535 hits. -/
def Trace.lawful (t : Trace) : Prop :=
  t.minPr ≤ t.lastPr ∧ t.lastPr ≤ t.maxPr ∧ t.minD ≤ t.lastD ∧ t.lastD ≤ t.maxD ∧ 1 ≤ t.hits ∧ t.hits ≤ 65535

/-- An indication or a contribution (R105, R126). -/
def Contribution.lawful (c : Contribution) : Prop :=
  spanLawful c.minPr c.maxPr c.minD c.maxD ∧ 1 ≤ c.hits ∧ c.hits ≤ 65535

/-- A finding (R125): 1 to 16 contributions, no two of one channel and gate. -/
def Finding.lawful (f : Finding) : Prop :=
  spanLawful f.start f.finish f.depthMin f.depthMax ∧ 1 ≤ f.contributions.length ∧ f.contributions.length ≤ 16 ∧
    f.contributions.Pairwise (fun a b => ¬(a.channel = b.channel ∧ a.gate = b.gate)) ∧ ∀ c ∈ f.contributions, c.lawful

/-- A tracker and a finding assembler of one rail with what waits between them (R94, R111, R125, R139). -/
def reflectorsLawful (t : Tracker) (a : Assembler) : Prop :=
  (∀ (i : Fin 32) x, t.slots[i] = some x → x.lawful) ∧ t.overflow ≤ 65535 ∧ t.noise ≤ 65535 ∧
    (∀ (i : Fin 16) f, a.slots[i] = some f → f.lawful) ∧ a.number ≤ 65535 ∧
    ∀ c, AssemblerItem.indication c ∈ a.inbox → c.lawful

/-- A channel's coverage (R61, R66): counts within their range with one of them 0, a first-fail position exactly in a run of
fails, and an open stretch only where a firing has been processed and with at least one cause. -/
def Cover.lawful (c : Cover) : Prop :=
  c.failCount ≤ 255 ∧ c.passCount ≤ 255 ∧ (c.failCount = 0 ∨ c.passCount = 0) ∧
    (c.firstFail.isSome = true ↔ 0 < c.failCount) ∧
    ∀ x, c.stretch = some x →
      c.lastProbe.isSome = true ∧ (x.causes.coupling = true ∨ x.causes.blanked = true ∨ x.causes.spacing = true)

/-- The coverage of every channel of both rails. -/
def State.coverageLawful (s : State) : Prop := ∀ r (ch : Channel), ((s.echo.get r).cover[ch]).lawful

/-- The marking units, the landmark list, the line interface, and the reflectors of both rails. -/
def State.marksLawful (s : State) : Prop := ∀ r, (s.marking.get r).lawful
def State.reflectorsLawful (s : State) : Prop := ∀ r, Machine.reflectorsLawful (s.tracker.get r) (s.assembler.get r)

/-- Two OPEN findings of a rail lie further apart than the join tolerance (R125). -/
def findingsApart (a : Assembler) (join : Nat) : Prop :=
  ∀ (i j : Fin 16) (f g : Finding), i ≠ j → a.slots[i] = some f → a.slots[j] = some g →
    f.finish + join < g.start ∨ g.finish + join < f.start

/-- The inputs end with the drain notice, which stands nowhere before. -/
def endsWith {α : Type} (x : α) (inbox : List α) : Prop := ∃ before, inbox = before ++ [x] ∧ x ∉ before

/-- How far the drain notice of a rail has come along the data path (R37, R72, R108, R135, R161). -/
inductive DrainAt where
  | firing | echo | tracker | assembler | controller | drained
  deriving DecidableEq, Repr

/-- The data path of a rail while its drain notice stands there: nothing is left behind it, and none stands further on. -/
def State.drainsAt (s : State) (r : Rail) (p : DrainAt) : Prop :=
  (s.firing.get r).held = none ∧ ((s.firing.get r).flight = none ↔ p ≠ .firing) ∧
    (match p with
      | .firing => EchoItem.drain ∉ (s.echo.get r).inbox
      | .echo => endsWith .drain (s.echo.get r).inbox
      | _ => (s.echo.get r).inbox = []) ∧
    (match p with
      | .firing => TrackerItem.drain ∉ (s.tracker.get r).inbox
      | .echo => TrackerItem.drain ∉ (s.tracker.get r).inbox
      | .tracker => endsWith .drain (s.tracker.get r).inbox
      | _ => (s.tracker.get r).inbox = [] ∧ ∀ i : Fin 32, (s.tracker.get r).slots[i] = none) ∧
    (match p with
      | .firing => AssemblerItem.drain ∉ (s.assembler.get r).inbox
      | .echo => AssemblerItem.drain ∉ (s.assembler.get r).inbox
      | .tracker => AssemblerItem.drain ∉ (s.assembler.get r).inbox
      | .assembler => endsWith .drain (s.assembler.get r).inbox
      | _ => (s.assembler.get r).inbox = [] ∧ ∀ i : Fin 16, (s.assembler.get r).slots[i] = none) ∧
    s.run.drainNotices.get r = decide (p = .controller) ∧ (s.run.state = .draining → s.run.drained.get r = decide (p = .drained))

/-- A rail's data path against the run state (R158 to R161): in RUNNING no drain notice stands on it, in DRAINING it stands at one
place, and in every other run state nothing of a run is left on the path. -/
def State.drainLawful (s : State) (r : Rail) : Prop :=
  match s.run.state with
  | .running =>
    EchoItem.drain ∉ (s.echo.get r).inbox ∧ TrackerItem.drain ∉ (s.tracker.get r).inbox ∧
      AssemblerItem.drain ∉ (s.assembler.get r).inbox ∧ s.run.drainNotices.get r = false
  | .draining => ∃ p, s.drainsAt r p
  | _ => s.drainsAt r .drained

/-- The findings of both rails lie apart (R125). The join tolerance changes in STOPPED alone (R25), where no finding is OPEN. -/
def State.findingsLawful (s : State) : Prop :=
  s.run.lawful ∧ s.reflectorsLawful ∧ (∀ r, s.drainLawful r) ∧
    ∀ r, findingsApart (s.assembler.get r) (s.setup.rails.get r).join

/-- A property that every step keeps. -/
def keptByEveryStep (P : State → Prop) : Prop := ∀ s t, P s → step s = .next t → P t

end Sys2Proof.Machine
end

