-- ==== Sys2Proof/Certificates/Slice0/Obligations.lean ====
section
/-! DEFINITION. The statements for the provers, from the rules of spec/ in the order of its chapters. -/

section

open Sys2Proof Sys2Proof.Machine

/-! ### Every command -/

/-- A step takes the command at the front of the queue and runs it on the state with the queue's rest. With no command
waiting one tick of the model's clock passes: the model's choice, log 3. -/
def Obligations.StepRunsTheHeadCommand : Prop :=
  (∀ (c : Instr) (rest : List Instr) (s : State), step { s with pending := c :: rest } = exec c { s with pending := rest }) ∧
  (∀ s : State, s.pending = [] → step s = .next { s with now := s.now + 1 })

/-- No command faults and none is refused. -/
def Obligations.EveryCommandAnswersANextState : Prop := ∀ (c : Instr) (s : State), ∃ t, exec c s = .next t

/-- The frame of every command: it touches no part of the state but those its rules name, and never the queue. A step that closes
findings touches the landmark list too, by what waits between its queries (log 38). Choices of the model that it rests on:
logs 2, 38. -/
def Obligations.ACommandTouchesOnlyItsParts : Prop :=
  ∀ (c : Instr) (s t : State), exec c s = .next t → TouchesOnly (commandParts c) s t

/-- A command with nothing to take leaves the unit as it is: the model's choice, log 1. -/
def Obligations.ACommandWithNothingToTakeChangesNothing : Prop :=
  ∀ (c : Instr) (s : State), ¬ s.awaits c → exec c s = .next s

/-- The state right after reset, block by block: every setting at its default, every register, queue, table, timer and
counter at its power-on value. That the store holds no valid image is the model's choice (log 6), as is the clock (log 3).
Choices of the model that it rests on: logs 3, 6, 21, 22, 29, 44. -/
def Obligations.ResetHoldsThePowerOnValues : Prop :=
  State.reset.pending = [] ∧ State.reset.between = [] ∧ State.reset.now = 0 ∧ State.reset.setup = Setup.defaults ∧
    State.reset.setup.travel = ⟨.normal, 224460, 30, 500⟩ ∧
    (∀ r, State.reset.setup.rails.get r = ⟨10, 100, 20000, .report, true, 40000, 200, 60⟩) ∧
    (∀ r (ch : Channel), (State.reset.channel r ch).lawful ∧ ∃ lane : Lane, lane.val = ch.val % 4 ∧
      State.reset.channel r ch =
        { lane := lane, listen := 1024, offset := 0, kd := 19399, angle := 0, zero := 0, interfaceStart := 0, interfaceWidth := 256
          interfaceLevel := 400, couplingLevel := 800, failThreshold := 4, regainThreshold := 2, uncoupledMode := .hold
          spacing := 100, honour := false, closeDistance := 500, curve := []
          gates := #v[some ⟨.peak, 16, 512, 1000, false, 30, 30, 3⟩, none, none] }) ∧
    (∀ r, State.reset.setup.plans.get r = []) ∧ (∀ i : Fin 16, State.reset.setup.patterns[i] = none) ∧
    (∀ l : SignalLine, State.reset.setup.signals.routes[l] = ⟨.off, false, 100⟩) ∧
    State.reset.setup.signals.speedLimit = 800 ∧ State.reset.setup.reporting = ⟨192, 1024, 5, 1000, false, ⟨0, 0⟩, 0⟩ ∧
    State.reset.travel = ⟨0, 0, 30, .standstill, none, 0, 0, 10000000, false, 0⟩ ∧
    (∀ r, State.reset.firing.get r = ⟨none, 0, none, none, 0, .off, #v[none, none, none, none], none, []⟩ ∧
      (∀ ch : Channel, (State.reset.echo.get r).cover[ch] = ⟨.inactive, 0, 0, none, none, none, none⟩) ∧
      (State.reset.echo.get r).snapshot = .idle ∧ (State.reset.echo.get r).inbox = [] ∧
      (∀ i : Fin 32, (State.reset.tracker.get r).slots[i] = none) ∧ (State.reset.tracker.get r).overflow = 0 ∧
      (State.reset.tracker.get r).noise = 0 ∧ (State.reset.tracker.get r).inbox = [] ∧
      (∀ i : Fin 16, (State.reset.assembler.get r).slots[i] = none) ∧ (State.reset.assembler.get r).number = 0 ∧
      (State.reset.assembler.get r).inbox = [] ∧ State.reset.marking.get r = ⟨-40000, .standstill, [], none, [], []⟩) ∧
    State.reset.landmarks = ⟨[], 30000, []⟩ ∧
    (∀ r (ch : Channel), (State.reset.router.view.coupling.get r)[ch] = .inactive) ∧
    State.reset.router.view.spraying = ⟨false, false⟩ ∧ State.reset.router.view.speed = 0 ∧
    State.reset.router.view.silence = false ∧ State.reset.router.view.runState = .stopped ∧
    (∀ l : SignalLine, State.reset.router.stretchEnd[l] = none) ∧ State.reset.router.pulses = [] ∧
    State.reset.router.levels = [] ∧
    State.reset.run = ⟨.stopped, ⟨false, false⟩, none, 0, none, none, none, .default, 0, ⟨false, false⟩⟩ ∧
    State.reset.line =
      { receiver := .hunt, input := [], replies := [], sending := none, queue := [], bundle := ⟨.empty, 0, none⟩, tag := 0
        changes := ⟨false, false, false, false, ⟨0, 0⟩⟩, statusEnd := some 100000000, silenceEnd := none, silence := false
        frameErrors := 0, overruns := 0, dropped := 0, lost := 0, loss := false, inbox := [] }

/-- POWER_ON and the reset input act the same: the setup comes from the store's valid image or the defaults, and every
block takes its power-on value from that setup. The clock, the queue of commands and what waits between proximity queries go on
(log 19). That a frame in progress on the
outgoing line is dropped is the model's choice (log 44). Choices of the model that it rests on: logs 6, 9, 19, 21, 22, 29, 44. -/
def Obligations.PowerOnLoadsTheSetupAndClearsEveryBlock : Prop :=
  ∀ s : State, ∃ t, exec .powerOn s = .next t ∧ exec .resetInput s = .next t ∧
    t.pending = s.pending ∧ t.between = s.between ∧ t.now = s.now ∧ t.setup = s.run.image.getD Setup.defaults ∧
    t.travel = ⟨0, 0, t.setup.travel.pitch, .standstill, none, 0, 0, s.now + 10000000, false, 0⟩ ∧
    (∀ r, t.firing.get r = ⟨none, 0, none, none, 0, .off, Vector.replicate 4 none, none, []⟩ ∧
      t.echo.get r =
        ⟨Vector.ofFn (fun ch => ⟨if t.inPlan r ch then .unknown else .inactive, 0, 0, none, none, none, none⟩), .idle, []⟩ ∧
      t.tracker.get r = ⟨Vector.replicate 32 none, 0, 0, []⟩ ∧ t.assembler.get r = ⟨Vector.replicate 16 none, 0, []⟩ ∧
      t.marking.get r = ⟨-((t.setup.rails.get r).gunOffset : Int), .standstill, [], none, [], []⟩ ∧
      ∀ ch : Channel, (t.router.view.coupling.get r)[ch] = if t.inPlan r ch then .unknown else .inactive) ∧
    t.landmarks = ⟨[], 30000, []⟩ ∧
    t.router.view.spraying = ⟨false, false⟩ ∧ t.router.view.speed = 0 ∧ t.router.view.silence = false ∧
    t.router.view.runState = .stopped ∧ (∀ l : SignalLine, t.router.stretchEnd[l] = none) ∧ t.router.pulses = [] ∧
    t.router.levels = [] ∧
    t.run =
      ⟨.stopped, ⟨false, false⟩, none, 0, none, s.run.image, none, if s.run.image.isSome then .stored else .default, 0,
        ⟨false, false⟩⟩ ∧
    t.line =
      { receiver := .hunt, input := [], replies := [], sending := none, queue := [], bundle := ⟨.empty, 0, none⟩, tag := 0
        changes := ⟨false, false, false, false, ⟨0, 0⟩⟩
        statusEnd :=
          if t.setup.reporting.statusInterval = 0 then none else some (s.now + t.setup.reporting.statusInterval * 100000)
        silenceEnd :=
          if t.setup.reporting.silenceLimit = 0 then none else some (s.now + t.setup.reporting.silenceLimit * 100000000)
        silence := false, frameErrors := 0, overruns := 0, dropped := 0, lost := 0, loss := false, inbox := [] }

/-! ### The travel unit -/

/-- The sign of a count: phase 1 leads where it rises while phase 2 is low or falls while phase 2 is high; SWAPPED
exchanges the signs; a transition of both phases together is no count and changes nothing. Choices of the model that it
rests on: log 25. -/
def Obligations.TheSignOfACount : Prop :=
  countSign .normal (.phase1 true false) = some 1 ∧ countSign .normal (.phase1 false true) = some 1 ∧
    countSign .normal (.phase2 true true) = some 1 ∧ countSign .normal (.phase2 false false) = some 1 ∧
    countSign .normal (.phase1 true true) = some (-1) ∧ countSign .normal (.phase1 false false) = some (-1) ∧
    countSign .normal (.phase2 true false) = some (-1) ∧ countSign .normal (.phase2 false true) = some (-1) ∧
    (∀ e, countSign .swapped e = (countSign .normal e).map (fun v => -v)) ∧
    ∀ s, exec (.encoderCount .bothTogether) s = .next s

/-- One count: the accumulator moves by the scale and saturates, the frontier follows the car position upward, motion
follows the sign, the calibration count follows it while open, and every boundary reached is handed to both firing units
in ascending order, the next boundary then lying above the car position. A change of car position goes to both marking
units, a raised frontier to the landmark list, a change of motion to both marking units, which hold it at once (log 29),
and to the line interface. Nothing else changes. Choices of the model that it rests on: logs 2, 14, 29. -/
def Obligations.ACountMovesTheTravelUnit : Prop :=
  ∀ (e : Edge) (s : State) (sign : Int), countSign s.setup.travel.sense e = some sign → 1 ≤ s.setup.travel.pitch →
    ∃ (n : Nat) (acc car : Int) (m : Motion) (events : List Int),
      acc = max (-140737488355328) (min 140737488355327 (s.travel.accumulator + sign * s.setup.travel.scale)) ∧
      car = acc / 65536 ∧ m = (if 0 < sign then .forward else .reverse) ∧
      events = (List.range n).map (fun k => s.travel.boundary + ((k * s.setup.travel.pitch : Nat) : Int)) ∧
      (∀ b ∈ events, b ≤ car) ∧ car < s.travel.boundary + ((n * s.setup.travel.pitch : Nat) : Int) ∧
      exec (.encoderCount e) s = .next
        { s with
          travel :=
            { s.travel with
              accumulator := acc
              frontier := max s.travel.frontier car
              boundary := s.travel.boundary + ((n * s.setup.travel.pitch : Nat) : Int)
              motion := m
              lastCount := some s.now
              calCount :=
                if s.travel.calOpen then max (-2147483648) (min 2147483647 (s.travel.calCount + sign)) else s.travel.calCount }
          marking :=
            ⟨{ (s.markingAt m).left with moves := s.marking.left.moves ++ onChange s.travel.carPosition car ⟨car, m⟩ },
              { (s.markingAt m).right with moves := s.marking.right.moves ++ onChange s.travel.carPosition car ⟨car, m⟩ }⟩
          firing :=
            ⟨{ s.firing.left with pitchEvents := s.firing.left.pitchEvents ++ events },
              { s.firing.right with pitchEvents := s.firing.right.pitchEvents ++ events }⟩
          landmarks :=
            { s.landmarks with
              frontiers := s.landmarks.frontiers ++ if s.travel.frontier < car then [car] else [] }
          line := s.line.hear (onChange s.travel.motion m (.change .motion)) }

/-- Motion becomes STANDSTILL when the time since the last count reaches the standstill time, and the change goes to both
marking units and to the line interface; before the first count, and in STANDSTILL, there is nothing to expire. At a
window end the speed becomes round(|ΔP| × 36 / 1000), held at 65,535, the speed reference becomes the car position, the
next window follows without a gap, and the speed goes to the signal router. Choices of the model that it rests on: logs 3,
29. -/
def Obligations.TheTimesOfTheTravelUnit : Prop :=
  (∀ s : State,
      (∀ m, s.travel.lastCount = some m → s.travel.motion ≠ .standstill →
        exec .standstillExpiry s = .next
          { s with
            now := max s.now (m + s.setup.travel.standstill * 100000)
            travel := { s.travel with motion := .standstill }
            marking := ⟨{ s.marking.left with motion := .standstill }, { s.marking.right with motion := .standstill }⟩
            line := s.line.hear [.change .motion] }) ∧
      (s.travel.lastCount = none ∨ s.travel.motion = .standstill → exec .standstillExpiry s = .next s)) ∧
  (∀ s : State, ∃ v n : Nat,
      v = min 65535 n ∧ 1000 * n ≤ 36 * (s.travel.carPosition - s.travel.speedReference).natAbs + 500 ∧
      36 * (s.travel.carPosition - s.travel.speedReference).natAbs + 500 < 1000 * n + 1000 ∧
      exec .speedWindowEnd s = .next
        { s with
          now := max s.now s.travel.windowEnd
          travel :=
            { s.travel with
              speed := v, speedReference := s.travel.carPosition, windowEnd := s.travel.windowEnd + 10000000 }
          router := s.router.hear [.speed v] })

/-- A SET_TRAVEL that passes its checks: the four settings as clamped, the reply OK or CLAMPED with the settings in force,
and motion STANDSTILL at once where the running measure already exceeds the new standstill time, handed on as every change
of motion is. A SET_TRAVEL that fails a check changes nothing and its reply carries the settings in force: RANGE for its
sense, then BUSY, then STATE for a changed sense or pitch outside STOPPED. The sense by its number: NORMAL, SWAPPED, and
none above. Choices of the model that it rests on: logs 4, 21, 29. -/
def Obligations.SetTravelIsTakenOrRefused : Prop :=
  (∀ (s : State) (q : TravelFields) (f : Frame) (rest : List Frame) (sense : DirectionSense) (new : TravelSettings) (m : Motion),
      requestWaits s .setTravel 11 f rest → senseOf q.sense = some sense → s.run.writing = none →
      new = ⟨sense, (max 1 (min 16777215 q.scale)).toNat, (max 10 (min 200 q.pitch)).toNat, (max 50 (min 5000 q.standstill)).toNat⟩ →
      (s.run.state = .stopped ∨ new.sense = s.setup.travel.sense ∧ new.pitch = s.setup.travel.pitch) →
      m = (if s.travel.lastCount.any (fun k => decide (new.standstill * 100000 < s.now - k)) then .standstill else s.travel.motion) →
      exec (.setTravel q) s = .next
        { s with
          setup := { s.setup with travel := new }
          travel := { s.travel with motion := m }
          marking := s.markingAt m
          line := answeredLine (s.line.hear (onChange s.travel.motion m (.change .motion))) f rest
            (if 1 ≤ q.scale ∧ q.scale ≤ 16777215 ∧ 10 ≤ q.pitch ∧ q.pitch ≤ 200 ∧ 50 ≤ q.standstill ∧ q.standstill ≤ 5000 then .ok
              else .clamped) 0 (.travel new) }) ∧
  (∀ (s : State) (q : TravelFields) (f : Frame) (rest : List Frame), requestWaits s .setTravel 11 f rest →
      (senseOf q.sense = none → answersOnly (.setTravel q) s f rest .range 0 (.travel s.setup.travel)) ∧
      (senseOf q.sense ≠ none → s.run.writing ≠ none →
        answersOnly (.setTravel q) s f rest .busy 0 (.travel s.setup.travel)) ∧
      (senseOf q.sense ≠ none → s.run.writing = none → s.run.state ≠ .stopped →
        (senseOf q.sense ≠ some s.setup.travel.sense ∨ (max 10 (min 200 q.pitch)).toNat ≠ s.setup.travel.pitch) →
        answersOnly (.setTravel q) s f rest .state 0 (.travel s.setup.travel))) ∧
  (senseOf 0 = some .normal ∧ senseOf 1 = some .swapped ∧ ∀ n, 2 ≤ n → senseOf n = none)

/-- SET_POSITION in STOPPED: accumulator, frontier, boundary and speed reference follow P, every queued mark of both rails
is discarded with its record, both guns stand at P less their offsets, and the list retires what P has passed. In any
other run state it is answered STATE. That waiting pitch events and car position changes are overwritten, and that waiting
retirement checks come first, are the model's choices (log 16). Choices of the model that it rests on: logs 4, 14, 16, 28.
-/
def Obligations.SetPositionSetsTheFrame : Prop :=
  ∀ (s : State) (p : Word32) (f : Frame) (rest : List Frame), requestWaits s .setPosition 4 f rest →
    (s.run.state = .stopped →
      exec (.setPosition p) s = .next
        { s with
          travel :=
            { s.travel with
              accumulator := p.toInt * 65536, frontier := p.toInt, boundary := p.toInt + s.setup.travel.pitch,
              speedReference := p.toInt }
          firing := ⟨{ s.firing.left with pitchEvents := [] }, { s.firing.right with pitchEvents := [] }⟩
          marking :=
            ⟨{ s.marking.left with queue := [], gun := p.toInt - s.setup.rails.left.gunOffset, moves := [] },
              { s.marking.right with queue := [], gun := p.toInt - s.setup.rails.right.gunOffset, moves := [] }⟩
          landmarks :=
            { s.landmarks with
              entries := s.landmarks.entries.filter (fun e =>
                (s.landmarks.frontiers ++ [p.toInt]).all (fun x => decide (x ≤ e.start + e.length + s.landmarks.retention)))
              frontiers := [] }
          line := answeredLine
            (s.line.hear (discardedItems .left s.marking.left.queue ++ discardedItems .right s.marking.right.queue)) f rest
            .ok 0 .headOnly }) ∧
    (s.run.state ≠ .stopped → answersOnly (.setPosition p) s f rest .state 0 .headOnly)

/-- ODO_CAL_BEGIN opens a calibration with its count zero in every state. ODO_CAL_END in the order of its table: ORDER
with none open, BUSY, ORDER for a short count, RANGE for a scale outside its range (the calibration closes), and otherwise
the new scale, D × 65536 / N with a half rounded up. Choices of the model that it rests on: logs 4, 28. -/
def Obligations.TheOdometerCalibration : Prop :=
  (∀ (s : State) (f : Frame) (rest : List Frame), requestWaits s .odoCalBegin 0 f rest →
      exec .odoCalBegin s = .next
        { s with
          travel := { s.travel with calOpen := true, calCount := 0 }
          line := answeredLine s.line f rest .ok 0 .headOnly }) ∧
  (∀ (s : State) (d : Int) (f : Frame) (rest : List Frame) (n dist : Nat), requestWaits s .odoCalEnd 4 f rest →
      n = s.travel.calCount.natAbs → dist = (max 10000 (min 100000000 d)).toNat →
      (s.travel.calOpen = false →
        answersOnly (.odoCalEnd d) s f rest .order 0 (.calibration n s.setup.travel.scale dist)) ∧
      (s.travel.calOpen = true → s.run.writing ≠ none →
        answersOnly (.odoCalEnd d) s f rest .busy 0 (.calibration n s.setup.travel.scale dist)) ∧
      (s.travel.calOpen = true → s.run.writing = none → n < 1000 →
        answersOnly (.odoCalEnd d) s f rest .order 0 (.calibration n s.setup.travel.scale dist)) ∧
      (∀ scale : Nat, s.travel.calOpen = true → s.run.writing = none → 1000 ≤ n →
        2 * n * scale ≤ 2 * (dist * 65536) + n → 2 * (dist * 65536) + n < 2 * n * (scale + 1) →
        exec (.odoCalEnd d) s = .next
          (if 1 ≤ scale ∧ scale ≤ 16777215 then
            { s with
              setup := { s.setup with travel := { s.setup.travel with scale := scale } }
              travel := { s.travel with calOpen := false }
              line := answeredLine s.line f rest (if 10000 ≤ d ∧ d ≤ 100000000 then .ok else .clamped) 0
                (.calibration n scale dist) }
          else
            { s with
              travel := { s.travel with calOpen := false }
              line := answeredLine s.line f rest .range 0 (.calibration n s.setup.travel.scale dist) })))

/-! ### The firing units -/

/-- A pitch event in RUNNING with no commit to take: the request takes the group at the plan pointer, which moves on.
Found IDLE, the group starts at once with its records fixed and its end time set, and a snapshot WAITING for one of its
channels is bound; found FIRING it is held; found FIRING with a request held it takes the held one's place, which is a
skipped firing with its SKIP pulse. A pitch event leaves the firing unit unchanged outside RUNNING, and in RUNNING with an
empty active plan and no staged plan. The commit: with the pointer at 0 and a plan staged, the staged plan becomes active
first and the channels that left and joined go to the echo processor in ascending number; the event is then bound as under
the new plan. A firing in flight of a channel that left or joined is void from then on (log 32). That the handover is made even
where no channel left or joined is the model's choice (log 24). Choices of the model that it rests on: logs 2, 24, 32. -/
def Obligations.APitchEventBindsItsGroup : Prop :=
  (∀ (s : State) (r : Rail) (b : Int) (rest : List Int) (g : Group) (next n : Nat) (w : PendingSnapshot),
      s.run.state = .running → (s.firing.get r).pitchEvents = b :: rest →
      ((s.firing.get r).staged = none ∨ (s.firing.get r).pointer ≠ 0) →
      planStep (s.setup.plans.get r) (s.firing.get r).pointer g next → isDuration s r g n →
      startedSnapshot g b (s.echo.get r).snapshot w →
      ((s.firing.get r).flight = none →
        exec (.pitchEvent r) s = .next
          { s with
            firing := s.firing.set r
              { s.firing.get r with pitchEvents := rest, pointer := next, flight := some (flightFrom s r g b (s.now + n)) }
            echo := s.echo.set r { s.echo.get r with snapshot := w } }) ∧
      ((s.firing.get r).flight ≠ none → (s.firing.get r).held = none →
        exec (.pitchEvent r) s = .next
          { s with
            firing := s.firing.set r { s.firing.get r with pitchEvents := rest, pointer := next, held := some ⟨g, b⟩ } }) ∧
      ((s.firing.get r).flight ≠ none → (s.firing.get r).held ≠ none → (s.firing.get r).skipped ≤ 65535 →
        exec (.pitchEvent r) s = .next
          { s with
            firing := s.firing.set r
              { s.firing.get r with
                pitchEvents := rest, pointer := next, held := some ⟨g, b⟩
                skipped := min 65535 ((s.firing.get r).skipped + 1) }
            router := { s.router with pulses := s.router.pulses ++ [.skip] } })) ∧
  (∀ (s : State) (r : Rail) (b : Int) (rest : List Int), (s.firing.get r).pitchEvents = b :: rest →
      (s.run.state ≠ .running ∨ s.setup.plans.get r = [] ∧ (s.firing.get r).staged = none) →
      exec (.pitchEvent r) s = .next { s with firing := s.firing.set r { s.firing.get r with pitchEvents := rest } }) ∧
  (∀ (s : State) (r : Rail) (b : Int) (rest : List Int) (p : Plan) (left joined : List Channel),
      s.run.state = .running → (s.firing.get r).pitchEvents = b :: rest → (s.firing.get r).pointer = 0 →
      (s.firing.get r).staged = some p →
      left = (List.finRange 12).filter (fun ch => (s.setup.plans.get r).has ch && !p.has ch) →
      joined = (List.finRange 12).filter (fun ch => p.has ch && !(s.setup.plans.get r).has ch) →
      exec (.pitchEvent r) s = exec (.pitchEvent r)
        { s with
          setup := { s.setup with plans := s.setup.plans.set r p }
          firing := s.firing.set r
            { s.firing.get r with
              staged := none
              flight := (s.firing.get r).flight.map (fun f => { f with void := f.void ++ (left ++ joined) }) }
          echo := s.echo.set r
            { s.echo.get r with inbox := (s.echo.get r).inbox ++ [.commit left joined] } })

/-- The samples a lane's receiver records over a listen length: saturated at 4095; what the sender's list does not reach
is silent (log 15). A group completes at its end time: the firing position, the group and, for each channel still in plan, its record
and samples go to the echo processor, void where a commit removed the channel or brought it in meanwhile (log 32); then the held
request starts, or the unit becomes IDLE and in DRAINING sends the
drain notice behind its last completion. The start of a held request binds a WAITING snapshot, also one asked for while it
was held (log 31). Choices of the model that it rests on: logs 2, 3, 15, 31, 32. -/
def Obligations.AGroupCompletes : Prop :=
  (∀ (n : Nat) (signal : List Nat), recorded n signal = (List.range n).map (fun k => min 4095 (signal.getD k 0))) ∧
  (∀ (s : State) (r : Rail) (l : LaneSamples) (f : Flight) (now : Nat) (cs : List CompletedChannel),
      (s.firing.get r).flight = some f → now = max s.now f.endTime →
      cs = (f.channels.filter (fun c => s.inPlan r c.channel)).map (fun c =>
        ⟨c.channel, c.record, recorded c.record.listen (#v[l.lane0, l.lane1, l.lane2, l.lane3][c.record.lane]),
          decide (c.channel ∈ f.void)⟩) →
      ((s.firing.get r).held = none →
        exec (.groupCompletion r l) s = .next
          { s with
            now := now
            firing := s.firing.set r { s.firing.get r with flight := none }
            echo := s.echo.set r
              { s.echo.get r with
                inbox := (s.echo.get r).inbox ++ .completion f.position (f.channels.map FiredChannel.channel) cs ::
                  (if s.run.state = .draining then [.drain] else []) } }) ∧
      (∀ (q : PitchRequest) (n : Nat) (w : PendingSnapshot), (s.firing.get r).held = some q → isDuration s r q.group n →
        startedSnapshot q.group q.position (s.echo.get r).snapshot w →
        exec (.groupCompletion r l) s = .next
          { s with
            now := now
            firing := s.firing.set r
              { s.firing.get r with held := none, flight := some (flightFrom s r q.group q.position (now + n)) }
            echo := s.echo.set r
              { s.echo.get r with inbox := (s.echo.get r).inbox ++ [.completion f.position (f.channels.map FiredChannel.channel) cs], snapshot := w } }))

/-! ### Gates -/

/-- The level curve at sample time t: the first point's level up to it, the last point's level from it on, and between two
neighbours the value with the quotient cut toward zero. -/
def Obligations.TheLevelCurve : Prop :=
  ∀ (curve : List CurvePoint) (t : Nat), ascending curve = true →
    (∀ p, curve.head? = some p → t ≤ p.time → curveLevel curve t = some (p.level : Int)) ∧
    (∀ p, curve.getLast? = some p → p.time ≤ t → curveLevel curve t = some (p.level : Int)) ∧
    (∀ (i : Nat) (p q : CurvePoint), curve[i]? = some p → curve[i + 1]? = some q → p.time ≤ t → t < q.time →
      curveLevel curve t = some ((p.level : Int) +
        Int.tdiv (((q.level : Int) - p.level) * ((t : Int) - p.time)) ((q.time : Int) - p.time))) ∧
    (curve = [] → curveLevel curve t = none)

/-- The level that applies at a sample time: the curve's for a gate whose use-curve flag is YES, and the flat level for
any other gate and for a channel with no curve points. The interface time is the first sample of the window, cut off at
the listen length, at or above the interface level; the verdict is PASS when that sample is at or above the coupling
level. Not found, the verdict is FAIL and no present flaw gate is evaluated. A gate whose presence is NONE gives
ABSENT_GATE. Choices of the model that it rests on: log 33. -/
def Obligations.TheInterfaceGate : Prop :=
  (∀ (g : FlawGate) (curve : List CurvePoint) (t : Nat),
      (g.useCurve = false ∨ curve = [] → g.levelAt curve t = (g.level : Int)) ∧
      (g.useCurve = true → ∀ v, curveLevel curve t = some v → g.levelAt curve t = v)) ∧
  (∀ (x : ChannelRecord) (samples : List Nat),
      (∀ i a : Nat, x.interfaceStart ≤ i → i < x.interfaceStart + x.interfaceWidth → samples[i]? = some a →
        x.interfaceLevel ≤ a →
        (∀ k b : Nat, x.interfaceStart ≤ k → k < i → samples[k]? = some b → b < x.interfaceLevel) →
        (gateResult x samples).interface = some ⟨i, a⟩ ∧ (gateResult x samples).pass = decide (x.couplingLevel ≤ a) ∧
        ∀ (g : Gate) y, x.gates[g] = some y → (gateResult x samples).outcomes[g] = y.outcome x.curve samples i) ∧
      ((∀ k b : Nat, x.interfaceStart ≤ k → k < x.interfaceStart + x.interfaceWidth → samples[k]? = some b →
          b < x.interfaceLevel) →
        (gateResult x samples).interface = none ∧ (gateResult x samples).pass = false ∧
        ∀ (g : Gate) y, x.gates[g] = some y → (gateResult x samples).outcomes[g] = .notEvaluated) ∧
      ∀ g : Gate, x.gates[g] = none → (gateResult x samples).outcomes[g] = .absentGate)

/-- A flaw gate whose window holds no sample is not evaluated, whatever its mode. A PEAK gate takes the greatest amplitude
among the samples that reach their level, the earliest of equals. A FIRST gate takes the time of the first sample that
reaches its level, and the greatest amplitude of the run of samples from there on that each reach theirs. An ABSENT gate
hits when no sample reaches its level: at its start plus half its evaluated width, with the greatest amplitude of the
window. -/
def Obligations.TheFlawGates : Prop :=
  (∀ (g : FlawGate) (curve : List CurvePoint) (samples : List Nat) (i : Nat), samples.length ≤ i + g.start →
      g.outcome curve samples i = .notEvaluated) ∧
  (∀ (g : FlawGate) (curve : List CurvePoint) (samples : List Nat) (i : Nat), g.mode = .peak →
      (∀ t a, g.reachesAt curve samples i t a →
        (∀ u b, g.reachesAt curve samples i u b → b ≤ a ∧ (u < t → b < a)) → g.outcome curve samples i = .hit ⟨t, a⟩) ∧
      (i + g.start < samples.length → 1 ≤ g.width → (∀ t a, ¬ g.reachesAt curve samples i t a) →
        g.outcome curve samples i = .noHit)) ∧
  (∀ (g : FlawGate) (curve : List CurvePoint) (samples : List Nat) (i : Nat), g.mode = .first →
      (∀ t a m n u : Nat, g.reachesAt curve samples i t a → (∀ v b, g.reachesAt curve samples i v b → t ≤ v) →
        1 ≤ n → (∀ k, k < n → ∃ b, g.reachesAt curve samples i (t + k) b ∧ b ≤ m) →
        (∀ b, ¬ g.reachesAt curve samples i (t + n) b) → u < n → g.reachesAt curve samples i (t + u) m →
        g.outcome curve samples i = .hit ⟨t, m⟩) ∧
      (i + g.start < samples.length → 1 ≤ g.width → (∀ t a, ¬ g.reachesAt curve samples i t a) →
        g.outcome curve samples i = .noHit)) ∧
  (∀ (g : FlawGate) (curve : List CurvePoint) (samples : List Nat) (i u m : Nat), g.mode = .absent →
      i + g.start < samples.length → 1 ≤ g.width → u = min g.width (samples.length - (i + g.start)) →
      (∃ t, g.sampleAt samples i t m) → (∀ t a, g.sampleAt samples i t a → a ≤ m) →
      ((∀ t a, ¬ g.reachesAt curve samples i t a) → g.outcome curve samples i = .hit ⟨g.start + u / 2, m⟩) ∧
      ((∃ t a, g.reachesAt curve samples i t a) → g.outcome curve samples i = .noHit))

/-- The points of a snapshot: n samples in blocks of k = ceil(n / 512), ceil(n / k) points and never more than 512, each
the greatest amplitude of its block, the last block cut off at the last sample. -/
def Obligations.TheSnapshotIsReduced : Prop :=
  ∀ (samples : List Nat) (k : Nat), 512 * (k - 1) < samples.length → samples.length ≤ 512 * k →
    blockSize samples.length = k ∧
    (∃ n, (snapshotPoints samples).length = n ∧ n ≤ 512 ∧ (n - 1) * k < samples.length ∧ samples.length ≤ n * k) ∧
    ∀ i p : Nat, (snapshotPoints samples)[i]? = some p →
      (∃ j, i * k ≤ j ∧ j < i * k + k ∧ samples[j]? = some p) ∧
      ∀ j a : Nat, i * k ≤ j → j < i * k + k → samples[j]? = some a → a ≤ p

/-! ### Coupling and coverage -/

/-- The counts and the coupling state a verdict gives: a PASS raises the pass count and zeroes the fail count, a FAIL the
reverse, each staying at 255; the first fail of a run sets the first-fail position and a PASS clears it; the state moves
as the table says. -/
def Obligations.AVerdictIsCounted : Prop :=
  ∀ (c : Cover) (x : ChannelRecord) (pp : Int), c.failCount ≤ 255 → c.passCount ≤ 255 →
    (c.count x true pp).passCount = min 255 (c.passCount + 1) ∧ (c.count x true pp).failCount = 0 ∧
    (c.count x true pp).firstFail = none ∧
    (c.count x false pp).failCount = min 255 (c.failCount + 1) ∧ (c.count x false pp).passCount = 0 ∧
    (c.count x false pp).firstFail = (if c.failCount = 0 then some pp else c.firstFail) ∧
    (∀ pass, (c.count x pass pp).stretch = c.stretch ∧ (c.count x pass pp).previous = c.previous ∧
      (c.count x pass pp).lastProbe = c.lastProbe) ∧
    (c.coupling = .unknown → (c.count x true pp).coupling = .coupled) ∧
    (c.coupling = .unknown → x.failThreshold ≤ min 255 (c.failCount + 1) → (c.count x false pp).coupling = .uncoupled) ∧
    (c.coupling = .unknown → min 255 (c.failCount + 1) < x.failThreshold → (c.count x false pp).coupling = .unknown) ∧
    (c.coupling = .coupled → (c.count x true pp).coupling = .coupled) ∧
    (c.coupling = .coupled → x.failThreshold ≤ min 255 (c.failCount + 1) → (c.count x false pp).coupling = .uncoupled) ∧
    (c.coupling = .coupled → min 255 (c.failCount + 1) < x.failThreshold → (c.count x false pp).coupling = .coupled) ∧
    (c.coupling = .uncoupled → x.regainThreshold ≤ min 255 (c.passCount + 1) → (c.count x true pp).coupling = .coupled) ∧
    (c.coupling = .uncoupled → min 255 (c.passCount + 1) < x.regainThreshold → (c.count x true pp).coupling = .uncoupled) ∧
    (c.coupling = .uncoupled → (c.count x false pp).coupling = .uncoupled)

/-- What a counted firing does to the channel's untested stretch: the firing that loses coupling opens it at the first
fail or draws it back there, a blanked firing opens it at its probe position, an overrun adds SPACING or is a record of
its own, and a firing neither blanked nor made while UNCOUPLED closes it. Choices of the model that it rests on: log 20.
-/
def Obligations.AFiringOpensAndClosesStretches : Prop :=
  ∀ (c : Cover) (x : ChannelRecord) (pf pp : Int) (late : Bool),
    pp = max (-2147483648) (min 2147483647 (pf + x.offset)) →
    (late = true ↔ ∃ p, c.previous = some p ∧ (x.spacing : Int) < pf - p) →
    (c.stretch = none → late = false → c.stretches x pf false false = ({ c with previous := some pf, lastProbe := some pp }, [])) ∧
    (∀ p, c.stretch = none → late = true → c.previous = some p →
      c.stretches x pf false false =
        ({ c with
            previous := some pf, lastProbe := some pp, firstFail := if 0 < c.failCount then some pp else c.firstFail },
          [⟨max (-2147483648) (min 2147483647 (p + x.offset)), pp, ⟨false, false, true⟩⟩])) ∧
    (∀ st, c.stretch = some st → c.coupling ≠ .uncoupled →
      c.stretches x pf false false =
        ({ c with
            stretch := none, previous := some pf, lastProbe := some pp
            firstFail := if 0 < c.failCount then some pp else c.firstFail },
          [⟨st.start, pp, { st.causes with spacing := st.causes.spacing || late }⟩])) ∧
    (∀ st, c.stretch = some st → c.coupling = .uncoupled →
      c.stretches x pf false false =
        ({ c with
            stretch := some { st with causes := { st.causes with spacing := st.causes.spacing || late } }
            previous := some pf, lastProbe := some pp }, [])) ∧
    (∀ blanked, c.coupling = .uncoupled →
      c.stretches x pf true blanked =
        ({ c with
            stretch := some (match c.stretch with
              | none => ⟨c.firstFail.getD pp, ⟨true, blanked, late⟩, false⟩
              | some st =>
                ⟨min st.start (c.firstFail.getD pp), ⟨true, st.causes.blanked || blanked, st.causes.spacing || late⟩, st.cut⟩)
            previous := some pf, lastProbe := some pp }, [])) ∧
    (c.stretches x pf false true =
        ({ c with
            stretch := some (match c.stretch with
              | none => ⟨pp, ⟨false, true, late⟩, false⟩
              | some st => ⟨st.start, ⟨st.causes.coupling, true, st.causes.spacing || late⟩, st.cut⟩)
            previous := some pf, lastProbe := some pp }, []))

/-- The fate of a hit: discarded when blanked, and when UNCOUPLED in HOLD; kept with the uncoupled mark when UNCOUPLED in
PASS; kept otherwise. Where a kept hit lies: the effective time T − Z held from 0 to 8191, the depth round(E × Kd / 65536)
held at 2500, the reflector position Pf + O + round(E × Ka / 65536) held in the position range, DEPTH_CLAMPED where the
time lay above 8191 or the depth above 2500; and Ka is round(Kd × T / 65536). The rounding of the rules: the nearest whole
number, a half away from zero. -/
def Obligations.AKeptHitIsPlaced : Prop :=
  ((∀ st mode, hitFate true st mode = none) ∧ hitFate false .uncoupled .hold = none ∧
      hitFate false .uncoupled .pass = some true ∧ (∀ st mode, st ≠ .uncoupled → hitFate false st mode = some false)) ∧
  (∀ (x : ChannelRecord) (pf : Int) (h : Hit) (e : Nat) (d k a : Int),
      (e : Int) = max 0 (min 8191 ((h.time : Int) - x.zero)) →
      d = roundDiv ((e : Int) * x.kd) 65536 → k = roundDiv ((x.kd : Int) * x.angle) 65536 → a = roundDiv ((e : Int) * k) 65536 →
      x.ka = k ∧ placeHit x pf h =
        ⟨max (-2147483648) (min 2147483647 (pf + x.offset + a)), (min d 2500).toNat,
          decide (8191 < (h.time : Int) - x.zero ∨ 2500 < d)⟩) ∧
  (∀ (a : Int) (b : Nat), 0 < b →
      (0 ≤ a → 2 * a - b < 2 * b * roundDiv a b ∧ 2 * b * roundDiv a b ≤ 2 * a + b) ∧
      (a ≤ 0 → 2 * a - b ≤ 2 * b * roundDiv a b ∧ 2 * b * roundDiv a b < 2 * a + b))

/-- A completion is taken whole: its channels one after another in group order, each finished before the next, then the
completion notice. It is taken only once the tracker has taken every input of the completion before it (log 47). Its blanking
queries are all answered from the landmark list as it stands at this step: the model's choice (log 46). A completion with no channel still gives its notice, and a void firing gives no result (log 32). The HIT record
of every kept hit is handed to the line, which offers it when its turn comes if the hit-stream set then asks for it (log 34).
Choices of the model that it rests on: logs 2, 20, 32, 34, 46, 47. -/
def Obligations.ACompletionIsProcessed : Prop :=
  ∀ (s t : State) (r : Rail) (pf : Int) (g : Group) (cs : List CompletedChannel) (rest : List EchoItem),
    (s.echo.get r).inbox = .completion pf g cs :: rest →
    (s.tracks r → exec (.completionProcessing r) s = .next s) ∧ (¬s.tracks r →
    t = (cs.filter (fun c => !c.void)).foldl (State.afterChannel r pf) { s with echo := s.echo.set r { s.echo.get r with inbox := rest } } →
    exec (.completionProcessing r) s = .next
      { t with
        tracker := t.tracker.set r { t.tracker.get r with inbox := (t.tracker.get r).inbox ++ [.completion pf] } })

/-- A commit reaches the echo processor: the leaving channels go to the tracker first; then each, in turn, has its open
stretch cut with a record, becomes INACTIVE with nothing remembered, and has a pending snapshot cancelled with its record;
each joining channel becomes UNKNOWN with counts zero. Every other channel keeps its coverage. The flush notice passes the
echo processor with nothing touched; the drain notice cuts every open stretch of the rail in ascending channel number,
each with its record, and goes on behind them. The channel of a pending snapshot is the one it waits for or is bound for.
Each of the three is taken only once the tracker has taken every input of the completion before it (log 47).
That a cut stretch of a channel with no firing processed ends at its own start is the model's choice (log 20). Choices of
the model that it rests on: logs 2, 20, 37, 47. -/
def Obligations.CommitsAndNoticesAtTheEchoProcessor : Prop :=
  (∀ (s : State) (r : Rail) (leaving joining : List Channel) (rest : List EchoItem),
      (s.echo.get r).inbox = .commit leaving joining :: rest → ¬s.tracks r → (leaving ++ joining).Nodup →
      exec (.commitHandover r) s = .next
        { s with
          echo := s.echo.set r
            { s.echo.get r with
              inbox := rest
              cover := Vector.ofFn (fun ch =>
                if ch ∈ leaving then ⟨.inactive, 0, 0, none, none, none, none⟩
                else if ch ∈ joining then ⟨.unknown, 0, 0, none, none, none, none⟩
                else (s.echo.get r).cover[ch])
              snapshot := if (s.echo.get r).snapshot.channel.any (fun ch => leaving.contains ch) then .idle else (s.echo.get r).snapshot }
          tracker := s.tracker.set r { s.tracker.get r with inbox := (s.tracker.get r).inbox ++ [.leaving leaving] }
          line := s.line.hear
            (leaving.flatMap (fun ch =>
                (cutRecord r ch (s.echo.get r).cover[ch]).map .offer ++
                  onChange (s.echo.get r).cover[ch].coupling .inactive (.change (.coupling r ch)) ++
                  if (s.echo.get r).snapshot.channel = some ch then [.offer (.snapshot (.cancelled r ch))] else []) ++
              joining.flatMap (fun ch => onChange (s.echo.get r).cover[ch].coupling .unknown (.change (.coupling r ch))))
          router := s.router.hear
            (leaving.flatMap (fun ch => onChange (s.echo.get r).cover[ch].coupling .inactive (.coupling r ch .inactive)) ++
              joining.flatMap (fun ch => onChange (s.echo.get r).cover[ch].coupling .unknown (.coupling r ch .unknown))) }) ∧
  (∀ (s : State) (r : Rail), s.tracks r → exec (.commitHandover r) s = .next s ∧ exec (.echoFlushNotice r) s = .next s ∧
      exec (.echoDrainNotice r) s = .next s) ∧
  (∀ (s : State) (r : Rail) (rest : List EchoItem), ¬s.tracks r →
      ((s.echo.get r).inbox = .flush :: rest →
        exec (.echoFlushNotice r) s = .next
          { s with
            echo := s.echo.set r { s.echo.get r with inbox := rest }
            tracker := s.tracker.set r { s.tracker.get r with inbox := (s.tracker.get r).inbox ++ [.flush] } }) ∧
      ((s.echo.get r).inbox = .drain :: rest →
        exec (.echoDrainNotice r) s = .next
          { s with
            echo := s.echo.set r
              { s.echo.get r with
                inbox := rest
                cover := Vector.ofFn (fun ch => { (s.echo.get r).cover[ch] with stretch := none }) }
            tracker := s.tracker.set r { s.tracker.get r with inbox := (s.tracker.get r).inbox ++ [.drain] }
            line := s.line.hear
              ((List.finRange 12).flatMap (fun ch => (cutRecord r ch (s.echo.get r).cover[ch]).map .offer)) })) ∧
  (PendingSnapshot.idle.channel = none ∧ ∀ ch pf, (PendingSnapshot.waiting ch).channel = some ch ∧
    (PendingSnapshot.bound ch pf).channel = some ch)

/-! ### The trackers -/

/-- A trace is a candidate for a hit when channel and gate are the hit's and both distances lie within their tolerances. A
kept hit at the tracker: it joins the nearest of the OPEN traces of its channel and gate within both tolerances, the
lowest slot among equals; with none it opens a trace in the lowest FREE slot; with no slot FREE it is discarded and the
overflow counter rises. A hit whose HIT record still waits for its offer is not taken yet (log 34). Choices of the model that it
rests on: logs 1, 2, 34. -/
def Obligations.AHitReachesTheTracker : Prop :=
  (∀ (t : Trace) (h : KeptHit) (pt dt : Nat), t.candidate h pt dt = true ↔
      t.channel = h.channel ∧ t.gate = h.gate ∧ (h.reflector - t.lastPr).natAbs ≤ pt ∧ ((h.depth : Int) - t.lastD).natAbs ≤ dt) ∧
  (∀ (s : State) (r : Rail) (h : KeptHit) (rest : List TrackerItem) (y : FlawGate) (k : Tracker),
      k = s.tracker.get r → k.inbox = .hit h :: rest → ¬s.streams r h → (s.channel r h.channel).gates[h.gate] = some y →
      k.overflow ≤ 65535 →
      (∀ (i : Fin 32) (t : Trace), k.slots[i] = some t → t.candidate h y.positionTolerance y.depthTolerance = true →
        (∀ (j : Fin 32) u, k.slots[j] = some u → u.candidate h y.positionTolerance y.depthTolerance = true →
          (h.reflector - t.lastPr).natAbs ≤ (h.reflector - u.lastPr).natAbs ∧
            (j < i → (h.reflector - t.lastPr).natAbs < (h.reflector - u.lastPr).natAbs)) →
        exec (.trackerHit r) s = .next
          { s with
            tracker := s.tracker.set r
              { k with
                inbox := rest
                slots := setAt k.slots i (some
                  { t with
                    lastPr := h.reflector, minPr := min t.minPr h.reflector, maxPr := max t.maxPr h.reflector
                    lastD := h.depth, minD := min t.minD h.depth, maxD := max t.maxD h.depth
                    peak := if t.peak.amplitude < h.amplitude then ⟨h.amplitude, h.reflector, h.depth⟩ else t.peak
                    hits := if t.hits < 65535 then t.hits + 1 else t.hits
                    lastHitPosition := h.position, uncoupled := t.uncoupled || h.uncoupled }) } }) ∧
      ((∀ (j : Fin 32) u, k.slots[j] = some u → u.candidate h y.positionTolerance y.depthTolerance = false) →
        (∀ i : Fin 32, k.slots[i] = none → (∀ j : Fin 32, j < i → k.slots[j] ≠ none) →
          exec (.trackerHit r) s = .next
            { s with
              tracker := s.tracker.set r
                { k with
                  inbox := rest
                  slots := setAt k.slots i (some
                    ⟨h.channel, h.gate, h.reflector, h.reflector, h.reflector, h.depth, h.depth, h.depth,
                      ⟨h.amplitude, h.reflector, h.depth⟩, 1, h.position, h.uncoupled⟩) } }) ∧
        ((∀ i : Fin 32, k.slots[i] ≠ none) →
          exec (.trackerHit r) s = .next
            { s with tracker := s.tracker.set r { k with inbox := rest, overflow := min 65535 (k.overflow + 1) } }))) ∧
  (∀ (s : State) (r : Rail) (h : KeptHit) (rest : List TrackerItem), (s.tracker.get r).inbox = .hit h :: rest → s.streams r h →
      exec (.trackerHit r) s = .next s)

/-- Which traces each notice closes, in which order, and what goes on behind their indications: a channel-end notice those
of its channel further behind than the close distance, a commit those of its leaving channels one channel after another, a
flush and a drain all of them with the notice passed on; a completion notice closes none and is passed on. Choices of the
model that it rests on: logs 2, 17. -/
def Obligations.NoticesCloseTraces : Prop :=
  ∀ (s : State) (r : Rail) (rest : List TrackerItem), (s.tracker.get r).noise ≤ 65535 →
    (∀ (ch : Channel) (pf : Int) (w : Trace → Bool), (s.tracker.get r).inbox = .channelEnd ch pf :: rest →
      (∀ t, w t = true ↔ t.channel = ch ∧ ((s.channel r ch).closeDistance : Int) < pf - t.lastHitPosition) →
      exec (.channelEndNotice r) s = .next (s.afterClosing r (tracesOf (s.tracker.get r).slots w) w [])) ∧
    (∀ pf, (s.tracker.get r).inbox = .completion pf :: rest →
      exec (.trackerCompletionNotice r) s = .next (s.afterClosing r [] (fun _ => false) [.completion pf])) ∧
    (∀ chs : List Channel, (s.tracker.get r).inbox = .leaving chs :: rest → chs.Nodup →
      exec (.trackerCommitLeaving r) s = .next
        (s.afterClosing r (chs.flatMap (fun ch => tracesOf (s.tracker.get r).slots (fun t => decide (t.channel = ch))))
          (fun t => chs.contains t.channel) [])) ∧
    ((s.tracker.get r).inbox = .flush :: rest →
      exec (.trackerFlushNotice r) s = .next
        (s.afterClosing r (tracesOf (s.tracker.get r).slots (fun _ => true)) (fun _ => true) [.flush])) ∧
    ((s.tracker.get r).inbox = .drain :: rest →
      exec (.trackerDrainNotice r) s = .next
        (s.afterClosing r (tracesOf (s.tracker.get r).slots (fun _ => true)) (fun _ => true) [.drain]))

/-! ### The finding assemblers -/

/-- An indication overlaps a finding when the gap between them is at most the join tolerance. Where an indication's
contribution goes: into the contribution of its channel and gate, combined field by field; else to the end of the list
while there are fewer than 16; else it is dropped and TRUNCATED is set. The span, the depths and the UNCOUPLED flag widen
in every case. What a finding taken in brings: its span and depths widen the survivor, its flags are set there, and its
contributions are placed one after another as an indication's is. TRUNCATED stands where either had it or one of those
contributions found no room, and only there. A contribution is placed as an indication of the same fields is, the span,
the depths and the UNCOUPLED flag apart. -/
def Obligations.FindingsOverlapAndCombine : Prop :=
  (∀ (f : Finding) (i : Contribution) (join : Nat), f.start ≤ f.finish → i.minPr ≤ i.maxPr →
      (f.overlaps i join = true ↔ ∃ p q : Int, f.start ≤ p ∧ p ≤ f.finish ∧ i.minPr ≤ q ∧ q ≤ i.maxPr ∧ (p - q).natAbs ≤ join)) ∧
  (∀ (f : Finding) (i : Contribution),
      (f.add i).start = min f.start i.minPr ∧ (f.add i).finish = max f.finish i.maxPr ∧
      (f.add i).depthMin = min f.depthMin i.minD ∧ (f.add i).depthMax = max f.depthMax i.maxD ∧
      (f.add i).uncoupled = (f.uncoupled || i.uncoupled) ∧
      (∀ (as bs : List Contribution) (c : Contribution), f.contributions = as ++ c :: bs → c.channel = i.channel → c.gate = i.gate →
        (∀ d ∈ as ++ bs, ¬(d.channel = i.channel ∧ d.gate = i.gate)) →
        (f.add i).truncated = f.truncated ∧
        (f.add i).contributions = as ++
          ⟨c.channel, c.gate, min c.minPr i.minPr, max c.maxPr i.maxPr, min c.minD i.minD, max c.maxD i.maxD,
            if c.peak.amplitude < i.peak.amplitude then i.peak else c.peak, min 65535 (c.hits + i.hits),
            c.uncoupled || i.uncoupled⟩ :: bs) ∧
      ((∀ d ∈ f.contributions, ¬(d.channel = i.channel ∧ d.gate = i.gate)) → f.contributions.length < 16 →
        (f.add i).truncated = f.truncated ∧ (f.add i).contributions = f.contributions ++ [i]) ∧
      ((∀ d ∈ f.contributions, ¬(d.channel = i.channel ∧ d.gate = i.gate)) → 16 ≤ f.contributions.length →
        (f.add i).truncated = true ∧ (f.add i).contributions = f.contributions)) ∧
  (∀ f g : Finding,
      (f.takeIn g).start = min f.start g.start ∧ (f.takeIn g).finish = max f.finish g.finish ∧
      (f.takeIn g).depthMin = min f.depthMin g.depthMin ∧ (f.takeIn g).depthMax = max f.depthMax g.depthMax ∧
      (f.takeIn g).uncoupled = (f.uncoupled || g.uncoupled) ∧
      ((f.takeIn g).truncated = true ↔ f.truncated = true ∨ g.truncated = true ∨
        ∃ as c bs, g.contributions = as ++ c :: bs ∧ 16 ≤ (as.foldl Finding.place f).contributions.length ∧
          ∀ d ∈ (as.foldl Finding.place f).contributions, ¬(d.channel = c.channel ∧ d.gate = c.gate)) ∧
      (f.takeIn g).contributions = (g.contributions.foldl Finding.place f).contributions) ∧
  (∀ (f : Finding) (i : Contribution),
      f.place i = { f with contributions := (f.add i).contributions, truncated := (f.add i).truncated })

/-- An indication at the assembler: the OPEN findings it overlaps are merged into the first of them in order of start,
each of the others freed, and the indication is added; overlapping none, it opens a finding in the lowest FREE slot; with
no slot FREE the finding with the least start is closed FORCED first, and the new one takes its slot. Closed, it is
classified, and numbered, reported, marked or suppressed, in the indication's own step: the model's choice (log 38). -/
def Obligations.AnIndicationJoinsMergesOrOpens : Prop :=
  ∀ (s : State) (r : Rail) (i : Contribution) (rest : List AssemblerItem) (a : Assembler),
    a = s.assembler.get r → a.inbox = .indication i :: rest →
    (∀ (k : Fin 16) (f : Finding) (others : List (Fin 16 × Finding)),
      inStartOrder a.slots (fun g => g.overlaps i (s.setup.rails.get r).join) ((k, f) :: others) →
      exec (.indication r) s = .next (s.withFindings r (Vector.ofFn (fun j =>
        if j = k then some ((others.foldl (fun g x => g.takeIn x.2) f).add i)
        else if others.any (fun x => decide (x.1 = j)) then none else a.slots[j])))) ∧
    (inStartOrder a.slots (fun g => g.overlaps i (s.setup.rails.get r).join) [] →
      (∀ k : Fin 16, a.slots[k] = none → (∀ j : Fin 16, j < k → a.slots[j] ≠ none) →
        exec (.indication r) s = .next (s.withFindings r (setAt a.slots k (some
          ⟨i.minPr, i.maxPr, i.minD, i.maxD, [i], false, i.uncoupled⟩)))) ∧
      ((∀ k : Fin 16, a.slots[k] ≠ none) → ∀ (x : Fin 16 × Finding) (xs : List (Fin 16 × Finding)),
        inStartOrder a.slots (fun _ => true) (x :: xs) →
        ∃ t, t = State.afterFinding r .forced (s.withFindings r a.slots) x ∧
          exec (.indication r) s = .next
            { t with
              assembler := t.assembler.set r
                { t.assembler.get r with
                  slots := setAt a.slots x.1 (some ⟨i.minPr, i.maxPr, i.minD, i.maxD, [i], false, i.uncoupled⟩) } }))

/-- A completion notice closes the findings further behind than the settle distance, a flush and a drain all of them, each
in order of start; the drain notice then goes to the run controller. A drain notice at the run controller in DRAINING
records its rail as drained; with both rails recorded the run state becomes STOPPED, and the change goes to the line
interface and the signal router. That the record of drained rails then stands is the model's choice (log 49). Choices of the
model that it rests on: logs 2, 38, 49. -/
def Obligations.NoticesCloseFindings : Prop :=
  (∀ (s : State) (r : Rail) (rest : List AssemblerItem) (xs : List (Fin 16 × Finding)),
      (∀ (pf : Int) (w : Finding → Bool), (s.assembler.get r).inbox = .completion pf :: rest →
        (∀ f, w f = true ↔ ((s.setup.rails.get r).settle : Int) < pf - f.finish) →
        inStartOrder (s.assembler.get r).slots w xs → exec (.settleCheck r) s = .next (s.afterFindings r .settle xs)) ∧
      ((s.assembler.get r).inbox = .flush :: rest → inStartOrder (s.assembler.get r).slots (fun _ => true) xs →
        exec (.assemblerFlushNotice r) s = .next (s.afterFindings r .flush xs)) ∧
      ((s.assembler.get r).inbox = .drain :: rest → inStartOrder (s.assembler.get r).slots (fun _ => true) xs →
        ∃ t, t = s.afterFindings r .drain xs ∧
          exec (.assemblerDrainNotice r) s = .next
            { t with run := { t.run with drainNotices := t.run.drainNotices.set r true } })) ∧
  (∀ (s : State) (r : Rail) (d n : Rails Bool), s.run.state = .draining → s.run.drainNotices.get r = true →
      d = s.run.drained.set r true → n = s.run.drainNotices.set r false →
      ((d.left = false ∨ d.right = false) →
        exec (.railDrained r) s = .next { s with run := { s.run with drained := d, drainNotices := n } }) ∧
      (d.left = true → d.right = true →
        exec (.railDrained r) s = .next
          { s with
            run := { s.run with drained := d, drainNotices := n, state := .stopped }
            line := s.line.hear [.change .runState]
            router := s.router.hear [.runState .stopped] }))

/-- Classification: the peak depth is that of the contribution with the greatest peak amplitude, the earliest of equals;
the first of the sixteen entries that fits gives class and action; with none the class is 0 and the action the rail's
default. An entry asks the landmark list where its first three conditions fit and its fourth is NEAR or NOT_NEAR, and each such
query is answered from the list as it stands when it is made: after what waited to befall the list right before it, retirements,
ADD_LANDMARKS and CLEAR_LANDMARKS, each as by its own command. Channel n stands in a set as bit n of its word. Choices of the model that it rests
on: log 38. -/
def Obligations.AFindingIsClassified : Prop :=
  ∀ (s : State) (r : Rail) (f : Finding),
    (∀ (as bs : List Contribution) (c : Contribution), f.contributions = as ++ c :: bs →
      (∀ d ∈ as, d.peak.amplitude < c.peak.amplitude) → (∀ d ∈ bs, d.peak.amplitude ≤ c.peak.amplitude) →
      f.peakDepth = c.peak.depth) ∧
    (∀ (i : Fin 16) (p : Pattern) (n : Nat), p.required &&& p.considered = p.required → s.setup.patterns[i] = some p →
      p.considered.toNat < 4096 → p.fits (s.listAt r f i) r f → s.fitsNoneBelow r f i.val → n = s.queries r f (i.val + 1) →
      classify r f s = (s.seen n, ⟨p.cls, some i, p.action⟩)) ∧
    (∀ n : Nat, s.fitsNoneBelow r f 16 → n = s.queries r f 16 →
      classify r f s = (s.seen n, ⟨0, none, .act (s.setup.rails.get r).defaultAction⟩)) ∧
    (∀ p : Pattern, p.considered.toNat < 4096 → p.required &&& p.considered = p.required →
      (p.asks r f = true ↔ p.fitsShape r f ∧ p.condition ≠ .unconditional)) ∧
    (exec .frontierRetirement s = .next (landmarkStep s .retirement) ∧
      (∀ entries, exec (.addLandmarks entries) s = .next (landmarkStep s (.add entries))) ∧
      ∀ d, exec (.clearLandmarks d) s = .next (landmarkStep s (.clear d))) ∧
    (∀ (w : Word16) (ch : Channel), hasChannel w ch = w.getLsbD ch.val)

/-! ### The landmark list -/

/-- ADD_LANDMARKS whose entries all pass: they are appended with their lengths clamped, the list makes its retirement
check against the frontier, and the reply carries the number left and the entries as taken. CLEAR_LANDMARKS empties the
list and takes the retention distance as clamped. At a frontier change the list drops every entry whose start plus length
plus retention distance the frontier exceeds; the rest close up in their order. An entry as taken: kind, rails and blank
flag by number, the start as it stands, the length brought to the nearest limit; an entry with one of the three outside
its set is not taken. That the request's own check is made against the travel unit's frontier, also while a frontier change
waits, is the model's choice (log 48). Choices of the model that it rests on: logs 2, 4, 12, 48. -/
def Obligations.LandmarksAreAddedClearedAndRetired : Prop :=
  (∀ (s : State) (f : Frame) (rest : List Frame) (qs : List LandmarkFields) (es : List Landmark) (left : List Landmark),
      requestWaits s .addLandmarks (2 + 12 * qs.length) f rest → 1 ≤ qs.length → qs.length ≤ 8 → qs.map LandmarkFields.clamp = es.map some →
      s.landmarks.entries.length + qs.length ≤ 64 →
      s.landmarks.entries.Pairwise (fun a b => a.start ≤ b.start) →
      (s.landmarks.entries ++ es).Pairwise (fun a b => a.start ≤ b.start ∧ ¬(a.start = b.start ∧ a.kind = b.kind ∧ a.rails = b.rails)) →
      left = (s.landmarks.entries ++ es).filter (fun e => decide (s.travel.frontier ≤ e.start + e.length + s.landmarks.retention)) →
      exec (.addLandmarks qs) s = .next
        { s with
          landmarks := { s.landmarks with entries := left }
          line := answeredLine s.line f rest
            (if qs.all (fun q => decide (0 ≤ q.length) && decide (q.length ≤ 1000000)) then .ok else .clamped) 0
            (.landmarksAdded left.length es) }) ∧
  (∀ (s : State) (f : Frame) (rest : List Frame) (d : Int) (n : Nat), requestWaits s .clearLandmarks 4 f rest →
      n = (max 0 (min 500000 d)).toNat →
      exec (.clearLandmarks d) s = .next
        { s with
          landmarks := { s.landmarks with entries := [], retention := n }
          line := answeredLine s.line f rest (if 0 ≤ d ∧ d ≤ 500000 then .ok else .clamped) 0 (.retention n) }) ∧
  (∀ (s : State) (x : Int) (rest : List Int), s.landmarks.frontiers = x :: rest →
      exec .frontierRetirement s = .next
        { s with
          landmarks :=
            { s.landmarks with
              frontiers := rest
              entries := s.landmarks.entries.filter (fun e => decide (x ≤ e.start + e.length + s.landmarks.retention)) } }) ∧
  (∀ q : LandmarkFields,
      (q.clamp = none ↔ 5 ≤ q.kind ∨ 3 ≤ q.rails ∨ 2 ≤ q.blank) ∧
      ∀ e, q.clamp = some e →
        e.start = q.start.toInt ∧ (e.length : Int) = max 0 (min 1000000 q.length) ∧
        [LandmarkKind.weld, .joint, .switch, .crossing, .other][q.kind]? = some e.kind ∧
        [AppliesTo.left, .right, .both][q.rails]? = some e.rails ∧ e.blank = decide (q.blank = 0))

/-- ADD_LANDMARKS refused, with the failing entry's index and the number of entries, and nothing added: RANGE for a count
outside 1 to 8 and for an entry outside its sets, ORDER for a start below the entry before, DUPLICATE for one equal in
start, kind and rails, FULL where there is no room left. An entry lies within its sets with a kind from 0 to 4, rails from
0 to 2 and a blank flag of 0 or 1, and is then judged by its start, kind and rails as they stand. Choices of the model
that it rests on: logs 4, 12. -/
def Obligations.AddLandmarksIsRefused : Prop :=
  (∀ (s : State) (f : Frame) (rest : List Frame) (qs : List LandmarkFields), requestWaits s .addLandmarks (2 + 12 * qs.length) f rest →
    ((qs = [] ∨ 8 < qs.length) →
      answersOnly (.addLandmarks qs) s f rest .range 0 (.landmarkCount s.landmarks.entries.length)) ∧
    ∀ (k : Nat) (q : LandmarkFields) (es known : List Landmark), qs.length ≤ 8 → qs[k]? = some q →
      (qs.take k).map LandmarkFields.clamp = es.map some → known = s.landmarks.entries ++ es →
      s.landmarks.entries.Pairwise (fun a b => a.start ≤ b.start) → known.length ≤ 64 →
      known.Pairwise (fun a b => a.start ≤ b.start ∧ ¬(a.start = b.start ∧ a.kind = b.kind ∧ a.rails = b.rails)) →
      (q.clamp = none →
        answersOnly (.addLandmarks qs) s f rest .range k (.landmarkCount s.landmarks.entries.length)) ∧
      ∀ e : Landmark, q.clamp = some e →
        ((∃ l, known.getLast? = some l ∧ e.start < l.start) →
          answersOnly (.addLandmarks qs) s f rest .order k (.landmarkCount s.landmarks.entries.length)) ∧
        ((∀ l, known.getLast? = some l → l.start ≤ e.start) →
          (∃ a ∈ known, a.start = e.start ∧ a.kind = e.kind ∧ a.rails = e.rails) →
          answersOnly (.addLandmarks qs) s f rest .duplicate k (.landmarkCount s.landmarks.entries.length)) ∧
        ((∀ l, known.getLast? = some l → l.start ≤ e.start) →
          (∀ a ∈ known, ¬(a.start = e.start ∧ a.kind = e.kind ∧ a.rails = e.rails)) → known.length = 64 →
          answersOnly (.addLandmarks qs) s f rest .full k (.landmarkCount s.landmarks.entries.length))) ∧
  (∀ q : LandmarkFields,
      (q.clamp = none ↔ 5 ≤ q.kind ∨ 3 ≤ q.rails ∨ 2 ≤ q.blank) ∧
      ∀ e, q.clamp = some e → e.start = q.start.toInt ∧
        [LandmarkKind.weld, .joint, .switch, .crossing, .other][q.kind]? = some e.kind ∧
        [AppliesTo.left, .right, .both][q.rails]? = some e.rails)

/-- The blanking query and the proximity query: an entry that applies to the rail, with the blank flag and the position in
its extent; an entry of the kind that applies to the rail, some position of whose extent lies within the window of the
span. An entry applies to its own rail, and to both with BOTH. -/
def Obligations.TheLandmarkQueries : Prop :=
  ∀ (l : LandmarkList) (r : Rail),
    (∀ pp : Int, l.blanks r pp = true ↔ ∃ e ∈ l.entries, e.blank = true ∧ e.rails.covers r = true ∧ e.start ≤ pp ∧ pp ≤ e.start + e.length) ∧
    (∀ (a b : Int) (k : LandmarkKind) (w : Nat), a ≤ b →
      (l.present r a b k w = true ↔ ∃ e ∈ l.entries, e.kind = k ∧ e.rails.covers r = true ∧
        ∃ p q : Int, e.start ≤ p ∧ p ≤ e.start + e.length ∧ a ≤ q ∧ q ≤ b ∧ (p - q).natAbs ≤ w)) ∧
    ∀ x : AppliesTo, x.covers r = true ↔ x = .both ∨ (x = .left ∧ r = .left) ∨ (x = .right ∧ r = .right)

/-! ### The marking units -/

/-- A change of car position: the gun stands at it less the gun offset. While FORWARD every mark at the head of the queue
at or below the gun leaves with its FIRED record and the valve is open until the spray duration from now; in any other
motion none is fired. The motion is the one that came with the change; the one the unit holds stays (log 29). Choices of
the model that it rests on: logs 2, 29. -/
def Obligations.ACarPositionChangeFiresMarks : Prop :=
  ∀ (s : State) (r : Rail) (m : Move) (rest : List Move) (gun : Int) (fired kept : List Mark) (u : MarkingUnit),
    u = s.marking.get r → u.moves = m :: rest → gun = m.position - (s.setup.rails.get r).gunOffset → u.queue = fired ++ kept →
    (m.motion = .forward → (∀ k ∈ fired, k.target ≤ gun) → (∀ k, kept.head? = some k → gun < k.target) → fired ≠ [] →
      exec (.carPositionChange r) s = .next
        { s with
          marking := s.marking.set r
            { u with
              gun := gun, moves := rest, queue := kept
              sprayEnd := some (s.now + (s.setup.rails.get r).spray * 100000) }
          line := s.line.hear (fired.zipIdx.map (fun x =>
            .offer (.mark ⟨r, .fired, x.1.finding, x.1.target, none, x.1.merged, some gun, u.queue.length - 1 - x.2⟩)))
          router := s.router.hear (if u.sprayEnd.isSome then [] else [.gun r true]) }) ∧
    ((m.motion ≠ .forward ∨ ∀ k, u.queue.head? = some k → gun < k.target) →
      exec (.carPositionChange r) s = .next
        { s with marking := s.marking.set r { u with gun := gun, moves := rest } })

/-- A mark request: LATE at or below the gun; MERGED into the nearest mark within the merge distance, the lower target on
equal distance, whose count rises; FULL with sixteen marks; else QUEUED where its target falls in ascending order. -/
def Obligations.AMarkRequestIsJudged : Prop :=
  ∀ (s : State) (r : Rail) (q : MarkRequest) (rest : List MarkRequest) (u : MarkingUnit) (w : Nat),
    u = s.marking.get r → u.requests = q :: rest → w = (s.setup.rails.get r).merge →
    (u.queue.map Mark.target).Pairwise (· < ·) →
    (q.target ≤ u.gun →
      exec (.markRequest r) s = .next
        { s with
          marking := s.marking.set r { u with requests := rest }
          line := s.line.hear
            [.offer (.mark ⟨r, .late, q.finding, q.target, none, 0, some u.gun, u.queue.length⟩)] }) ∧
    (∀ (as bs : List Mark) (m : Mark), u.gun < q.target → u.queue = as ++ m :: bs → (m.target - q.target).natAbs ≤ w →
      (∀ k ∈ as, (m.target - q.target).natAbs < (k.target - q.target).natAbs) →
      (∀ k ∈ bs, (m.target - q.target).natAbs ≤ (k.target - q.target).natAbs) → m.merged ≤ 255 →
      exec (.markRequest r) s = .next
        { s with
          marking := s.marking.set r
            { u with requests := rest, queue := as ++ { m with merged := min 255 (m.merged + 1) } :: bs }
          line := s.line.hear
            [.offer (.mark ⟨r, .merged, q.finding, q.target, some ⟨m.finding, m.target⟩, 0, none, u.queue.length⟩)] }) ∧
    (u.gun < q.target → (∀ k ∈ u.queue, w < (k.target - q.target).natAbs) →
      (16 ≤ u.queue.length →
        exec (.markRequest r) s = .next
          { s with
            marking := s.marking.set r { u with requests := rest }
            line := s.line.hear
              [.offer (.mark ⟨r, .full, q.finding, q.target, none, 0, none, u.queue.length⟩)] }) ∧
      (∀ as bs : List Mark, u.queue.length < 16 → u.queue = as ++ bs → (∀ k ∈ as, k.target < q.target) →
        (∀ k ∈ bs, q.target < k.target) →
        exec (.markRequest r) s = .next
          { s with
            marking := s.marking.set r { u with requests := rest, queue := as ++ ⟨q.target, q.finding, 0⟩ :: bs }
            line := s.line.hear
              [.offer (.mark ⟨r, .queued, q.finding, q.target, none, 0, none, u.queue.length + 1⟩)] }))

/-! ### The signal router -/

/-- A spray end closes the valve and the gun state goes to the signal router; a stretch end stops the line's timer; each
at its own time and nothing else. A pulse starts or restarts the stretch timer of each line routed to its source, to end
one stretch time from now; other lines keep theirs. A FINDING pulse feeds its rail's source and FINDING_ANY, a SKIP pulse
feeds SKIP. A state handover at the signal router replaces what it held of that state and nothing else. Choices of the
model that it rests on: logs 2, 3. -/
def Obligations.TheRouterTakesItsInputs : Prop :=
  (∀ (s : State) (t : Nat),
      (∀ r, (s.marking.get r).sprayEnd = some t →
        exec (.sprayEnd r) s = .next
          { s with
            now := max s.now t
            marking := s.marking.set r { s.marking.get r with sprayEnd := none }
            router := s.router.hear [.gun r false] }) ∧
      (∀ l : SignalLine, s.router.stretchEnd[l] = some t →
        exec (.stretchEnd l) s = .next
          { s with now := max s.now t, router := { s.router with stretchEnd := setAt s.router.stretchEnd l none } })) ∧
  (∀ (s : State) (p : Pulse) (rest : List Pulse), s.router.pulses = p :: rest →
      exec .signalPulse s = .next
        { s with
          router :=
            { s.router with
              pulses := rest
              stretchEnd := Vector.ofFn (fun l =>
                if (p = .finding .left ∧ (s.setup.signals.routes[l].source = .findingLeft ∨ s.setup.signals.routes[l].source = .findingAny)) ∨
                    (p = .finding .right ∧ (s.setup.signals.routes[l].source = .findingRight ∨ s.setup.signals.routes[l].source = .findingAny)) ∨
                    (p = .skip ∧ s.setup.signals.routes[l].source = .skip) then
                  some (s.now + s.setup.signals.routes[l].stretch * 100000)
                else s.router.stretchEnd[l]) } }) ∧
  (∀ (s : State) (h : LevelHandover) (rest : List LevelHandover) (v : RouterView), s.router.levels = h :: rest →
      v = s.router.view →
      exec .signalLevelChange s = .next
        { s with
          router :=
            { s.router with
              levels := rest
              view :=
                match h with
                | .coupling r ch st => { v with coupling := v.coupling.set r (setAt (v.coupling.get r) ch st) }
                | .gun r b => { v with spraying := v.spraying.set r b }
                | .speed n => { v with speed := n }
                | .silence b => { v with silence := b }
                | .runState st => { v with runState := st } } })

/-- When a line is active: a level source while its condition holds, a pulse source while its stretch timer runs. A line
is driven on while it is active with invert OFF, and while it is inactive with invert ON. -/
def Obligations.TheSignalLinesAreDriven : Prop :=
  (∀ (s : State) (l : SignalLine) (v : RouterView), v = s.router.view →
      (s.setup.signals.routes[l].source = .off → s.lineActive l = false) ∧
      (s.setup.signals.routes[l].source = .on → s.lineActive l = true) ∧
      (s.setup.signals.routes[l].source = .uncoupledLeft →
        (s.lineActive l = true ↔ ∃ ch : Channel, v.coupling.left[ch] = .uncoupled)) ∧
      (s.setup.signals.routes[l].source = .uncoupledRight →
        (s.lineActive l = true ↔ ∃ ch : Channel, v.coupling.right[ch] = .uncoupled)) ∧
      (s.setup.signals.routes[l].source = .allCoupled →
        (s.lineActive l = true ↔
          (∀ r (ch : Channel), (v.coupling.get r)[ch] = .coupled ∨ (v.coupling.get r)[ch] = .inactive) ∧
            ∃ r, ∃ ch : Channel, (v.coupling.get r)[ch] = .coupled)) ∧
      (s.setup.signals.routes[l].source = .sprayLeft → s.lineActive l = v.spraying.left) ∧
      (s.setup.signals.routes[l].source = .sprayRight → s.lineActive l = v.spraying.right) ∧
      (s.setup.signals.routes[l].source = .overspeed → s.lineActive l = decide (s.setup.signals.speedLimit < v.speed)) ∧
      (s.setup.signals.routes[l].source = .hostSilent → s.lineActive l = v.silence) ∧
      (s.setup.signals.routes[l].source = .running → s.lineActive l = decide (v.runState = .running)) ∧
      (s.setup.signals.routes[l].source ∈ [Source.findingLeft, .findingRight, .findingAny, .skip] →
        s.lineActive l = s.router.stretchEnd[l].isSome)) ∧
  (∀ (s : State) (l : SignalLine), s.lineDriven l = true ↔
      (s.lineActive l = true ∧ s.setup.signals.routes[l].invert = false) ∨
        (s.lineActive l = false ∧ s.setup.signals.routes[l].invert = true))

/-- SET_SIGNALS in the order RANGE with the first failing line, then BUSY; taken, the stretch timer of each line whose
source changes stops, and the reply carries the settings in force. A line's route as SET_SIGNALS makes it of its fields:
source and invert flag within their sets by number, the stretch time brought to the nearest limit. Choices of the model
that it rests on: logs 4, 12. -/
def Obligations.SetSignalsReplacesTheRoutes : Prop :=
  (∀ (s : State) (q : SignalFields) (f : Frame) (rest : List Frame), requestWaits s .setSignals 18 f rest →
      (∀ k, k < 4 → (∀ j, j < k → ∃ x, ([q.line1, q.line2, q.line3, q.line4].map RouteFields.clamp)[j]? = some (some x)) →
        ([q.line1, q.line2, q.line3, q.line4].map RouteFields.clamp)[k]? = some none →
        answersOnly (.setSignals q) s f rest .range (k + 1) (.signals s.setup.signals)) ∧
      (∀ a b c d : Route, q.line1.clamp = some a → q.line2.clamp = some b → q.line3.clamp = some c → q.line4.clamp = some d →
        (s.run.writing ≠ none → answersOnly (.setSignals q) s f rest .busy 0 (.signals s.setup.signals)) ∧
        (∀ new : SignalSettings, s.run.writing = none → new = ⟨#v[a, b, c, d], (max 0 (min 2000 q.speedLimit)).toNat⟩ →
          exec (.setSignals q) s = .next
            { s with
              setup := { s.setup with signals := new }
              router :=
                { s.router with
                  stretchEnd := Vector.ofFn (fun l =>
                    if s.setup.signals.routes[l].source = new.routes[l].source then s.router.stretchEnd[l] else none) }
              line := answeredLine s.line f rest
                (if [q.line1.stretch, q.line2.stretch, q.line3.stretch, q.line4.stretch].all (fun v => decide (1 ≤ v ∧ v ≤ 1000)) &&
                    decide (0 ≤ q.speedLimit ∧ q.speedLimit ≤ 2000) then .ok else .clamped) 0 (.signals new) }))) ∧
  (∀ x : RouteFields,
      (x.clamp = none ↔ 14 ≤ x.source ∨ 2 ≤ x.invert) ∧
      ∀ y, x.clamp = some y →
        [Source.off, .on, .uncoupledLeft, .uncoupledRight, .allCoupled, .sprayLeft, .sprayRight, .overspeed, .hostSilent, .running,
          .findingLeft, .findingRight, .findingAny, .skip][x.source]? = some y.source ∧
        y.invert = decide (x.invert = 0) ∧ (y.stretch : Int) = max 1 (min 1000 x.stretch))

/-! ### Calibration and verification -/

/-- CAL_CHANNEL that passes its checks: the run state becomes CALIBRATING, the rail's firing unit is placed in CALIBRATE
mode and the step's first firing starts at once, at the car position, the next one due 1 ms later. Otherwise the first
check that fails decides the code: RANGE, BUSY, STATE, CONFLICT, ORDER. Choices of the model that it rests on: logs 4, 22,
28. -/
def Obligations.CalChannelBeginsAStep : Prop :=
  ∀ (s : State) (q : CalFields) (f : Frame) (rest : List Frame), requestWaits s .calChannel 4 f rest →
    ((f.rail = none ∨ f.channel = none ∨ q.gate = 0 ∨ 3 < q.gate ∨ q.step = 0 ∨ 2 < q.step) →
      answersOnly (.calChannel q) s f rest .range 0 .headOnly) ∧
    ∀ (r : Rail) (ch : Channel) (g : Gate), f.rail = some r → f.channel = some ch → q.gate = g.val + 1 →
      (q.step = 1 ∨ q.step = 2) →
      (((s.channel r ch).gates[g] = none ∨ ∃ y, (s.channel r ch).gates[g] = some y ∧ y.mode = .absent) →
        answersOnly (.calChannel q) s f rest .range 0 .headOnly) ∧
      ∀ (y : FlawGate) (depth : Nat), (s.channel r ch).gates[g] = some y → y.mode ≠ .absent →
        depth = (max 0 (min 2500 q.depth)).toNat →
        (s.run.writing ≠ none → answersOnly (.calChannel q) s f rest .busy 0 .headOnly) ∧
        (s.run.writing = none → s.run.state ≠ .stopped → answersOnly (.calChannel q) s f rest .state 0 .headOnly) ∧
        (s.run.writing = none → s.run.state = .stopped →
          ((s.channel r ch).listen ≤ (s.channel r ch).interfaceStart ∨ (s.channel r ch).listen ≤ y.start) →
          answersOnly (.calChannel q) s f rest .conflict 0 .headOnly) ∧
        (s.run.writing = none → s.run.state = .stopped → (s.channel r ch).interfaceStart < (s.channel r ch).listen →
          y.start < (s.channel r ch).listen →
          (q.step = 2 → (∀ p, s.run.pendingPoint = some p → ¬(p.rail = r ∧ p.channel = ch ∧ p.gate = g ∧ p.depth < depth)) →
            answersOnly (.calChannel q) s f rest .order 0 .headOnly) ∧
          ((q.step = 1 ∨ ∃ p, s.run.pendingPoint = some p ∧ p.rail = r ∧ p.channel = ch ∧ p.gate = g ∧ p.depth < depth) →
            exec (.calChannel q) s = .next
              { s with
                run :=
                  { s.run with
                    state := .calibrating, operation := some (.calibration ⟨r, ch, g, decide (q.step = 2), depth, 0, none⟩)
                    nextFiring := s.now + 100000 }
                firing := s.firing.set r
                  { s.firing.get r with
                    mode := .calibrate, generators := Vector.replicate 4 none
                    operationFlight := some (s.operationFlightAt r ch s.now) }
                line := answeredLine (s.line.hear [.change .runState]) f rest
                  (if 0 ≤ q.depth ∧ q.depth ≤ 2500 then .ok else .clamped) 0 (.calDepth depth)
                router := s.router.hear [.runState .calibrating] }))

/-- VERIFY that passes its checks: VERIFYING, the generators of the rail's four lanes set to the two echoes, the channels
taken in order of first appearance in the active plan, and the first of them fired at once; the reply carries the five
fields as taken. Otherwise RANGE, BUSY, STATE or CONFLICT for an empty plan. Choices of the model that it rests on: logs
4, 22, 28. -/
def Obligations.VerifyBeginsAVerification : Prop :=
  ∀ (s : State) (q : VerifyFields) (f : Frame) (rest : List Frame), requestWaits s .verify 8 f rest →
    (f.rail = none → answersOnly (.verify q) s f rest .range 0 .headOnly) ∧
    ∀ (r : Rail) (e : TestEcho), f.rail = some r →
      e = ⟨(max 0 (min 8000 q.d1)).toNat, (max 0 (min 4095 q.a1)).toNat, (max 0 (min 8000 q.d2)).toNat,
        (max 0 (min 4095 q.a2)).toNat⟩ →
      (s.run.writing ≠ none → answersOnly (.verify q) s f rest .busy 0 .headOnly) ∧
      (s.run.writing = none → s.run.state ≠ .stopped → answersOnly (.verify q) s f rest .state 0 .headOnly) ∧
      (s.run.writing = none → s.run.state = .stopped → s.setup.plans.get r = [] →
        answersOnly (.verify q) s f rest .conflict 0 .headOnly) ∧
      ∀ (order : List Channel) (ch : Channel) (more : List Channel), s.run.writing = none → s.run.state = .stopped →
        s.setup.plans.get r ≠ [] → order = (s.setup.plans.get r).flatten.reverse.dedup.reverse → order = ch :: more →
        exec (.verify q) s = .next
          { s with
            run :=
              { s.run with
                state := .verifying, operation := some (.verification ⟨r, e, order, []⟩), nextFiring := s.now + 100000 }
            firing := s.firing.set r
              { s.firing.get r with
                mode := .verify, generators := Vector.replicate 4 (some e)
                operationFlight := some (s.operationFlightAt r ch s.now) }
            line := answeredLine (s.line.hear [.change .runState]) f rest
              (if 0 ≤ q.d1 ∧ q.d1 ≤ 8000 ∧ 0 ≤ q.a1 ∧ q.a1 ≤ 4095 ∧ 0 ≤ q.d2 ∧ q.d2 ≤ 8000 ∧ 0 ≤ q.a2 ∧ q.a2 ≤ 4095 then .ok
                else .clamped) 0 (.verification r e)
            router := s.router.hear [.runState .verifying] }

/-- A calibration firing completes: the named gate's hit becomes the best when its amplitude is strictly greater. After
the sixteenth the step ends: step 1 keeps its point or answers NO_ECHO; step 2 answers NO_ECHO, ORDER for points less than
16 samples apart, RANGE for a Kd or Z outside its range, or DONE with the new Kd and Z, and drops the pending point. The
sixteenth changes nothing while something handed to the line interface waits: the model's choice (log 8). Choices of the
model that it rests on: logs 3, 8, 10, 20, 22. -/
def Obligations.ACalibrationFiringCompletes : Prop :=
  ∀ (s : State) (signal : List Nat) (c d : CalStep) (f : OperationFlight) (o : GateOutcome),
    s.run.operation = some (.calibration c) → (s.firing.get c.rail).operationFlight = some f →
    o = (gateResult f.fired.record (recorded f.fired.record.listen signal)).outcomes[c.gate] →
    d.rail = c.rail → d.channel = c.channel → d.gate = c.gate → d.second = c.second → d.depth = c.depth → d.done = c.done + 1 →
    (∀ h, o = .hit h → (c.best = none ∨ ∃ b, c.best = some b ∧ b.amplitude < h.amplitude) → d.best = some h) →
    (∀ h b, o = .hit h → c.best = some b → h.amplitude ≤ b.amplitude → d.best = c.best) →
    ((∀ h, o ≠ .hit h) → d.best = c.best) →
    (d.done < 16 →
      exec (.calFiringCompletion signal) s = .next
        { s with
          now := max s.now f.endTime
          firing := s.firing.set c.rail { s.firing.get c.rail with operationFlight := none }
          run := { s.run with operation := some (.calibration d) } }) ∧
    (d.done = 16 → s.line.inbox ≠ [] → exec (.calFiringCompletion signal) s = .next s) ∧
    (d.done = 16 → s.line.inbox = [] → s.run.state = .calibrating →
      (c.second = false →
        (d.best = none → exec (.calFiringCompletion signal) s = .next
          (s.afterOperation c.rail f.endTime (calResultOf d (s.channel c.rail c.channel) .noEcho none none))) ∧
        (∀ h, d.best = some h → exec (.calFiringCompletion signal) s = .next
          (({ s with run := { s.run with pendingPoint := some ⟨c.rail, c.channel, c.gate, c.depth, h.time⟩ } } : State).afterOperation
            c.rail f.endTime (calResultOf d (s.channel c.rail c.channel) .step1Done (some h) none)))) ∧
      (∀ p : CalPoint, c.second = true → s.run.pendingPoint = some p →
        ∀ t : State, t = { s with run := { s.run with pendingPoint := none } } →
        (d.best = none → exec (.calFiringCompletion signal) s = .next
          (t.afterOperation c.rail f.endTime
            (calResultOf d (s.channel c.rail c.channel) .noEcho none (some (p.depth, p.time))))) ∧
        (∀ h, d.best = some h → h.time < p.time + 16 → exec (.calFiringCompletion signal) s = .next
          (t.afterOperation c.rail f.endTime
            (calResultOf d (s.channel c.rail c.channel) .order (some h) (some (p.depth, p.time))))) ∧
        (∀ (h : Hit) (kd z : Int) (x : ChannelRecord), d.best = some h → p.time + 16 ≤ h.time →
          kd = roundDiv (((c.depth : Int) - p.depth) * 65536) (h.time - p.time) →
          z = (p.time : Int) - roundDiv ((p.depth : Int) * 65536) kd.toNat →
          x = { s.channel c.rail c.channel with kd := kd.toNat, zero := z } →
          ((kd < 1 ∨ 65535 < kd ∨ z < -512 ∨ 1023 < z) → exec (.calFiringCompletion signal) s = .next
            (t.afterOperation c.rail f.endTime
              (calResultOf d (s.channel c.rail c.channel) .range (some h) (some (p.depth, p.time))))) ∧
          (1 ≤ kd → kd ≤ 65535 → -512 ≤ z → z ≤ 1023 → exec (.calFiringCompletion signal) s = .next
            (({ t with
                setup :=
                  { s.setup with
                    channels := s.setup.channels.set c.rail (setAt (s.setup.channels.get c.rail) c.channel x) } } : State).afterOperation
              c.rail f.endTime (calResultOf d x .done (some h) (some (p.depth, p.time))))))))

/-- The next firing of a calibration step or of a verification starts when its 1 ms interval has elapsed. That a firing
waits for the one before it to complete is the model's choice (log 22). A verification firing completes: the lane's
generator gives the samples, the channel's gate result is entered, and after the last channel the VERIFY_RESULT is offered
with its signature and the run state becomes STOPPED. The last completion changes nothing while something handed to the
line interface waits: the model's choice (log 8). The signature: the CRC-16 over eight values an entry, in channel
order, each fed high byte first: the channel, the interface time, and the time and amplitude of each flaw gate; 0xFFFF for
a time that is none and 0 for an amplitude that is none. Choices of the model that it rests on: logs 3, 8, 22. -/
def Obligations.OperationFiringsStartAndVerify : Prop :=
  (∀ (s : State) (start : Nat), start = max s.now s.run.nextFiring →
      (∀ c : CalStep, s.run.operation = some (.calibration c) → c.done < 16 → (s.firing.get c.rail).operationFlight = none →
        exec .calFiringStart s = .next
          { s with
            now := start
            firing := s.firing.set c.rail
              { s.firing.get c.rail with operationFlight := some (s.operationFlightAt c.rail c.channel start) }
            run := { s.run with nextFiring := start + 100000 } }) ∧
      (∀ (v : Verification) (ch : Channel), s.run.operation = some (.verification v) → v.order[v.results.length]? = some ch →
        (s.firing.get v.rail).operationFlight = none →
        exec .verifyFiringStart s = .next
          { s with
            now := start
            firing := s.firing.set v.rail
              { s.firing.get v.rail with operationFlight := some (s.operationFlightAt v.rail ch start) }
            run := { s.run with nextFiring := start + 100000 } })) ∧
  (∀ (s : State) (v w : Verification) (f : OperationFlight) (e : TestEcho) (x : ChannelRecord) (res : GateResult),
      s.run.operation = some (.verification v) → (s.firing.get v.rail).operationFlight = some f → x = f.fired.record →
      (s.firing.get v.rail).generators[x.lane] = some e →
      res = gateResult x ((List.range x.listen).map (fun k =>
        max (if e.d1 ≤ k ∧ k ≤ e.d1 + 7 then e.a1 else 0) (if e.d1 + e.d2 ≤ k ∧ k ≤ e.d1 + e.d2 + 7 then e.a2 else 0))) →
      w = { v with
        results := v.results ++ [⟨f.fired.channel, res.interface.map Hit.time, Vector.ofFn (fun g =>
          match res.outcomes[g] with
          | .hit h => some h
          | _ => none)⟩] } →
      (w.results.length < w.order.length →
        exec .verifyFiringCompletion s = .next
          { s with
            now := max s.now f.endTime
            firing := s.firing.set v.rail { s.firing.get v.rail with operationFlight := none }
            run := { s.run with operation := some (.verification w) } }) ∧
      (w.order.length ≤ w.results.length → s.line.inbox ≠ [] → exec .verifyFiringCompletion s = .next s) ∧
      (w.order.length ≤ w.results.length → s.line.inbox = [] → s.run.state = .verifying →
        exec .verifyFiringCompletion s = .next
          (s.afterOperation v.rail f.endTime (.verifyResult ⟨v.rail, v.echo, w.results, some (signature w.results)⟩)))) ∧
  (∀ (es : List VerifyEntry) (hit : Option Hit → List Nat), hit none = [0xFFFF, 0] → (∀ h, hit (some h) = [h.time, h.amplitude]) →
      signature es = crc16
        ((es.flatMap (fun e => e.channel.val :: e.interface.getD 0xFFFF :: (hit e.hits[0] ++ hit e.hits[1] ++ hit e.hits[2]))).flatMap
          (fun n => [BitVec.ofNat 8 (n / 256), BitVec.ofNat 8 n])))

/-! ### Runs and the setup store -/

/-- RUN_START, RUN_STOP and FLUSH with their checks. RUN_START sets both pointers to 0 with the units IDLE and every
channel's coverage anew; RUN_STOP drops held requests, cancels pending snapshots and lets an idle rail drain at once;
FLUSH hands each rail a flush notice. RUN_START hands the changes of coupling state on before the change of run state: the
model's choice (log 45). Choices of the model that it rests on: logs 2, 14, 28, 35, 36, 45. -/
def Obligations.RunsStartStopAndFlush : Prop :=
  ∀ (s : State) (f : Frame) (rest : List Frame),
    (requestWaits s .runStart 0 f rest →
      (s.run.state ≠ .stopped → answersOnly .runStart s f rest .state 0 .headOnly) ∧
      (s.run.state = .stopped → s.run.writing ≠ none → answersOnly .runStart s f rest .busy 0 .headOnly) ∧
      (s.run.state = .stopped → s.run.writing = none → s.setup.plans.left = [] → s.setup.plans.right = [] →
        answersOnly .runStart s f rest .conflict 0 .headOnly) ∧
      (s.run.state = .stopped → s.run.writing = none → (s.setup.plans.left ≠ [] ∨ s.setup.plans.right ≠ []) →
        exec .runStart s = .next
          { s with
            firing := ⟨{ s.firing.left with pointer := 0, flight := none, held := none },
              { s.firing.right with pointer := 0, flight := none, held := none }⟩
            echo := ⟨s.echo.left.anew s.setup.plans.left, s.echo.right.anew s.setup.plans.right⟩
            run := { s.run with state := .running }
            line := answeredLine
              (s.line.hear (anewItems .left s.echo.left s.setup.plans.left ++ anewItems .right s.echo.right s.setup.plans.right ++
                [.change .runState])) f rest .ok 0 .headOnly
            router := s.router.hear (anewLevels .left s.echo.left s.setup.plans.left ++
              anewLevels .right s.echo.right s.setup.plans.right ++ [.runState .running]) })) ∧
    (requestWaits s .runStop 0 f rest →
      (s.run.state ≠ .running → answersOnly .runStop s f rest .state 0 .headOnly) ∧
      ∀ stopped : FiringUnit → EchoProcessor → EchoProcessor,
        (∀ u e, stopped u e = { e with snapshot := .idle, inbox := e.inbox ++ if u.flight = none then [.drain] else [] }) →
        s.run.state = .running →
        exec .runStop s = .next
          { s with
            firing := ⟨{ s.firing.left with held := none }, { s.firing.right with held := none }⟩
            echo := ⟨stopped s.firing.left s.echo.left, stopped s.firing.right s.echo.right⟩
            run := { s.run with state := .draining, drained := ⟨false, false⟩ }
            line := answeredLine
              (s.line.hear (.change .runState ::
                ((s.echo.left.snapshot.channel.toList.map (fun ch => .offer (.snapshot (.cancelled .left ch)))) ++
                  s.echo.right.snapshot.channel.toList.map (fun ch => .offer (.snapshot (.cancelled .right ch)))))) f rest
              .ok 0 .headOnly
            router := s.router.hear [.runState .draining] }) ∧
    (requestWaits s .flush 0 f rest →
      (s.run.state ≠ .running → answersOnly .flush s f rest .state 0 .headOnly) ∧
      (s.run.state = .running →
        exec .flush s = .next
          { s with
            echo := ⟨{ s.echo.left with inbox := s.echo.left.inbox ++ [.flush] },
              { s.echo.right with inbox := s.echo.right.inbox ++ [.flush] }⟩
            line := answeredLine s.line f rest .ok 0 .headOnly }))

/-- RESTART is refused BUSY while the store is WRITING. Taken, the run state is STOPPED with no operation and no pending
point; the report queue, the bundle, the tag, the change set and every counter are cleared; groups in flight, traces,
findings, stretches, staged plans, marks and landmarks are gone; the setup, travel, gun positions, input buffer and reply
queue stay. The first items handed on are the record of an operation in flight and the change of run state, before the CANCELLED
records and the changes of coupling state, and of these each rail's CANCELLED record comes before its changes of coupling state:
the model's choice (log 43). Choices of the model that it rests on: logs 7, 10, 14, 28,
36, 43. -/
def Obligations.RestartClearsTheUnit : Prop :=
  ∀ (s : State) (f : Frame) (rest : List Frame), requestWaits s .restart 0 f rest →
    (s.run.writing ≠ none → answersOnly .restart s f rest .busy 0 .headOnly) ∧
    (s.run.writing = none → ∃ t, exec .restart s = .next t ∧
      t.setup = s.setup ∧ t.travel = s.travel ∧ t.now = s.now ∧
      t.run = { s.run with
        state := .stopped, drained := ⟨false, false⟩, operation := none, pendingPoint := none, suppressed := 0
        drainNotices := ⟨false, false⟩ } ∧
      (∀ r, t.firing.get r = { State.reset.firing.get r with pitchEvents := (s.firing.get r).pitchEvents } ∧
        t.tracker.get r = State.reset.tracker.get r ∧ t.assembler.get r = State.reset.assembler.get r ∧
        t.echo.get r = { (s.echo.get r).anew (s.setup.plans.get r) with snapshot := .idle, inbox := [] } ∧
        t.marking.get r = { s.marking.get r with queue := [], sprayEnd := none }) ∧
      t.landmarks = { s.landmarks with entries := [] } ∧
      (∀ l : SignalLine, t.router.stretchEnd[l] = none) ∧ t.router.view = s.router.view ∧ t.router.pulses = s.router.pulses ∧
      t.router.levels = s.router.levels ++ onChange s.run.state .stopped (.runState .stopped) ++
        anewLevels .left s.echo.left s.setup.plans.left ++ anewLevels .right s.echo.right s.setup.plans.right ++
        onChange s.marking.left.sprayEnd.isSome false (.gun .left false) ++
        onChange s.marking.right.sprayEnd.isSome false (.gun .right false) ∧
      t.line = answeredLine
        { s.line with
          queue := [], bundle := ⟨.empty, 0, none⟩, tag := 0, changes := ⟨false, false, false, false, ⟨0, 0⟩⟩
          frameErrors := 0, overruns := 0, dropped := 0, lost := 0, loss := false
          inbox :=
            (match s.run.operation with
              | none => []
              | some (.calibration c) =>
                [.offer (.calResult ⟨c.rail, c.channel, c.gate, c.second, .aborted, c.depth, none, c.done,
                  if c.second then s.run.pendingPoint.map (fun p => (p.depth, p.time)) else none,
                  (s.channel c.rail c.channel).kd, (s.channel c.rail c.channel).zero, (s.channel c.rail c.channel).ka⟩)]
              | some (.verification v) => [.offer (.verifyResult ⟨v.rail, v.echo, v.results, none⟩)]) ++
            onChange s.run.state .stopped (.change .runState) ++
            s.echo.left.snapshot.channel.toList.map (fun ch => .offer (.snapshot (.cancelled .left ch))) ++
            anewItems .left s.echo.left s.setup.plans.left ++
            s.echo.right.snapshot.channel.toList.map (fun ch => .offer (.snapshot (.cancelled .right ch))) ++
            anewItems .right s.echo.right s.setup.plans.right ++
            discardedItems .left s.marking.left.queue ++ discardedItems .right s.marking.right.queue } f rest .ok 0 .headOnly)

/-- SETUP_SAVE starts writing the setup as it stands, the old image being erased; its completion leaves that image valid
when the read-back matched and no valid image otherwise, with the SETUP_RESULT record. SETUP_RELOAD in the order STATE,
BUSY, INVALID; taken, every setting is the image's and each block takes its part as its own rule gives: motion by the new
standstill time, staged plans absent with pointers 0, coverage anew, the timers of changed sources stopped, an OPEN bundle
above the new cap READY, both line timers restarted, the pending point gone and the source STORED; the line's queue,
counters, tag and change set stay. That a reload hands its change of motion on first, then the changes of coupling state, then that
of the silence state is the model's choice (log 42). Choices of the model that it rests on: logs 6, 14, 18, 21, 28, 29, 36, 42. -/
def Obligations.TheSetupIsSavedAndReloaded : Prop :=
  (∀ s : State,
      (∀ (f : Frame) (rest : List Frame), requestWaits s .setupSave 0 f rest →
        (s.run.state ≠ .stopped → answersOnly .setupSave s f rest .state 0 .headOnly) ∧
        (s.run.state = .stopped → s.run.writing ≠ none → answersOnly .setupSave s f rest .busy 0 .headOnly) ∧
        (s.run.state = .stopped → s.run.writing = none →
          exec .setupSave s = .next
            { s with
              run := { s.run with writing := some s.setup, image := none }
              line := answeredLine s.line f rest .ok 0 .headOnly })) ∧
      (∀ (image : Setup) (matched : Bool), s.run.writing = some image →
        exec (.setupSaveComplete matched) s = .next
          { s with
            run := { s.run with writing := none, image := if matched then some image else none }
            line := s.line.hear [.offer (.setupResult matched)] })) ∧
  (∀ (s : State) (f : Frame) (rest : List Frame), requestWaits s .setupReload 0 f rest →
      (s.run.state ≠ .stopped → answersOnly .setupReload s f rest .state 0 .headOnly) ∧
      (s.run.state = .stopped → s.run.writing ≠ none → answersOnly .setupReload s f rest .busy 0 .headOnly) ∧
      (s.run.state = .stopped → s.run.writing = none → s.run.image = none →
        answersOnly .setupReload s f rest .invalid 0 .headOnly) ∧
      (∀ (image : Setup) (m : Motion), s.run.state = .stopped → s.run.writing = none → s.run.image = some image →
        m = (if s.travel.lastCount.any (fun k => decide (image.travel.standstill * 100000 < s.now - k)) then .standstill
          else s.travel.motion) →
        ∃ t, exec .setupReload s = .next t ∧ t.setup = image ∧ t.now = s.now ∧ t.travel = { s.travel with motion := m } ∧
          t.marking = s.markingAt m ∧ t.run = { s.run with pendingPoint := none, source := .stored } ∧
          (∀ r, t.firing.get r = { s.firing.get r with staged := none, pointer := 0 } ∧
            t.echo.get r = (s.echo.get r).anew (image.plans.get r)) ∧
          t.router =
            { s.router with
              stretchEnd := Vector.ofFn (fun l =>
                if s.setup.signals.routes[l].source = image.signals.routes[l].source then s.router.stretchEnd[l] else none)
              levels := s.router.levels ++ anewLevels .left s.echo.left image.plans.left ++
                anewLevels .right s.echo.right image.plans.right ++
                (if image.reporting.silenceLimit = 0 then onChange s.line.silence false (.silence false) else []) } ∧
          t.line = answeredLine
            { s.line with
              bundle :=
                if s.line.bundle.state = .open ∧ image.reporting.cap < bodyLength (s.line.queue.take s.line.bundle.held) then
                  { s.line.bundle with state := .ready, flushEnd := none }
                else s.line.bundle
              silence := if image.reporting.silenceLimit = 0 then false else s.line.silence
              statusEnd :=
                if image.reporting.statusInterval = 0 then none else some (s.now + image.reporting.statusInterval * 100000)
              silenceEnd :=
                if image.reporting.silenceLimit = 0 then none else some (s.now + image.reporting.silenceLimit * 100000000)
              inbox := s.line.inbox ++ onChange s.travel.motion m (.change .motion) ++
                anewItems .left s.echo.left image.plans.left ++ anewItems .right s.echo.right image.plans.right ++
                (if image.reporting.silenceLimit = 0 then onChange s.line.silence false (.change .silence) else []) }
            f rest .ok 0 .headOnly))

/-! ### The host line -/

/-- What each byte does to the frame receiver: the two sync bytes, the length, the body and the CRC move it on; a valid
CRC accepts the frame; a length out of range, a wrong CRC, a byte without its stop bit inside a frame and an inter-byte
gap there discard it; outside a frame a byte without its stop bit only sends the receiver back to HUNT. Choices of the
model that it rests on: logs 2, 5, 23. -/
def Obligations.BytesMakeFrames : Prop :=
  ∀ (s : State) (b : Byte),
    (∀ x : Receiver,
      ((s.line.receiver = .hunt ∧ b = 0xC3#8 ∧ x = .sync) ∨ (s.line.receiver = .hunt ∧ b ≠ 0xC3#8 ∧ x = .hunt) ∨
        (s.line.receiver = .sync ∧ b = 0x5A#8 ∧ x = .length none) ∨ (s.line.receiver = .sync ∧ b = 0xC3#8 ∧ x = .sync) ∨
        (s.line.receiver = .sync ∧ b ≠ 0x5A#8 ∧ b ≠ 0xC3#8 ∧ x = .hunt) ∨
        (s.line.receiver = .length none ∧ x = .length (some b)) ∨
        (∃ h : Byte, s.line.receiver = .length (some h) ∧ 4 ≤ h.toNat * 256 + b.toNat ∧ h.toNat * 256 + b.toNat ≤ 2040 ∧
          x = .body h b []) ∨
        (∃ (h l : Byte) (got : List Byte), s.line.receiver = .body h l got ∧ got.length + 1 < h.toNat * 256 + l.toNat ∧
          x = .body h l (got ++ [b])) ∨
        (∃ (h l : Byte) (got : List Byte), s.line.receiver = .body h l got ∧ h.toNat * 256 + l.toNat ≤ got.length + 1 ∧
          x = .check h l (got ++ [b]) none) ∨
        (∃ (h l : Byte) (whole : List Byte), s.line.receiver = .check h l whole none ∧ x = .check h l whole (some b))) →
      exec (.lineByteReceived b true) s = .next { s with line := { s.line with receiver := x } }) ∧
    (∀ (h l c : Byte) (whole : List Byte), s.line.receiver = .check h l whole (some c) → crc16 (h :: l :: whole) = c ++ b →
      exec (.lineByteReceived b true) s = .next (s.accepting whole) ∧ exec (.frameReceived b) s = .next (s.accepting whole)) ∧
    (∀ stop : Bool,
      ((stop = true ∧ ∃ h : Byte, s.line.receiver = .length (some h) ∧
          (h.toNat * 256 + b.toNat < 4 ∨ 2040 < h.toNat * 256 + b.toNat)) ∨
        (stop = true ∧ ∃ (h l c : Byte) (whole : List Byte), s.line.receiver = .check h l whole (some c) ∧
          crc16 (h :: l :: whole) ≠ c ++ b) ∨
        (stop = false ∧ s.line.receiver ≠ .hunt ∧ s.line.receiver ≠ .sync)) →
      exec (.lineByteReceived b stop) s = .next s.discarding ∧ exec (.frameError b stop) s = .next s.discarding) ∧
    ((s.line.receiver = .hunt ∨ s.line.receiver = .sync) →
      exec (.lineByteReceived b false) s = .next { s with line := { s.line with receiver := .hunt } } ∧
      exec .interByteTimeout s = .next s) ∧
    (s.line.receiver ≠ .hunt → s.line.receiver ≠ .sync → exec .interByteTimeout s = .next s.discarding)

/-- A waiting request whose kind names none is answered UNKNOWN; one whose body is not as long as its fields declare is
answered LENGTH, changing nothing else; and no request of any kind leaves the buffer while four replies wait. The request
kinds are numbered from 0x01 in the order of section 11.6. A request's head: kind, tag, rail (0 left, 1 right) and channel
(0 to 11). Choices of the model that it rests on: logs 1, 4, 28, 40. -/
def Obligations.UnfitRequestsAreAnswered : Prop :=
  (∀ (s : State) (f : Frame) (rest : List Frame),
    (s.line.input = f :: rest → s.line.replies.length < 4 → (f.kind.toNat = 0 ∨ 0x1C < f.kind.toNat) →
      answersOnly .unknownRequest s f rest .unknown 0 .headOnly) ∧
    (∀ (c : Instr) (k : RequestKind) (n : Nat), requestOf c = some (k, n) → requestHeads s k f rest → f.body.length ≠ 4 + n →
      (∀ q r ch, c = .setChannel q → f.rail = some r → f.channel = some ch → ¬s.leaves r ch) →
      answersOnly c s f rest .length 0 .headOnly) ∧
    (4 ≤ s.line.replies.length → ∀ c : Instr, (c = .unknownRequest ∨ requestOf c ≠ none) → exec c s = .next s)) ∧
  (([.identify, .readStatus, .setReporting, .setTravel, .setPosition, .odoCalBegin, .odoCalEnd, .setChannel, .readChannel, .stagePlan,
      .readPlan, .setRail, .setLevels, .snapshot, .calChannel, .addLandmarks, .clearLandmarks, .readLandmarks, .setPattern,
      .readPattern, .setSignals, .runStart, .runStop, .flush, .restart, .verify, .setupSave, .setupReload] : List RequestKind).map
    RequestKind.code = List.range' 0x01 0x1C) ∧
  (∀ (k t r c : Byte) (fields : List Byte) (f : Frame), f = ⟨k :: t :: r :: c :: fields⟩ →
      f.kind = k ∧ f.tag = t ∧ (f.rail = if r = 0 then some .left else if r = 1 then some .right else none) ∧
      (∀ ch : Channel, f.channel = some ch ↔ c.toNat = ch.val))

/-- The transmitter at a frame boundary: the oldest waiting reply is sent first; with none waiting a READY bundle is sent,
its records leave the queue, the tag rises by one and wraps, and the bundle opens anew over what is left; the end of a
frame is a frame boundary. In the middle of a frame neither begins. The CRC-16 of the line starts at 0xFFFF,
takes each byte most significant bit first, divides by the polynomial 0x1021 and is not inverted, so that its value over
the digits 1 to 9 is 0x29B1; a frame ends with it over length and body. Numbers on the line: high byte first, signed
numbers in two's complement. Every record's bytes are as many as its length says, and begin with its kind, its rail and
that length; a bundle's body is its four-byte head and its records, and a reply's head is kind, tag, code and index. The
layouts of the records (section 11.6), each behind its head of kind, rail and total length. CAL_RESULT and VERIFY_RESULT
carry the fields of their chapters' tables in that order, behind their heads (log 10). What stands for an amplitude, a
depth or a signature that is none is free (log 11). The fields of every reply in the order its rule names them, every number
high byte first, as wide as in the request that brings it: the model's choice but for READ_STATUS (logs 4 and 13). Choices of the model that it rests on: logs 4, 8, 10, 11, 12, 13, 22,
23, 30, 39. -/
def Obligations.TheTransmitterSendsFrames : Prop :=
  (∀ s : State,
      (∀ (p : Reply) (rest : List Reply), s.line.sending = none → s.line.replies = p :: rest →
        exec .sendReply s = .next { s with line := { s.line with sending := some (.reply p), replies := rest } } ∧
        exec .sendBundle s = .next s) ∧
      (s.line.sending = none → s.line.replies = [] → s.line.bundle.state = .ready →
        ∃ b, isFilled s.setup.reporting.cap (s.now + s.setup.reporting.flushDelay * 100000) (s.line.queue.drop s.line.bundle.held) b ∧
          exec .sendBundle s = .next
            { s with
              line :=
                { s.line with
                  sending := some (.bundle s.line.tag (s.line.queue.take s.line.bundle.held))
                  queue := s.line.queue.drop s.line.bundle.held, tag := s.line.tag + 1, bundle := b } }) ∧
      exec .frameSendEnd s = .next { s with line := { s.line with sending := none } } ∧
      (s.line.sending ≠ none → exec .sendReply s = .next s ∧ exec .sendBundle s = .next s)) ∧
  (crc16 [0x31#8, 0x32#8, 0x33#8, 0x34#8, 0x35#8, 0x36#8, 0x37#8, 0x38#8, 0x39#8] = 0x29B1#16 ∧
      ∀ (body : List Byte) (h l ch cl : Byte), h.toNat * 256 + l.toNat = body.length → ch ++ cl = crc16 (h :: l :: body) →
        frameBytes body = 0xC3#8 :: 0x5A#8 :: h :: l :: body ++ [ch, cl]) ∧
  (∀ feed : Word16 → Bool → Word16,
      (∀ (c : Word16) (bit : Bool), feed c bit = if c.msb = bit then c <<< 1 else (c <<< 1) ^^^ 0x1021#16) →
      ∀ bs : List Byte, crc16 bs =
        (bs.flatMap (fun b => [7, 6, 5, 4, 3, 2, 1, 0].map (fun k => b.getLsbD k))).foldl feed 0xFFFF#16) ∧
  (∀ v : Int, bytes1 v = [BitVec.ofInt 8 v] ∧ (∃ h l : Byte, bytes2 v = [h, l] ∧ h ++ l = BitVec.ofInt 16 v) ∧
      ∃ a b c d : Byte, bytes4 v = [a, b, c, d] ∧ a ++ b ++ c ++ d = BitVec.ofInt 32 v) ∧
  ((∀ x : Record, x.bytes.length = x.length) ∧
    (∀ (tag : Byte) (rs : List Record),
      (Outgoing.bundle tag rs).body = 0x80#8 :: tag :: (bytes2 rs.length ++ rs.flatMap Record.bytes) ∧
        (Outgoing.bundle tag rs).body.length = bodyLength rs) ∧
    (∀ p : Reply, (Outgoing.reply p).body = p.kind :: p.tag :: BitVec.ofNat 8 p.code.code :: BitVec.ofNat 8 p.index :: p.payload.bytes) ∧
    ([.ok, .clamped, .busy, .state, .range, .conflict, .order, .full, .duplicate, .invalid, .unknown, .length] : List ReplyCode).map
      ReplyCode.code = List.range 12 ∧
    ReplyPayload.headOnly.bytes = [] ∧ ∀ x : StatusRecord, (ReplyPayload.status x).bytes = (Record.status x).bytes.drop 4) ∧
  (∀ (no : Bool → Int) (gate : GateFields → List Byte) (plan : Plan → List Byte), no true = 0 → no false = 1 →
      (∀ g, gate g = bytes1 g.presence ++ bytes1 g.mode ++ bytes2 g.start ++ bytes2 g.width ++ bytes2 g.level ++ bytes1 g.useCurve ++
        bytes4 g.positionTolerance ++ bytes2 g.depthTolerance ++ bytes2 g.minimumHits) →
      (∀ p, plan p = bytes2 p.length ++ p.flatMap (fun g => bytes2 g.length ++ g.flatMap (fun ch => bytes1 ch.val))) →
      ∃ entry : Landmark → List Byte,
        (∀ e, ∃ spare : Byte, entry e = bytes4 e.start ++ bytes4 e.length ++
          bytes1 (match e.kind with
            | .weld => 0
            | .joint => 1
            | .switch => 2
            | .crossing => 3
            | .other => 4) ++
          bytes1 (if e.rails = .left then 0 else if e.rails = .right then 1 else 2) ++ bytes1 (no e.blank) ++ [spare]) ∧
        (∀ d es, (ReplyPayload.landmarks d es).bytes = bytes4 d ++ bytes2 es.length ++ es.flatMap entry) ∧
        (∀ n es, (ReplyPayload.landmarksAdded n es).bytes = bytes2 n ++ bytes2 es.length ++ es.flatMap entry) ∧
        (∀ n, (ReplyPayload.landmarkCount n).bytes = bytes2 n) ∧ (∀ d, (ReplyPayload.retention d).bytes = bytes4 d) ∧
        (∀ v p n x l, (ReplyPayload.identity v p n x l).bytes =
          bytes2 v ++ bytes2 p ++ bytes1 n ++ bytes1 (if x = .stored then 0 else 1) ++ l.flatten.flatMap (fun k : Nat => bytes2 k)) ∧
        (∀ x, (ReplyPayload.reporting x).bytes =
          bytes2 x.highWater ++ bytes2 x.cap ++ bytes2 x.flushDelay ++ bytes2 x.statusInterval ++ bytes1 (no x.statusOnChange) ++
            bytes2 x.hitStream.left.toNat ++ bytes2 x.hitStream.right.toNat ++ bytes2 x.silenceLimit) ∧
        (∀ x, (ReplyPayload.travel x).bytes =
          bytes1 (if x.sense = .normal then 0 else 1) ++ bytes4 x.scale ++ bytes4 x.pitch ++ bytes2 x.standstill) ∧
        (∀ n k d, (ReplyPayload.calibration n k d).bytes = bytes4 n ++ bytes4 k ++ bytes4 d) ∧
        (∀ x ka, (ReplyPayload.channel x ka).bytes =
          bytes1 x.lane ++ bytes2 x.listen ++ bytes4 x.offset ++ bytes2 x.kd ++ bytes4 x.angle ++ bytes2 x.zero ++
            bytes2 x.interfaceStart ++ bytes2 x.interfaceWidth ++ bytes2 x.interfaceLevel ++ bytes2 x.couplingLevel ++
            bytes2 x.failThreshold ++ bytes2 x.regainThreshold ++ bytes1 x.uncoupledMode ++ bytes4 x.spacing ++ bytes1 x.honour ++
            bytes4 x.closeDistance ++ bytes2 x.curve.length ++ x.curve.flatMap (fun p => bytes2 p.time ++ bytes2 p.level) ++
            gate x.gate1 ++ gate x.gate2 ++ gate x.gate3 ++ bytes4 ka) ∧
        (∀ a i w, (ReplyPayload.plan a none i w).bytes = plan a ++ bytes1 1 ++ bytes1 i ++ bytes1 (if w then 1 else 0)) ∧
        (∀ a b i w, (ReplyPayload.plan a (some b) i w).bytes = plan a ++ bytes1 0 ++ plan b ++ bytes1 i ++ bytes1 (if w then 1 else 0)) ∧
        (∀ x, (ReplyPayload.railRecord x).bytes =
          bytes2 x.recovery ++ bytes4 x.join ++ bytes4 x.settle ++ bytes1 (if x.defaultAction = .report then 0 else 1) ++
            bytes1 (no x.markerEnable) ++ bytes4 x.gunOffset ++ bytes4 x.merge ++ bytes2 x.spray) ∧
        (∀ i c v, (ReplyPayload.levels i c v).bytes = bytes2 i ++ bytes2 c ++ bytes2 v[0] ++ bytes2 v[1] ++ bytes2 v[2]) ∧
        (∀ d, (ReplyPayload.calDepth d).bytes = bytes2 d) ∧ (ReplyPayload.pattern none).bytes = bytes1 1 ∧
        (∀ p, (ReplyPayload.pattern (some p)).bytes =
          bytes1 0 ++ bytes1 p.rails ++ bytes2 p.considered.toNat ++ bytes2 p.required.toNat ++ bytes2 p.depthMin ++
            bytes2 p.depthMax ++ bytes1 p.condition ++ bytes1 p.kind ++ bytes4 p.window ++ bytes1 p.cls ++ bytes1 p.action) ∧
        (∀ x, (ReplyPayload.signals x).bytes =
          ([x.routes[0], x.routes[1], x.routes[2], x.routes[3]].flatMap (fun q =>
            bytes1 q.source.code ++ bytes1 (no q.invert) ++ bytes2 q.stretch)) ++ bytes2 x.speedLimit) ∧
        ([.off, .on, .uncoupledLeft, .uncoupledRight, .allCoupled, .sprayLeft, .sprayRight, .overspeed, .hostSilent, .running,
          .findingLeft, .findingRight, .findingAny, .skip] : List Source).map Source.code = List.range 14 ∧
        ∀ r e, (ReplyPayload.verification r e).bytes =
          bytes1 (if r = .left then 0 else 1) ++ bytes2 e.d1 ++ bytes2 e.a1 ++ bytes2 e.d2 ++ bytes2 e.a2) ∧
  (∀ (side : Rail → Int) (one : Bool → Int), side .left = 0 → side .right = 1 → one false = 0 → one true = 1 →
      (∀ x : HitRecord, (Record.hit x).bytes =
        bytes1 1 ++ bytes1 (side x.rail) ++ bytes2 19 ++ bytes1 x.channel.val ++ bytes1 (x.gate.val + 1) ++
          bytes1 (one x.uncoupled + 2 * one x.depthClamped) ++ bytes2 x.amplitude ++ bytes2 x.depth ++ bytes4 x.position ++
          bytes4 x.reflector) ∧
      (∀ r (ch : Channel) pf (n : Nat) i (k : Nat) points, (Record.snapshot (.captured r ch pf n i k points)).bytes =
        bytes1 2 ++ bytes1 (side r) ++ bytes2 (17 + 2 * points.length) ++ bytes1 ch.val ++ bytes1 0 ++ bytes4 pf ++ bytes2 n ++
          bytes2 (i.getD 0xFFFF) ++ bytes1 k ++ bytes2 points.length ++ points.flatMap (fun p => bytes2 p)) ∧
      (∀ r (ch : Channel), (Record.snapshot (.cancelled r ch)).bytes =
        bytes1 2 ++ bytes1 (side r) ++ bytes2 17 ++ bytes1 ch.val ++ bytes1 1 ++ bytes4 0 ++ bytes2 0 ++ bytes2 0xFFFF ++ bytes1 0 ++
          bytes2 0) ∧
      (∀ x : FindingRecord, (Record.finding x).bytes =
        bytes1 3 ++ bytes1 (side x.rail) ++ bytes2 (27 + 25 * x.finding.contributions.length) ++ bytes2 x.number ++ bytes1 x.cls ++
          bytes1 (match x.pattern with
            | some i => i.val
            | none => 0xFF) ++
          bytes1 (if x.action = .report then 0 else 1) ++ bytes1 (1 - one x.markRequested) ++
          bytes1 (if x.closedBy = .settle then 0 else if x.closedBy = .forced then 1 else if x.closedBy = .flush then 2 else 3) ++
          bytes1 (one x.finding.truncated + 2 * one (x.closedBy == .forced) + 4 * one x.finding.uncoupled) ++
          bytes4 x.finding.start ++ bytes4 x.finding.finish ++ bytes2 x.finding.depthMin ++ bytes2 x.finding.depthMax ++
          bytes2 x.peakDepth ++ bytes1 x.finding.contributions.length ++
          x.finding.contributions.flatMap (fun c =>
            bytes1 c.channel.val ++ bytes1 (c.gate.val + 1) ++ bytes1 (one c.uncoupled) ++ bytes4 c.minPr ++ bytes4 c.maxPr ++
              bytes2 c.minD ++ bytes2 c.maxD ++ bytes2 c.peak.amplitude ++ bytes4 c.peak.reflector ++ bytes2 c.peak.depth ++
              bytes2 c.hits)) ∧
      (∀ x : UntestedRecord, (Record.untested x).bytes =
        bytes1 4 ++ bytes1 (side x.rail) ++ bytes2 15 ++ bytes1 x.channel.val ++
          bytes1 (one x.causes.coupling + 2 * one x.causes.blanked + 4 * one x.causes.spacing) ++ bytes1 (1 - one x.cut) ++
          bytes4 x.start ++ bytes4 x.finish) ∧
      (∀ x : MarkRecord, ∃ none4 : Int, (Record.mark x).bytes =
        bytes1 5 ++ bytes1 (side x.rail) ++ bytes2 23 ++
          bytes1 (match x.outcome with
            | .queued => 0
            | .late => 1
            | .merged => 2
            | .full => 3
            | .fired => 4
            | .discarded => 5) ++
          bytes1 x.occupancy ++ bytes1 x.mergedCount ++ bytes2 x.finding ++ bytes4 x.target ++
          (match x.absorbing with
            | some a => bytes2 a.finding ++ bytes4 a.target
            | none => bytes2 0 ++ bytes4 none4) ++
          bytes4 (x.gun.getD 0)) ∧
      (∀ done, (Record.setupResult done).bytes = bytes1 8 ++ bytes1 2 ++ bytes2 5 ++ bytes1 (1 - one done)) ∧
      (∀ x : StatusRecord, (Record.status x).bytes =
        bytes1 9 ++ bytes1 2 ++ bytes2 73 ++
          bytes1 (match x.cause with
            | .periodic => 0
            | .change => 1
            | .request => 2) ++
          bytes1 (match x.runState with
            | .stopped => 0
            | .running => 1
            | .draining => 2
            | .calibrating => 3
            | .verifying => 4) ++
          bytes1 (one x.writing) ++ bytes1 (if x.source = .stored then 0 else 1) ++
          bytes1 (if x.motion = .forward then 0 else if x.motion = .reverse then 1 else 2) ++
          bytes1 (one x.loss + 2 * one x.silence) ++ bytes4 x.carPosition ++ bytes4 x.frontier ++ bytes2 x.speed ++
          ([x.coupling.left, x.coupling.right].flatMap (fun v => (List.finRange 12).flatMap (fun ch => bytes1 (match v[ch] with
            | .inactive => 0
            | .unknown => 1
            | .coupled => 2
            | .uncoupled => 3)))) ++
          bytes1 (one x.changes.runState + 2 * one x.changes.motion + 4 * one x.changes.silence + 8 * one x.changes.loss) ++
          bytes2 x.changes.coupling.left.toNat ++ bytes2 x.changes.coupling.right.toNat ++ bytes2 x.occupancy ++
          bytes2 x.skipped.left ++ bytes2 x.skipped.right ++ bytes2 x.overflow.left ++ bytes2 x.overflow.right ++
          bytes2 x.noise.left ++ bytes2 x.noise.right ++ bytes2 x.suppressed ++ bytes2 x.frameErrors ++ bytes2 x.overruns ++
          bytes2 x.dropped ++ bytes2 x.lost)) ∧
  (∀ side : Rail → Int, side .left = 0 → side .right = 1 →
      ∃ (amplitude depth sign : Int) (hit : Option Hit → List Byte),
        hit none = bytes2 0xFFFF ++ bytes2 amplitude ∧ (∀ h, hit (some h) = bytes2 h.time ++ bytes2 h.amplitude) ∧
        (∀ x : CalRecord, (Record.calResult x).bytes =
          bytes1 6 ++ bytes1 (side x.rail) ++ bytes2 28 ++ bytes1 x.channel.val ++ bytes1 (x.gate.val + 1) ++
            bytes1 (if x.second then 2 else 1) ++
            bytes1 (match x.result with
              | .step1Done => 0
              | .noEcho => 1
              | .done => 2
              | .order => 3
              | .range => 4
              | .aborted => 5) ++
            bytes2 x.depth ++ hit x.measured ++ bytes2 x.done ++
            (match x.firstPoint with
              | some (d, t) => bytes2 d ++ bytes2 t
              | none => bytes2 depth ++ bytes2 0xFFFF) ++
            bytes2 x.kd ++ bytes2 x.zero ++ bytes4 x.ka) ∧
        ∀ x : VerifyRecord, (Record.verifyResult x).bytes =
          bytes1 7 ++ bytes1 (side x.rail) ++ bytes2 (17 + 15 * x.entries.length) ++
            bytes1 (if x.signature.isSome then 0 else 1) ++ bytes2 x.echo.d1 ++ bytes2 x.echo.a1 ++ bytes2 x.echo.d2 ++
            bytes2 x.echo.a2 ++ bytes2 x.entries.length ++
            x.entries.flatMap (fun e =>
              bytes1 e.channel.val ++ bytes2 (e.interface.getD 0xFFFF) ++ hit e.hits[0] ++ hit e.hits[1] ++ hit e.hits[2]) ++
            (match x.signature with
              | some w => bytes2 w.toNat
              | none => bytes2 sign))

/-- A record whose turn comes: the HIT record of a channel outside its rail's hit-stream set is not offered and counts
nowhere (log 34). An offered record at the report queue: a LOW record joins below the high-water threshold and is dropped
from there on; a HIGH record joins while the queue holds fewer than 256, then displaces the newest LOW record, and is lost
with the loss flag set where there is none, whose change is the next to enter the change set (log 8). A record that joins joins the bundle; a STATUS record takes the occupancy it
finds. LOW are the HIT and SNAPSHOT records, HIGH all others; the occupancy goes into a STATUS record alone, and
nothing else of it changes. A counter rises by one up to 65,535, where it stays. Choices of the model that it rests on:
logs 2, 8, 30, 34. -/
def Obligations.AnOfferedRecordIsQueuedOrLost : Prop :=
  (∀ (s : State) (x y : Record) (rest : List LineItem) (q : List Record) (cap fe : Nat),
    s.line.inbox = .offer x :: rest → q = s.line.queue → cap = s.setup.reporting.cap →
    fe = s.now + s.setup.reporting.flushDelay * 100000 →
    (∀ h, x = .hit h → (s.setup.reporting.hitStream.get h.rail).getLsbD h.channel.val = false →
      exec .recordOffer s = .next { s with line := { s.line with inbox := rest } }) ∧
    ((∀ h, x = .hit h → (s.setup.reporting.hitStream.get h.rail).getLsbD h.channel.val = true) →
      (x.isLow = true → s.setup.reporting.highWater ≤ q.length →
        exec .recordOffer s = .next { s with line := { s.line with inbox := rest, dropped := raiseCounter s.line.dropped } }) ∧
      (((x.isLow = true ∧ q.length < s.setup.reporting.highWater) ∨ (x.isLow = false ∧ q.length < 256)) →
        y = x.withOccupancy q.length →
        ∃ b, isJoined cap fe q y s.line.bundle b ∧
          exec .recordOffer s = .next { s with line := { s.line with inbox := rest, queue := q ++ [y], bundle := b } }) ∧
      (x.isLow = false → 256 ≤ q.length → ∀ (as bs : List Record) (d : Record), q = as ++ d :: bs → d.isLow = true →
        (∀ z ∈ bs, z.isLow = false) → y = x.withOccupancy (as.length + bs.length) →
        ∃ b0 b1 b, (as.length < s.line.bundle.held →
            b0 = if s.line.bundle.held ≤ 1 then ⟨.empty, 0, none⟩ else { s.line.bundle with held := s.line.bundle.held - 1 }) ∧
          (s.line.bundle.held ≤ as.length → b0 = s.line.bundle) ∧
          (b0.state = .empty → isFilled cap fe (as ++ bs) b1) ∧ (b0.state ≠ .empty → b1 = b0) ∧
          isJoined cap fe (as ++ bs) y b1 b ∧
          exec .recordOffer s = .next
            { s with
              line := { s.line with inbox := rest, queue := as ++ bs ++ [y], dropped := raiseCounter s.line.dropped, bundle := b } }) ∧
      (x.isLow = false → 256 ≤ q.length → (∀ z ∈ q, z.isLow = false) →
        exec .recordOffer s = .next
          { s with
            line :=
              { s.line with
                inbox := onChange s.line.loss true (.change .loss) ++ rest, lost := raiseCounter s.line.lost, loss := true } }))) ∧
  (∀ x : Record, x.isLow = true ↔ (∃ h, x = .hit h) ∨ ∃ p, x = .snapshot p) ∧
  (∀ n : Nat, (∀ r : StatusRecord, (Record.status r).withOccupancy n = .status { r with occupancy := n }) ∧
      ∀ x : Record, (∀ r, x ≠ .status r) → x.withOccupancy n = x) ∧
  (∀ n : Nat, n ≤ 65535 → raiseCounter n = min 65535 (n + 1))

/-- The timers of the line and the change set: a flush expiry makes the OPEN bundle READY; a STATUS expiry offers a
PERIODIC record with the change set emptied and starts the timer again, and changes nothing while something handed to the
line interface waits, the model's choice (log 8); a silence expiry sets the silence state and hands
its change on; a change handed over enters the set, and with status-on-change ON a CHANGE record is offered and the set
emptied. A STATUS record is offered and taken in the step that calls for it, as RECORD_OFFER takes a record whose turn it is: the
model's choice (log 8). A change enters as one mark: of the run state, motion, silence state or loss flag, or of one channel of one rail;
a mark already present stays, and every other mark is as it was. Choices of the model that it rests on: logs 2, 3, 8. -/
def Obligations.TheTimersOfTheLine : Prop :=
  (∀ (s : State) (t : Nat),
    (s.line.bundle.state = .open → s.line.bundle.flushEnd = some t →
      exec .bundleFlushExpiry s = .next
        { s with
          now := max s.now t
          line := { s.line with bundle := { s.line.bundle with state := .ready, flushEnd := none } } }) ∧
    (s.line.inbox ≠ [] → exec .statusTimerExpiry s = .next s) ∧
    (s.line.statusEnd = some t → s.line.inbox = [] →
      ∃ u, exec .recordOffer
          { s with
            now := max s.now t
            line :=
              { s.line with
                inbox := [.offer (.status (s.status .periodic))]
                changes := ⟨false, false, false, false, ⟨0, 0⟩⟩ } } = .next u ∧
        exec .statusTimerExpiry s = .next
          { u with
            line :=
              { u.line with
                statusEnd :=
                  if s.setup.reporting.statusInterval = 0 then none
                  else some (max s.now t + s.setup.reporting.statusInterval * 100000) } }) ∧
    (s.line.silenceEnd = some t →
      exec .silenceExpiry s = .next
        { s with
          now := max s.now t
          line := { s.line.hear (onChange s.line.silence true (.change .silence)) with silenceEnd := none, silence := true }
          router := s.router.hear (onChange s.line.silence true (.silence true)) }) ∧
    (∀ (c : Change) (rest : List LineItem) (u : State), s.line.inbox = .change c :: rest →
      u = { s with line := { s.line with inbox := rest, changes := s.line.changes.enter c } } →
      (s.setup.reporting.statusOnChange = false → exec .changeHandover s = .next u) ∧
      (s.setup.reporting.statusOnChange = true →
        ∃ t, exec .recordOffer
            { u with
              line :=
                { u.line with
                  inbox := .offer (.status (u.status .change)) :: rest, changes := ⟨false, false, false, false, ⟨0, 0⟩⟩ } } = .next t ∧
          exec .changeHandover s = .next t))) ∧
  (∀ x : ChangeSet, x.enter .runState = { x with runState := true } ∧ x.enter .motion = { x with motion := true } ∧
      x.enter .silence = { x with silence := true } ∧ x.enter .loss = { x with loss := true } ∧
      ∀ (r : Rail) (ch : Channel), ∃ marks : Rails Word16, x.enter (.coupling r ch) = { x with coupling := marks } ∧
        ∀ (q : Rail) (n : Nat), (marks.get q).getLsbD n = true ↔ (x.coupling.get q).getLsbD n = true ∨ (q = r ∧ n = ch.val))

/-- The STATUS fields are those in force at the offer. The requests that read and change nothing: IDENTIFY, READ_STATUS,
READ_CHANNEL and READ_PLAN, each with RANGE for a rail or channel outside its set. READ_PATTERN answers with the entry,
and RANGE for an index outside 0 to 15, in every run state and store state. READ_LANDMARKS answers with the list as it
stands. What a record shows in a reply: every field as it stands, enumerations by number. A flaw gate of presence NONE is
shown with its presence and zero in every other field; a pattern of condition NONE with zero for kind and window. The
firing state that READ_PLAN shows is that a group or an operation firing is in flight, so IDLE between two operation
firings: the model's choice (log 22). Choices of the model that it rests on: logs 4, 8, 12, 13, 22, 28. -/
def Obligations.ReadingRequestsAnswer : Prop :=
  (∀ (s : State) (c : StatusCause), (s.status c).cause = c ∧ (s.status c).runState = s.run.state ∧
      (s.status c).writing = s.run.writing.isSome ∧ (s.status c).source = s.run.source ∧ (s.status c).motion = s.travel.motion ∧
      (s.status c).loss = s.line.loss ∧ (s.status c).silence = s.line.silence ∧
      (s.status c).carPosition = s.travel.accumulator / 65536 ∧ (s.status c).frontier = s.travel.frontier ∧
      (s.status c).speed = s.travel.speed ∧
      (∀ r (ch : Channel), ((s.status c).coupling.get r)[ch] = ((s.echo.get r).cover[ch]).coupling) ∧
      (s.status c).changes = s.line.changes ∧ (s.status c).occupancy = s.line.queue.length ∧
      (s.status c).suppressed = s.run.suppressed ∧
      (∀ r, (s.status c).skipped.get r = (s.firing.get r).skipped ∧ (s.status c).overflow.get r = (s.tracker.get r).overflow ∧
        (s.status c).noise.get r = (s.tracker.get r).noise) ∧
      (s.status c).frameErrors = s.line.frameErrors ∧ (s.status c).overruns = s.line.overruns ∧
      (s.status c).dropped = s.line.dropped ∧ (s.status c).lost = s.line.lost) ∧
  (∀ (s : State) (f : Frame) (rest : List Frame),
      (requestWaits s .identify 0 f rest →
        ∃ rev : Nat, 1 ≤ rev ∧ rev ≤ 255 ∧
          answersOnly .identify s f rest .ok 0 (.identity 0x4C4B 2412 rev s.run.source
            ([[2], [12], [4], [0, 3], [0, 8], [0, 16], [1, 4], [256, 8192], [2, 100, 10], [0, 1], [32], [16], [16], [16], [64], [16],
              [256], [4], [4], [4], [2], [16, 1], [512], [4, 2040]] ++ [[2], [400], [100]]))) ∧
      (requestWaits s .readStatus 0 f rest →
        answersOnly .readStatus s f rest .ok 0 (.status (s.status .request))) ∧
      (requestWaits s .readChannel 0 f rest →
        (∀ r ch, f.rail = some r → f.channel = some ch →
          answersOnly .readChannel s f rest .ok 0
            (.channel (s.channel r ch).shown (roundDiv ((s.channel r ch).kd * (s.channel r ch).angle) 65536))) ∧
        ((f.rail = none ∨ f.channel = none) → answersOnly .readChannel s f rest .range 0 .headOnly)) ∧
      (requestWaits s .readPlan 0 f rest →
        (∀ r, f.rail = some r →
          answersOnly .readPlan s f rest .ok 0
            (.plan (s.setup.plans.get r) (s.firing.get r).staged (s.firing.get r).pointer
              ((s.firing.get r).flight.isSome || (s.firing.get r).operationFlight.isSome))) ∧
        (f.rail = none → answersOnly .readPlan s f rest .range 0 .headOnly))) ∧
  (∀ (s : State) (f : Frame) (rest : List Frame) (index : Nat), requestWaits s .readPattern 1 f rest →
      (∀ i : Fin 16, index = i.val →
        answersOnly (.readPattern index) s f rest .ok 0 (.pattern (s.setup.patterns[i].map Pattern.shown))) ∧
      (16 ≤ index → answersOnly (.readPattern index) s f rest .range 0 .headOnly)) ∧
  (∀ (s : State) (f : Frame) (rest : List Frame), requestWaits s .readLandmarks 0 f rest →
      answersOnly .readLandmarks s f rest .ok 0 (.landmarks s.landmarks.retention s.landmarks.entries)) ∧
  ((∀ x : ChannelRecord, x.shown =
      { lane := x.lane.val, listen := x.listen, offset := x.offset, kd := x.kd, angle := x.angle, zero := x.zero
        interfaceStart := x.interfaceStart, interfaceWidth := x.interfaceWidth, interfaceLevel := x.interfaceLevel
        couplingLevel := x.couplingLevel, failThreshold := x.failThreshold, regainThreshold := x.regainThreshold
        uncoupledMode := if x.uncoupledMode = .hold then 0 else 1, spacing := x.spacing, honour := if x.honour then 0 else 1
        closeDistance := x.closeDistance, curve := x.curve.map (fun p => ⟨p.time, p.level⟩)
        gate1 := gateShown x.gates[(0 : Fin 3)], gate2 := gateShown x.gates[(1 : Fin 3)], gate3 := gateShown x.gates[(2 : Fin 3)] }) ∧
    gateShown none = ⟨1, 0, 0, 0, 0, 0, 0, 0, 0⟩ ∧
    (∀ g : FlawGate, gateShown (some g) =
      ⟨0, if g.mode = .peak then 0 else if g.mode = .first then 1 else 2, g.start, g.width, g.level, if g.useCurve then 0 else 1,
        g.positionTolerance, g.depthTolerance, g.minimumHits⟩) ∧
    ∀ p : Pattern, ∃ kindNumber : LandmarkKind → Nat,
      ([.weld, .joint, .switch, .crossing, .other] : List LandmarkKind).map kindNumber = [0, 1, 2, 3, 4] ∧
      p.shown =
        { rails := if p.rails = .left then 0 else if p.rails = .right then 1 else 2, considered := p.considered
          required := p.required, depthMin := p.depthMin, depthMax := p.depthMax
          condition := match p.condition with
            | .unconditional => 0
            | .near _ _ => 1
            | .notNear _ _ => 2
          kind := match p.condition with
            | .unconditional => 0
            | .near k _ => kindNumber k
            | .notNear k _ => kindNumber k
          window := match p.condition with
            | .unconditional => 0
            | .near _ w => w
            | .notNear _ w => w
          cls := p.cls, action := if p.action = .act .report then 0 else if p.action = .act .reportAndMark then 1 else 2 })

/-- SET_REPORTING in the order RANGE, BUSY; taken, an OPEN bundle above the new cap becomes READY, both timers start
again, and a silence limit of 0 clears a set silence state with its change handed on. Choices of the model that it rests
on: logs 4, 12. -/
def Obligations.SetReportingRetunesTheLine : Prop :=
  ∀ (s : State) (q : ReportingFields) (f : Frame) (rest : List Frame), requestWaits s .setReporting 15 f rest →
    ((1 < q.statusOnChange ∨ 4096 ≤ q.hitLeft.toNat ∨ 4096 ≤ q.hitRight.toNat) →
      answersOnly (.setReporting q) s f rest .range 0 (.reporting s.setup.reporting)) ∧
    (q.statusOnChange ≤ 1 → q.hitLeft.toNat < 4096 → q.hitRight.toNat < 4096 →
      (s.run.writing ≠ none → answersOnly (.setReporting q) s f rest .busy 0 (.reporting s.setup.reporting)) ∧
      (∀ (new : ReportingSettings) (b : Bundle), s.run.writing = none →
        new = ⟨(max 1 (min 256 q.highWater)).toNat, (max 128 (min 2040 q.cap)).toNat, (max 1 (min 50 q.flushDelay)).toNat,
          if q.statusInterval ≤ 0 then 0 else (max 100 (min 10000 q.statusInterval)).toNat, decide (q.statusOnChange = 0),
          ⟨q.hitLeft, q.hitRight⟩, (max 0 (min 60 q.silenceLimit)).toNat⟩ →
        b = (if s.line.bundle.state = .open ∧ new.cap < bodyLength (s.line.queue.take s.line.bundle.held) then
          { s.line.bundle with state := .ready, flushEnd := none } else s.line.bundle) →
        exec (.setReporting q) s = .next
          { s with
            setup := { s.setup with reporting := new }
            line := answeredLine
              { s.line.hear (if new.silenceLimit = 0 then onChange s.line.silence false (.change .silence) else []) with
                bundle := b
                statusEnd := if new.statusInterval = 0 then none else some (s.now + new.statusInterval * 100000)
                silenceEnd := if new.silenceLimit = 0 then none else some (s.now + new.silenceLimit * 100000000)
                silence := if new.silenceLimit = 0 then false else s.line.silence } f rest
              (if 1 ≤ q.highWater ∧ q.highWater ≤ 256 ∧ 128 ≤ q.cap ∧ q.cap ≤ 2040 ∧ 1 ≤ q.flushDelay ∧ q.flushDelay ≤ 50 ∧
                  (q.statusInterval = 0 ∨ 100 ≤ q.statusInterval ∧ q.statusInterval ≤ 10000) ∧ 0 ≤ q.silenceLimit ∧
                  q.silenceLimit ≤ 60 then .ok else .clamped) 0 (.reporting new)
            router := s.router.hear (if new.silenceLimit = 0 then onChange s.line.silence false (.silence false) else []) }))

/-! ### Settings of the rails -/

/-- SET_CHANNEL waits while a commit that removed its channel has still to close its traces (log 40). Otherwise, after its
RANGE check, in the order BUSY, STATE, ORDER, CONFLICT; taken, the record is replaced whole, a pending first point of this
rail and channel is cleared, and the reply carries the record with its Ka. What SET_CHANNEL makes of its fields: the
structural ones within their sets, each tuning field brought to the nearest limit, gates whose presence is NONE without
fields; each gate of the record is what its own fields make, and every other channel keeps its record. It answers OK
exactly when no tuning field had to be clamped; those of a gate whose presence is NONE do not count (log 41). Choices of
the model that it rests on: logs 4, 12, 28, 40, 41. -/
def Obligations.SetChannelReplacesTheRecord : Prop :=
  (∀ (s : State) (q : ChannelFields) (f : Frame) (rest : List Frame),
      (∀ r ch, requestHeads s .setChannel f rest → f.rail = some r → f.channel = some ch → s.leaves r ch →
        exec (.setChannel q) s = .next s) ∧
      (requestWaits s .setChannel (90 + 4 * q.curve.length) f rest →
        (∀ r ch, f.rail = some r → f.channel = some ch → ¬s.leaves r ch) →
        ((f.rail = none ∨ f.channel = none ∨ q.clamp = none) → answersOnly (.setChannel q) s f rest .range 0 .headOnly) ∧
        ∀ (r : Rail) (ch : Channel) (x : ChannelRecord) (held taken : Prop), f.rail = some r → f.channel = some ch → q.clamp = some x →
          (held ↔ (s.run.state ≠ .stopped ∧ ∃ g ∈ s.setup.plans.get r, ch ∈ g) ∨
            ((s.run.state = .calibrating ∨ s.run.state = .verifying) ∧
              ((∃ c, s.run.operation = some (.calibration c) ∧ c.rail = r) ∨ ∃ v, s.run.operation = some (.verification v) ∧ v.rail = r))) →
          (taken ↔ (s.channel r ch).lane ≠ x.lane ∧ ∃ g ∈ s.setup.plans.get r ++ ((s.firing.get r).staged).getD [],
            ch ∈ g ∧ ∃ other ∈ g, other ≠ ch ∧ (s.channel r other).lane = x.lane) →
          (s.run.writing ≠ none → answersOnly (.setChannel q) s f rest .busy 0 .headOnly) ∧
          (s.run.writing = none → held → answersOnly (.setChannel q) s f rest .state 0 .headOnly) ∧
          (s.run.writing = none → ¬held → ascending x.curve = false → answersOnly (.setChannel q) s f rest .order 0 .headOnly) ∧
          (s.run.writing = none → ¬held → ascending x.curve = true → taken →
            answersOnly (.setChannel q) s f rest .conflict 0 .headOnly) ∧
          (s.run.writing = none → ¬held → ascending x.curve = true → ¬taken →
            exec (.setChannel q) s = .next
              { s with
                setup := { s.setup with channels := s.setup.channels.set r (setAt (s.setup.channels.get r) ch x) }
                run :=
                  { s.run with
                    pendingPoint :=
                      if s.run.pendingPoint.any (fun p => decide (p.rail = r ∧ p.channel = ch)) then none else s.run.pendingPoint }
                line := answeredLine s.line f rest (if q.fits then .ok else .clamped) 0
                  (.channel x.shown (roundDiv (x.kd * x.angle) 65536)) }))) ∧
  (∀ q : ChannelFields,
      (q.fits = true ↔ 256 ≤ q.listen ∧ q.listen ≤ 8192 ∧ -60000 ≤ q.offset ∧ q.offset ≤ 60000 ∧ 1 ≤ q.kd ∧ q.kd ≤ 65535 ∧
        -262143 ≤ q.angle ∧ q.angle ≤ 262143 ∧ -512 ≤ q.zero ∧ q.zero ≤ 1023 ∧ 0 ≤ q.interfaceStart ∧ q.interfaceStart ≤ 8191 ∧
        1 ≤ q.interfaceWidth ∧ q.interfaceWidth ≤ 8192 ∧ 0 ≤ q.interfaceLevel ∧ q.interfaceLevel ≤ 4095 ∧ 0 ≤ q.couplingLevel ∧
        q.couplingLevel ≤ 4095 ∧ 1 ≤ q.failThreshold ∧ q.failThreshold ≤ 255 ∧ 1 ≤ q.regainThreshold ∧ q.regainThreshold ≤ 255 ∧
        10 ≤ q.spacing ∧ q.spacing ≤ 100000 ∧ 10 ≤ q.closeDistance ∧ q.closeDistance ≤ 100000 ∧
        (∀ p ∈ q.curve, 0 ≤ p.time ∧ p.time ≤ 8191 ∧ 0 ≤ p.level ∧ p.level ≤ 4095) ∧
        ∀ g ∈ [q.gate1, q.gate2, q.gate3], g.presence = 1 ∨
          (0 ≤ g.start ∧ g.start ≤ 8191 ∧ 1 ≤ g.width ∧ g.width ≤ 8192 ∧ 0 ≤ g.level ∧ g.level ≤ 4095 ∧ 0 ≤ g.positionTolerance ∧
            g.positionTolerance ≤ 10000 ∧ 0 ≤ g.depthTolerance ∧ g.depthTolerance ≤ 2500 ∧ 1 ≤ g.minimumHits ∧
            g.minimumHits ≤ 255)) ∧
      (q.clamp ≠ none ↔ q.lane < 4 ∧ q.uncoupledMode < 2 ∧ q.honour < 2 ∧ q.curve.length ≤ 8 ∧
        ∀ g ∈ [q.gate1, q.gate2, q.gate3], g.presence < 2 ∧ (g.presence = 0 → g.mode < 3 ∧ g.useCurve < 2)) ∧
      (∀ x, q.clamp = some x →
        x.lane.val = q.lane ∧ (x.listen : Int) = max 256 (min 8192 q.listen) ∧ x.offset = max (-60000) (min 60000 q.offset) ∧
        (x.kd : Int) = max 1 (min 65535 q.kd) ∧ x.angle = max (-262143) (min 262143 q.angle) ∧ x.zero = max (-512) (min 1023 q.zero) ∧
        (x.interfaceStart : Int) = max 0 (min 8191 q.interfaceStart) ∧ (x.interfaceWidth : Int) = max 1 (min 8192 q.interfaceWidth) ∧
        (x.interfaceLevel : Int) = max 0 (min 4095 q.interfaceLevel) ∧ (x.couplingLevel : Int) = max 0 (min 4095 q.couplingLevel) ∧
        (x.failThreshold : Int) = max 1 (min 255 q.failThreshold) ∧ (x.regainThreshold : Int) = max 1 (min 255 q.regainThreshold) ∧
        x.uncoupledMode = (if q.uncoupledMode = 0 then .hold else .pass) ∧ (x.spacing : Int) = max 10 (min 100000 q.spacing) ∧
        x.honour = decide (q.honour = 0) ∧ (x.closeDistance : Int) = max 10 (min 100000 q.closeDistance) ∧
        x.curve = q.curve.map (fun p => ⟨(max 0 (min 8191 p.time)).toNat, (max 0 (min 4095 p.level)).toNat⟩) ∧
        (x.gates[(0 : Fin 3)].isSome = decide (q.gate1.presence = 0) ∧ x.gates[(1 : Fin 3)].isSome = decide (q.gate2.presence = 0) ∧
          x.gates[(2 : Fin 3)].isSome = decide (q.gate3.presence = 0)) ∧
        q.gate1.clamp = some x.gates[(0 : Fin 3)] ∧ q.gate2.clamp = some x.gates[(1 : Fin 3)] ∧
        q.gate3.clamp = some x.gates[(2 : Fin 3)]) ∧
      (∀ curve : List CurvePoint, ascending curve = true ↔ (curve.map CurvePoint.time).Pairwise (· < ·)) ∧
      (∀ (cs : Vector ChannelRecord 12) (ch other : Channel) (x : ChannelRecord),
        (setAt cs ch x)[other] = if other = ch then x else cs[other]) ∧
      (∀ g : GateFields, g.presence = 1 → g.clamp = some none) ∧
      (∀ g : GateFields, g.presence = 0 → g.mode < 3 → g.useCurve < 2 →
        g.clamp = some (some
          { mode := if g.mode = 0 then .peak else if g.mode = 1 then .first else .absent, start := (max 0 (min 8191 g.start)).toNat
            width := (max 1 (min 8192 g.width)).toNat, level := (max 0 (min 4095 g.level)).toNat
            useCurve := decide (g.useCurve = 0), positionTolerance := (max 0 (min 10000 g.positionTolerance)).toNat
            depthTolerance := (max 0 (min 2500 g.depthTolerance)).toNat, minimumHits := (max 1 (min 255 g.minimumHits)).toNat })))

/-- STAGE_PLAN: RANGE with the first group outside its set, or 16 where a seventeenth stands (log 27); CONFLICT with the
first group in which two channels share a lane, BUSY in STOPPED while the store is WRITING; taken in STOPPED it is the
active plan at once, with the pointer 0 and the coverage of channels that leave or join set anew; taken in any other run
state it is staged. The request's plan lists its channels by number; a channel is in a plan when some group holds it.
Choices of the model that it rests on: logs 4, 27, 28, 37. -/
def Obligations.StagePlanStagesOrTakes : Prop :=
  (∀ (s : State) (f : Frame) (rest : List Frame) (ns : List (List Nat)), requestWaits s .stagePlan (2 + (ns.map (fun g => 2 + g.length)).sum) f rest →
    (f.rail = none → answersOnly (.stagePlan ns) s f rest .range 0 .headOnly) ∧
    (∀ k : Nat, f.rail ≠ none → (∀ (j : Nat) g, j < k → ns[j]? = some g → isGroup g) → k ≤ 16 → k < ns.length →
      (k = 16 ∨ ∃ g, ns[k]? = some g ∧ ¬isGroup g) → answersOnly (.stagePlan ns) s f rest .range k .headOnly) ∧
    ∀ (p : Plan) (r : Rail), f.rail = some r → p.length ≤ 16 → (∀ g ∈ p, 1 ≤ g.length ∧ g.length ≤ 4) → ns = p.map (fun g => g.map Fin.val) →
    (s.run.state = .stopped → s.run.writing ≠ none → answersOnly (.stagePlan ns) s f rest .busy 0 .headOnly) ∧
    ((s.run.state ≠ .stopped ∨ s.run.writing = none) →
      (∀ (i : Nat) (g : Group), p[i]? = some g → ¬(g.map (s.setup.lanes r)).Nodup →
        (∀ j h, j < i → p[j]? = some h → (h.map (s.setup.lanes r)).Nodup) →
        answersOnly (.stagePlan ns) s f rest .conflict i .headOnly) ∧
      ((∀ g ∈ p, (g.map (s.setup.lanes r)).Nodup) →
        (s.run.state ≠ .stopped →
          exec (.stagePlan ns) s = .next
            { s with
              firing := s.firing.set r { s.firing.get r with staged := some p }
              line := answeredLine s.line f rest .ok 0 .headOnly }) ∧
        (∀ (old : Plan) (changes : List (Channel × CouplingState)), s.run.state = .stopped → old = s.setup.plans.get r →
          changes = ((List.finRange 12).filter (fun ch => old.has ch && !p.has ch && (s.echo.get r).cover[ch].coupling != .inactive)).map
              (fun ch => (ch, .inactive)) ++
            ((List.finRange 12).filter (fun ch => p.has ch && !old.has ch && (s.echo.get r).cover[ch].coupling != .unknown)).map
              (fun ch => (ch, .unknown)) →
          exec (.stagePlan ns) s = .next
            { s with
              setup := { s.setup with plans := s.setup.plans.set r p }
              firing := s.firing.set r { s.firing.get r with staged := none, pointer := 0 }
              echo := s.echo.set r
                { s.echo.get r with
                  cover := Vector.ofFn (fun ch =>
                    if old.has ch && !p.has ch then ⟨.inactive, 0, 0, none, none, none, none⟩
                    else if p.has ch && !old.has ch then ⟨.unknown, 0, 0, none, none, none, none⟩
                    else (s.echo.get r).cover[ch]) }
              line := answeredLine (s.line.hear (changes.map (fun x => .change (.coupling r x.1)))) f rest .ok 0 .headOnly
              router := s.router.hear (changes.map (fun x => .coupling r x.1 x.2)) })))) ∧
  (∀ (p : Plan) (ch : Channel), p.has ch = true ↔ ∃ g ∈ p, ch ∈ g)

/-- SET_RAIL, SET_LEVELS and SNAPSHOT. SET_RAIL is refused STATE outside STOPPED where its join tolerance or settle
distance would change; SET_LEVELS replaces the levels of the interface gate, the coupling and the present flaw gates
alone; SNAPSHOT waits for the next firing of an in-plan channel in RUNNING. SET_PATTERN in the order RANGE, BUSY, ORDER
for a depth min above the depth max; taken, the entry is the EMPTY marker or the pattern as clamped. A pattern lies
within its sets with its rails, condition and action by number, no channel above 11 in M or Q, Q within M, a kind by
number where the condition is NEAR or NOT_NEAR, and a class from 1 to 63; as taken, its depths and window are brought to
the nearest limit, and the condition NONE keeps neither kind nor window. The levels a reply carries are those in force,
0 for an absent gate. Choices of the model that it rests on: logs 4, 12, 28. -/
def Obligations.RailLevelAndPatternRequests : Prop :=
  (∀ (s : State) (f : Frame) (rest : List Frame),
      (∀ (q : RailFields), requestWaits s .setRail 22 f rest → f.rail = none →
        answersOnly (.setRail q) s f rest .range 0 .headOnly) ∧
      (∀ (q : RailFields) (r : Rail), requestWaits s .setRail 22 f rest → f.rail = some r →
        ((1 < q.defaultAction ∨ 1 < q.markerEnable) →
          answersOnly (.setRail q) s f rest .range 0 (.railRecord (s.setup.rails.get r))) ∧
        (q.defaultAction ≤ 1 → q.markerEnable ≤ 1 → s.run.writing ≠ none →
          answersOnly (.setRail q) s f rest .busy 0 (.railRecord (s.setup.rails.get r))) ∧
        (∀ new : RailSettings, q.defaultAction ≤ 1 → q.markerEnable ≤ 1 → s.run.writing = none →
          new = ⟨(max 2 (min 100 q.recovery)).toNat, (max 0 (min 10000 q.join)).toNat, (max 100 (min 200000 q.settle)).toNat,
            if q.defaultAction = 0 then .report else .reportAndMark, decide (q.markerEnable = 0),
            (max 1000 (min 200000 q.gunOffset)).toNat, (max 0 (min 10000 q.merge)).toNat, (max 10 (min 500 q.spray)).toNat⟩ →
          (s.run.state ≠ .stopped → (new.join ≠ (s.setup.rails.get r).join ∨ new.settle ≠ (s.setup.rails.get r).settle) →
            answersOnly (.setRail q) s f rest .state 0 (.railRecord (s.setup.rails.get r))) ∧
          ((s.run.state = .stopped ∨ new.join = (s.setup.rails.get r).join ∧ new.settle = (s.setup.rails.get r).settle) →
            exec (.setRail q) s = .next
              { s with
                setup := { s.setup with rails := s.setup.rails.set r new }
                line := answeredLine s.line f rest
                  (if 2 ≤ q.recovery ∧ q.recovery ≤ 100 ∧ 0 ≤ q.join ∧ q.join ≤ 10000 ∧ 100 ≤ q.settle ∧ q.settle ≤ 200000 ∧
                      1000 ≤ q.gunOffset ∧ q.gunOffset ≤ 200000 ∧ 0 ≤ q.merge ∧ q.merge ≤ 10000 ∧ 10 ≤ q.spray ∧ q.spray ≤ 500 then
                    .ok else .clamped) 0 (.railRecord new) }))) ∧
      (∀ (q : LevelFields), requestWaits s .setLevels 10 f rest → (f.rail = none ∨ f.channel = none) →
        answersOnly (.setLevels q) s f rest .range 0 .headOnly) ∧
      (∀ (q : LevelFields) (r : Rail) (ch : Channel) (lv : Vector Nat 3) (i c : Nat) (x : ChannelRecord), requestWaits s .setLevels 10 f rest →
        f.rail = some r → f.channel = some ch →
        lv = #v[(max 0 (min 4095 q.flaw1)).toNat, (max 0 (min 4095 q.flaw2)).toNat, (max 0 (min 4095 q.flaw3)).toNat] →
        i = (max 0 (min 4095 q.interface)).toNat → c = (max 0 (min 4095 q.coupling)).toNat →
        x = { s.channel r ch with
          interfaceLevel := i, couplingLevel := c
          gates := Vector.ofFn (fun g => ((s.channel r ch).gates[g]).map (fun y => { y with level := lv[g] })) } →
        (s.run.writing ≠ none → answersOnly (.setLevels q) s f rest .busy 0 (s.channel r ch).levels) ∧
        (s.run.writing = none →
          exec (.setLevels q) s = .next
            { s with
              setup := { s.setup with channels := s.setup.channels.set r (setAt (s.setup.channels.get r) ch x) }
              line := answeredLine s.line f rest
                (if ∀ v ∈ [q.interface, q.coupling, q.flaw1, q.flaw2, q.flaw3], 0 ≤ v ∧ v ≤ 4095 then .ok else .clamped) 0
                (.levels i c (Vector.ofFn (fun g => if (s.channel r ch).gates[g].isSome then lv[g] else 0))) })) ∧
      (requestWaits s .snapshot 0 f rest → (f.rail = none ∨ f.channel = none) →
        answersOnly .snapshot s f rest .range 0 .headOnly) ∧
      (∀ (r : Rail) (ch : Channel), requestWaits s .snapshot 0 f rest → f.rail = some r → f.channel = some ch →
        ((s.run.state ≠ .running ∨ ∀ g ∈ s.setup.plans.get r, ch ∉ g) → answersOnly .snapshot s f rest .state 0 .headOnly) ∧
        (s.run.state = .running → (∃ g ∈ s.setup.plans.get r, ch ∈ g) →
          ((s.echo.get r).snapshot ≠ .idle → answersOnly .snapshot s f rest .busy 0 .headOnly) ∧
          ((s.echo.get r).snapshot = .idle →
            exec .snapshot s = .next
              { s with
                echo := s.echo.set r { s.echo.get r with snapshot := .waiting ch }
                line := answeredLine s.line f rest .ok 0 .headOnly })))) ∧
  (∀ (s : State) (q : SetPatternFields) (f : Frame) (rest : List Frame), requestWaits s .setPattern (if q.entry = none then 2 else 19) f rest →
      (16 ≤ q.index → answersOnly (.setPattern q) s f rest .range 0 .headOnly) ∧
      ∀ i : Fin 16, q.index = i.val →
        (∀ p, q.entry = some p → p.clamp = none → answersOnly (.setPattern q) s f rest .range 0 (.pattern (s.setup.patterns[i].map Pattern.shown))) ∧
        ∀ new : Option Pattern, (q.entry = none ∧ new = none ∨ ∃ p x, q.entry = some p ∧ p.clamp = some x ∧ new = some x) →
          (s.run.writing ≠ none → answersOnly (.setPattern q) s f rest .busy 0 (.pattern (s.setup.patterns[i].map Pattern.shown))) ∧
          (s.run.writing = none → (∃ x, new = some x ∧ x.depthMax < x.depthMin) →
            answersOnly (.setPattern q) s f rest .order 0 (.pattern (s.setup.patterns[i].map Pattern.shown))) ∧
          (s.run.writing = none → (∀ x, new = some x → x.depthMin ≤ x.depthMax) →
            exec (.setPattern q) s = .next
              { s with
                setup := { s.setup with patterns := setAt s.setup.patterns i new }
                line := answeredLine s.line f rest
                  (if ∀ p, q.entry = some p → 0 ≤ p.depthMin ∧ p.depthMin ≤ 2500 ∧ 0 ≤ p.depthMax ∧ p.depthMax ≤ 2500 ∧
                      0 ≤ p.window ∧ p.window ≤ 10000 then .ok else .clamped) 0 (.pattern (new.map Pattern.shown)) })) ∧
  (∀ p : PatternFields,
      (p.clamp = none ↔ 3 ≤ p.rails ∨ 4096 ≤ p.considered.toNat ∨ 4096 ≤ p.required.toNat ∨
        p.required &&& p.considered ≠ p.required ∨ 3 ≤ p.condition ∨ (p.condition ≠ 0 ∧ 5 ≤ p.kind) ∨ p.cls < 1 ∨ 63 < p.cls ∨
        3 ≤ p.action) ∧
      ∀ x, p.clamp = some x →
        [AppliesTo.left, .right, .both][p.rails]? = some x.rails ∧ x.considered = p.considered ∧ x.required = p.required ∧
        (x.depthMin : Int) = max 0 (min 2500 p.depthMin) ∧ (x.depthMax : Int) = max 0 (min 2500 p.depthMax) ∧
        (p.condition = 0 → x.condition = .unconditional) ∧
        (∀ k, [LandmarkKind.weld, .joint, .switch, .crossing, .other][p.kind]? = some k →
          (p.condition = 1 → x.condition = .near k (max 0 (min 10000 p.window)).toNat) ∧
          (p.condition = 2 → x.condition = .notNear k (max 0 (min 10000 p.window)).toNat)) ∧
        x.cls = p.cls ∧ [PatternAction.act .report, .act .reportAndMark, .suppress][p.action]? = some x.action) ∧
  (∀ x : ChannelRecord, x.levels =
      .levels x.interfaceLevel x.couplingLevel (Vector.ofFn (fun g => match x.gates[g] with
        | some y => y.level
        | none => 0)))

/-! ### Invariants of every step -/

/-- Every setting in force, stored, being written or staged stays within its range. -/
def Obligations.SettingsStayLawful : Prop := keptByEveryStep State.settingsLawful

/-- With lawful settings the travel unit stays within its ranges, the frontier at or above the car position and below the
next boundary, the time of the last count never ahead of the model's clock (log 3), and both marking units hold its motion (log
29). WRITING exists in STOPPED alone, with no valid image from the taking on (log 18), and an operation is in flight exactly in
CALIBRATING or VERIFYING. Choices of the model that it rests on: logs 3, 18, 29. -/
def Obligations.TravelAndTheRunStateStayLawful : Prop :=
  (keptByEveryStep State.travelLawful) ∧
  (keptByEveryStep (fun s => s.run.lawful))

/-- With lawful settings the queues and buffers of the line stay within their capacities, the receiver's bytes match the
length it was told, the bundle matches the report queue, and the loss flag stands exactly while the lost-record count is
not 0. With a lawful landmark list as well, the body of every reply that waits or is being sent is from 4 to 2040 bytes long,
in the widths the model chooses (logs 4 and 13). Choices of the model that it rests on: logs 4, 13. -/
def Obligations.TheLineStaysLawful : Prop := keptByEveryStep State.lineLawful ∧ keptByEveryStep State.repliesLawful

/-- Each mark queue keeps at most sixteen marks in strictly ascending order of target, and the landmark list at most 64
entries in order of start with no two alike. Traces, indications and findings keep their spans, depths and counts in
order, and no finding holds two contributions of one channel and gate. Each channel's coverage keeps one of its counts at
0, a first-fail position exactly in a run of fails, and a cause in every open stretch. -/
def Obligations.QueuesAndTablesStayLawful : Prop :=
  (keptByEveryStep State.marksLawful ∧ keptByEveryStep (fun s => s.landmarks.lawful)) ∧
  (keptByEveryStep State.reflectorsLawful) ∧
  (keptByEveryStep State.coverageLawful)

/-- Any two OPEN findings of a rail lie further apart than its join tolerance. The tolerance changes in STOPPED alone,
where the drain notice or a RESTART has left no finding OPEN. Choices of the model that it rests on: log 7. -/
def Obligations.FindingsStayApart : Prop := keptByEveryStep State.findingsLawful

/-- The state right after reset meets every one of these laws. That both marking units hold the travel unit's motion there rests on
their STANDSTILL at power-on and on their holding it at once (logs 21, 29), and the clauses about a stored image on the store's
holding none (log 6). Choices of the model that it rests on: logs 6, 21, 29. -/
def Obligations.ResetMeetsTheLaws : Prop :=
  State.reset.settingsLawful ∧ State.reset.travelLawful ∧ State.reset.run.lawful ∧ State.reset.lineLawful ∧ State.reset.repliesLawful ∧
    State.reset.marksLawful ∧ State.reset.landmarks.lawful ∧ State.reset.reflectorsLawful ∧ State.reset.coverageLawful ∧
    State.reset.findingsLawful

end
end

