-- ==== Sys2Proof/Laws/Defaults.lean ====
section
/-! SUPPORT. The default setup is lawful: every default lies within the range of its setting. -/

namespace Sys2Proof.Machine

theorem defaults_flawGate_lawful : FlawGate.defaults.lawful := by
  simp [FlawGate.lawful, FlawGate.defaults]

/-- The gates of every default record. -/
theorem defaults_gates_lawful (ch : Channel) (g : Gate) (y : FlawGate) (h : (ChannelRecord.defaults ch).gates[g] = some y) :
    y.lawful := by
  match g, h with
  | 0, h => cases h; exact defaults_flawGate_lawful
  | 1, h => cases h
  | 2, h => cases h

/-- The default record of every channel (R19). -/
theorem defaults_record_lawful (ch : Channel) : (ChannelRecord.defaults ch).lawful := by
  have hg := defaults_gates_lawful ch
  simp only [ChannelRecord.lawful, ChannelRecord.geometryLawful, curveLawful]
  simp [ChannelRecord.defaults, ascending] at hg ⊢
  exact hg

theorem defaults_rail_lawful : RailSettings.defaults.lawful := by
  simp [RailSettings.lawful, RailSettings.defaults]

theorem defaults_signals_lawful : SignalSettings.defaults.lawful := by
  simp [SignalSettings.lawful, SignalSettings.defaults, Route.defaults]

theorem defaults_reporting_lawful : ReportingSettings.defaults.lawful := by
  simp [ReportingSettings.lawful, ReportingSettings.defaults]

/-- Every default within its range (R172). -/
theorem defaults_lawful : Setup.defaults.lawful := by
  refine ⟨⟨by decide, by decide, by decide, by decide, by decide, by decide⟩, ?_, ?_, ?_, ?_, defaults_signals_lawful,
    defaults_reporting_lawful⟩
  · intro r
    cases r <;> exact defaults_rail_lawful
  · intro r ch
    cases r <;> simpa [Setup.defaults, Rails.get] using defaults_record_lawful ch
  · intro r
    cases r <;> exact ⟨by decide, fun g hg => by cases hg⟩
  · intro i p hp
    simp [Setup.defaults] at hp

end Sys2Proof.Machine
end

