-- ==== Sys2Proof/Laws/State.lean ====
section
/-! SUPPORT. One lemma per field per update of State, true by rfl, and the laws of a pair of rails and of a fixed table. -/

namespace Sys2Proof.Machine

/-! ### A pair of rails -/

@[simp] theorem Rails.get_set_same {α : Type} (p : Rails α) (r : Rail) (a : α) : (p.set r a).get r = a := by
  cases r <;> rfl

@[simp] theorem Rails.get_set_left_right {α : Type} (p : Rails α) (a : α) : (p.set .left a).get .right = p.get .right := rfl

@[simp] theorem Rails.get_set_right_left {α : Type} (p : Rails α) (a : α) : (p.set .right a).get .left = p.get .left := rfl

theorem Rails.get_set_other {α : Type} (p : Rails α) {r q : Rail} (h : q ≠ r) (a : α) : (p.set r a).get q = p.get q := by
  cases r <;> cases q <;> first | rfl | exact absurd rfl h

theorem Rails.get_set {α : Type} (p : Rails α) (r q : Rail) (a : α) : (p.set r a).get q = if q = r then a else p.get q := by
  cases r <;> cases q <;> rfl

@[simp] theorem Rails.set_set {α : Type} (p : Rails α) (r : Rail) (a b : α) : (p.set r a).set r b = p.set r b := by
  cases r <;> rfl

@[simp] theorem Rails.set_get {α : Type} (p : Rails α) (r : Rail) : p.set r (p.get r) = p := by
  cases r <;> rfl

@[simp] theorem Rails.get_modify_same {α : Type} (p : Rails α) (r : Rail) (f : α → α) : (p.modify r f).get r = f (p.get r) := by
  cases r <;> rfl

/-! ### A fixed table -/

theorem setAt_get {α : Type} {n : Nat} (v : Vector α n) (i j : Fin n) (a : α) : (setAt v i a)[j] = if j = i then a else v[j] := by
  simp [setAt, modifyAt]

@[simp] theorem setAt_get_nat {α : Type} {n : Nat} (v : Vector α n) (i j : Fin n) (a : α) :
    (setAt v i a)[j.val] = if j = i then a else v[j.val] := setAt_get v i j a

theorem setAt_get_same {α : Type} {n : Nat} (v : Vector α n) (i : Fin n) (a : α) : (setAt v i a)[i] = a := by
  rw [setAt_get, if_pos rfl]

theorem setAt_get_other {α : Type} {n : Nat} (v : Vector α n) {i j : Fin n} (h : j ≠ i) (a : α) : (setAt v i a)[j] = v[j] := by
  rw [setAt_get, if_neg h]

theorem modifyAt_get {α : Type} {n : Nat} (v : Vector α n) (i j : Fin n) (f : α → α) :
    (modifyAt v i f)[j] = if j = i then f v[j] else v[j] := by
  simp [modifyAt]

/-! ### One lemma per field per update -/

@[simp] theorem State.advanceTo_pending (s : State) (t : Nat) : (s.advanceTo t).pending = s.pending := rfl
@[simp] theorem State.advanceTo_between (s : State) (t : Nat) : (s.advanceTo t).between = s.between := rfl
@[simp] theorem State.advanceTo_now (s : State) (t : Nat) : (s.advanceTo t).now = max s.now t := rfl
@[simp] theorem State.advanceTo_setup (s : State) (t : Nat) : (s.advanceTo t).setup = s.setup := rfl
@[simp] theorem State.advanceTo_travel (s : State) (t : Nat) : (s.advanceTo t).travel = s.travel := rfl
@[simp] theorem State.advanceTo_firing (s : State) (t : Nat) : (s.advanceTo t).firing = s.firing := rfl
@[simp] theorem State.advanceTo_echo (s : State) (t : Nat) : (s.advanceTo t).echo = s.echo := rfl
@[simp] theorem State.advanceTo_tracker (s : State) (t : Nat) : (s.advanceTo t).tracker = s.tracker := rfl
@[simp] theorem State.advanceTo_assembler (s : State) (t : Nat) : (s.advanceTo t).assembler = s.assembler := rfl
@[simp] theorem State.advanceTo_landmarks (s : State) (t : Nat) : (s.advanceTo t).landmarks = s.landmarks := rfl
@[simp] theorem State.advanceTo_marking (s : State) (t : Nat) : (s.advanceTo t).marking = s.marking := rfl
@[simp] theorem State.advanceTo_router (s : State) (t : Nat) : (s.advanceTo t).router = s.router := rfl
@[simp] theorem State.advanceTo_run (s : State) (t : Nat) : (s.advanceTo t).run = s.run := rfl
@[simp] theorem State.advanceTo_line (s : State) (t : Nat) : (s.advanceTo t).line = s.line := rfl

@[simp] theorem tick_pending (s : State) : (tick s).pending = s.pending := rfl
@[simp] theorem tick_between (s : State) : (tick s).between = s.between := rfl
@[simp] theorem tick_now (s : State) : (tick s).now = s.now + 1 := rfl
@[simp] theorem tick_setup (s : State) : (tick s).setup = s.setup := rfl
@[simp] theorem tick_travel (s : State) : (tick s).travel = s.travel := rfl
@[simp] theorem tick_firing (s : State) : (tick s).firing = s.firing := rfl
@[simp] theorem tick_echo (s : State) : (tick s).echo = s.echo := rfl
@[simp] theorem tick_tracker (s : State) : (tick s).tracker = s.tracker := rfl
@[simp] theorem tick_assembler (s : State) : (tick s).assembler = s.assembler := rfl
@[simp] theorem tick_landmarks (s : State) : (tick s).landmarks = s.landmarks := rfl
@[simp] theorem tick_marking (s : State) : (tick s).marking = s.marking := rfl
@[simp] theorem tick_router (s : State) : (tick s).router = s.router := rfl
@[simp] theorem tick_run (s : State) : (tick s).run = s.run := rfl
@[simp] theorem tick_line (s : State) : (tick s).line = s.line := rfl

@[simp] theorem State.setSetup_pending (s : State) (x : Setup) : (s.setSetup x).pending = s.pending := rfl
@[simp] theorem State.setSetup_between (s : State) (x : Setup) : (s.setSetup x).between = s.between := rfl
@[simp] theorem State.setSetup_now (s : State) (x : Setup) : (s.setSetup x).now = s.now := rfl
@[simp] theorem State.setSetup_setup (s : State) (x : Setup) : (s.setSetup x).setup = x := rfl
@[simp] theorem State.setSetup_travel (s : State) (x : Setup) : (s.setSetup x).travel = s.travel := rfl
@[simp] theorem State.setSetup_firing (s : State) (x : Setup) : (s.setSetup x).firing = s.firing := rfl
@[simp] theorem State.setSetup_echo (s : State) (x : Setup) : (s.setSetup x).echo = s.echo := rfl
@[simp] theorem State.setSetup_tracker (s : State) (x : Setup) : (s.setSetup x).tracker = s.tracker := rfl
@[simp] theorem State.setSetup_assembler (s : State) (x : Setup) : (s.setSetup x).assembler = s.assembler := rfl
@[simp] theorem State.setSetup_landmarks (s : State) (x : Setup) : (s.setSetup x).landmarks = s.landmarks := rfl
@[simp] theorem State.setSetup_marking (s : State) (x : Setup) : (s.setSetup x).marking = s.marking := rfl
@[simp] theorem State.setSetup_router (s : State) (x : Setup) : (s.setSetup x).router = s.router := rfl
@[simp] theorem State.setSetup_run (s : State) (x : Setup) : (s.setSetup x).run = s.run := rfl
@[simp] theorem State.setSetup_line (s : State) (x : Setup) : (s.setSetup x).line = s.line := rfl

@[simp] theorem State.setTravel_pending (s : State) (x : Travel) : (s.setTravel x).pending = s.pending := rfl
@[simp] theorem State.setTravel_between (s : State) (x : Travel) : (s.setTravel x).between = s.between := rfl
@[simp] theorem State.setTravel_now (s : State) (x : Travel) : (s.setTravel x).now = s.now := rfl
@[simp] theorem State.setTravel_setup (s : State) (x : Travel) : (s.setTravel x).setup = s.setup := rfl
@[simp] theorem State.setTravel_travel (s : State) (x : Travel) : (s.setTravel x).travel = x := rfl
@[simp] theorem State.setTravel_firing (s : State) (x : Travel) : (s.setTravel x).firing = s.firing := rfl
@[simp] theorem State.setTravel_echo (s : State) (x : Travel) : (s.setTravel x).echo = s.echo := rfl
@[simp] theorem State.setTravel_tracker (s : State) (x : Travel) : (s.setTravel x).tracker = s.tracker := rfl
@[simp] theorem State.setTravel_assembler (s : State) (x : Travel) : (s.setTravel x).assembler = s.assembler := rfl
@[simp] theorem State.setTravel_landmarks (s : State) (x : Travel) : (s.setTravel x).landmarks = s.landmarks := rfl
@[simp] theorem State.setTravel_marking (s : State) (x : Travel) : (s.setTravel x).marking = s.marking := rfl
@[simp] theorem State.setTravel_router (s : State) (x : Travel) : (s.setTravel x).router = s.router := rfl
@[simp] theorem State.setTravel_run (s : State) (x : Travel) : (s.setTravel x).run = s.run := rfl
@[simp] theorem State.setTravel_line (s : State) (x : Travel) : (s.setTravel x).line = s.line := rfl

@[simp] theorem State.setFiring_pending (s : State) (r : Rail) (x : FiringUnit) : (s.setFiring r x).pending = s.pending := rfl
@[simp] theorem State.setFiring_between (s : State) (r : Rail) (x : FiringUnit) : (s.setFiring r x).between = s.between := rfl
@[simp] theorem State.setFiring_now (s : State) (r : Rail) (x : FiringUnit) : (s.setFiring r x).now = s.now := rfl
@[simp] theorem State.setFiring_setup (s : State) (r : Rail) (x : FiringUnit) : (s.setFiring r x).setup = s.setup := rfl
@[simp] theorem State.setFiring_travel (s : State) (r : Rail) (x : FiringUnit) : (s.setFiring r x).travel = s.travel := rfl
@[simp] theorem State.setFiring_firing (s : State) (r : Rail) (x : FiringUnit) : (s.setFiring r x).firing = s.firing.set r x := rfl
@[simp] theorem State.setFiring_echo (s : State) (r : Rail) (x : FiringUnit) : (s.setFiring r x).echo = s.echo := rfl
@[simp] theorem State.setFiring_tracker (s : State) (r : Rail) (x : FiringUnit) : (s.setFiring r x).tracker = s.tracker := rfl
@[simp] theorem State.setFiring_assembler (s : State) (r : Rail) (x : FiringUnit) : (s.setFiring r x).assembler = s.assembler := rfl
@[simp] theorem State.setFiring_landmarks (s : State) (r : Rail) (x : FiringUnit) : (s.setFiring r x).landmarks = s.landmarks := rfl
@[simp] theorem State.setFiring_marking (s : State) (r : Rail) (x : FiringUnit) : (s.setFiring r x).marking = s.marking := rfl
@[simp] theorem State.setFiring_router (s : State) (r : Rail) (x : FiringUnit) : (s.setFiring r x).router = s.router := rfl
@[simp] theorem State.setFiring_run (s : State) (r : Rail) (x : FiringUnit) : (s.setFiring r x).run = s.run := rfl
@[simp] theorem State.setFiring_line (s : State) (r : Rail) (x : FiringUnit) : (s.setFiring r x).line = s.line := rfl

@[simp] theorem State.setEcho_pending (s : State) (r : Rail) (x : EchoProcessor) : (s.setEcho r x).pending = s.pending := rfl
@[simp] theorem State.setEcho_between (s : State) (r : Rail) (x : EchoProcessor) : (s.setEcho r x).between = s.between := rfl
@[simp] theorem State.setEcho_now (s : State) (r : Rail) (x : EchoProcessor) : (s.setEcho r x).now = s.now := rfl
@[simp] theorem State.setEcho_setup (s : State) (r : Rail) (x : EchoProcessor) : (s.setEcho r x).setup = s.setup := rfl
@[simp] theorem State.setEcho_travel (s : State) (r : Rail) (x : EchoProcessor) : (s.setEcho r x).travel = s.travel := rfl
@[simp] theorem State.setEcho_firing (s : State) (r : Rail) (x : EchoProcessor) : (s.setEcho r x).firing = s.firing := rfl
@[simp] theorem State.setEcho_echo (s : State) (r : Rail) (x : EchoProcessor) : (s.setEcho r x).echo = s.echo.set r x := rfl
@[simp] theorem State.setEcho_tracker (s : State) (r : Rail) (x : EchoProcessor) : (s.setEcho r x).tracker = s.tracker := rfl
@[simp] theorem State.setEcho_assembler (s : State) (r : Rail) (x : EchoProcessor) : (s.setEcho r x).assembler = s.assembler := rfl
@[simp] theorem State.setEcho_landmarks (s : State) (r : Rail) (x : EchoProcessor) : (s.setEcho r x).landmarks = s.landmarks := rfl
@[simp] theorem State.setEcho_marking (s : State) (r : Rail) (x : EchoProcessor) : (s.setEcho r x).marking = s.marking := rfl
@[simp] theorem State.setEcho_router (s : State) (r : Rail) (x : EchoProcessor) : (s.setEcho r x).router = s.router := rfl
@[simp] theorem State.setEcho_run (s : State) (r : Rail) (x : EchoProcessor) : (s.setEcho r x).run = s.run := rfl
@[simp] theorem State.setEcho_line (s : State) (r : Rail) (x : EchoProcessor) : (s.setEcho r x).line = s.line := rfl

@[simp] theorem State.setTracker_pending (s : State) (r : Rail) (x : Tracker) : (s.setTracker r x).pending = s.pending := rfl
@[simp] theorem State.setTracker_between (s : State) (r : Rail) (x : Tracker) : (s.setTracker r x).between = s.between := rfl
@[simp] theorem State.setTracker_now (s : State) (r : Rail) (x : Tracker) : (s.setTracker r x).now = s.now := rfl
@[simp] theorem State.setTracker_setup (s : State) (r : Rail) (x : Tracker) : (s.setTracker r x).setup = s.setup := rfl
@[simp] theorem State.setTracker_travel (s : State) (r : Rail) (x : Tracker) : (s.setTracker r x).travel = s.travel := rfl
@[simp] theorem State.setTracker_firing (s : State) (r : Rail) (x : Tracker) : (s.setTracker r x).firing = s.firing := rfl
@[simp] theorem State.setTracker_echo (s : State) (r : Rail) (x : Tracker) : (s.setTracker r x).echo = s.echo := rfl
@[simp] theorem State.setTracker_tracker (s : State) (r : Rail) (x : Tracker) : (s.setTracker r x).tracker = s.tracker.set r x := rfl
@[simp] theorem State.setTracker_assembler (s : State) (r : Rail) (x : Tracker) : (s.setTracker r x).assembler = s.assembler := rfl
@[simp] theorem State.setTracker_landmarks (s : State) (r : Rail) (x : Tracker) : (s.setTracker r x).landmarks = s.landmarks := rfl
@[simp] theorem State.setTracker_marking (s : State) (r : Rail) (x : Tracker) : (s.setTracker r x).marking = s.marking := rfl
@[simp] theorem State.setTracker_router (s : State) (r : Rail) (x : Tracker) : (s.setTracker r x).router = s.router := rfl
@[simp] theorem State.setTracker_run (s : State) (r : Rail) (x : Tracker) : (s.setTracker r x).run = s.run := rfl
@[simp] theorem State.setTracker_line (s : State) (r : Rail) (x : Tracker) : (s.setTracker r x).line = s.line := rfl

@[simp] theorem State.setAssembler_pending (s : State) (r : Rail) (x : Assembler) : (s.setAssembler r x).pending = s.pending := rfl
@[simp] theorem State.setAssembler_between (s : State) (r : Rail) (x : Assembler) : (s.setAssembler r x).between = s.between := rfl
@[simp] theorem State.setAssembler_now (s : State) (r : Rail) (x : Assembler) : (s.setAssembler r x).now = s.now := rfl
@[simp] theorem State.setAssembler_setup (s : State) (r : Rail) (x : Assembler) : (s.setAssembler r x).setup = s.setup := rfl
@[simp] theorem State.setAssembler_travel (s : State) (r : Rail) (x : Assembler) : (s.setAssembler r x).travel = s.travel := rfl
@[simp] theorem State.setAssembler_firing (s : State) (r : Rail) (x : Assembler) : (s.setAssembler r x).firing = s.firing := rfl
@[simp] theorem State.setAssembler_echo (s : State) (r : Rail) (x : Assembler) : (s.setAssembler r x).echo = s.echo := rfl
@[simp] theorem State.setAssembler_tracker (s : State) (r : Rail) (x : Assembler) : (s.setAssembler r x).tracker = s.tracker := rfl
@[simp] theorem State.setAssembler_assembler (s : State) (r : Rail) (x : Assembler) : (s.setAssembler r x).assembler = s.assembler.set r x := rfl
@[simp] theorem State.setAssembler_landmarks (s : State) (r : Rail) (x : Assembler) : (s.setAssembler r x).landmarks = s.landmarks := rfl
@[simp] theorem State.setAssembler_marking (s : State) (r : Rail) (x : Assembler) : (s.setAssembler r x).marking = s.marking := rfl
@[simp] theorem State.setAssembler_router (s : State) (r : Rail) (x : Assembler) : (s.setAssembler r x).router = s.router := rfl
@[simp] theorem State.setAssembler_run (s : State) (r : Rail) (x : Assembler) : (s.setAssembler r x).run = s.run := rfl
@[simp] theorem State.setAssembler_line (s : State) (r : Rail) (x : Assembler) : (s.setAssembler r x).line = s.line := rfl

@[simp] theorem State.setLandmarks_pending (s : State) (x : LandmarkList) : (s.setLandmarks x).pending = s.pending := rfl
@[simp] theorem State.setLandmarks_between (s : State) (x : LandmarkList) : (s.setLandmarks x).between = s.between := rfl
@[simp] theorem State.setLandmarks_now (s : State) (x : LandmarkList) : (s.setLandmarks x).now = s.now := rfl
@[simp] theorem State.setLandmarks_setup (s : State) (x : LandmarkList) : (s.setLandmarks x).setup = s.setup := rfl
@[simp] theorem State.setLandmarks_travel (s : State) (x : LandmarkList) : (s.setLandmarks x).travel = s.travel := rfl
@[simp] theorem State.setLandmarks_firing (s : State) (x : LandmarkList) : (s.setLandmarks x).firing = s.firing := rfl
@[simp] theorem State.setLandmarks_echo (s : State) (x : LandmarkList) : (s.setLandmarks x).echo = s.echo := rfl
@[simp] theorem State.setLandmarks_tracker (s : State) (x : LandmarkList) : (s.setLandmarks x).tracker = s.tracker := rfl
@[simp] theorem State.setLandmarks_assembler (s : State) (x : LandmarkList) : (s.setLandmarks x).assembler = s.assembler := rfl
@[simp] theorem State.setLandmarks_landmarks (s : State) (x : LandmarkList) : (s.setLandmarks x).landmarks = x := rfl
@[simp] theorem State.setLandmarks_marking (s : State) (x : LandmarkList) : (s.setLandmarks x).marking = s.marking := rfl
@[simp] theorem State.setLandmarks_router (s : State) (x : LandmarkList) : (s.setLandmarks x).router = s.router := rfl
@[simp] theorem State.setLandmarks_run (s : State) (x : LandmarkList) : (s.setLandmarks x).run = s.run := rfl
@[simp] theorem State.setLandmarks_line (s : State) (x : LandmarkList) : (s.setLandmarks x).line = s.line := rfl

@[simp] theorem State.setMarking_pending (s : State) (r : Rail) (x : MarkingUnit) : (s.setMarking r x).pending = s.pending := rfl
@[simp] theorem State.setMarking_between (s : State) (r : Rail) (x : MarkingUnit) : (s.setMarking r x).between = s.between := rfl
@[simp] theorem State.setMarking_now (s : State) (r : Rail) (x : MarkingUnit) : (s.setMarking r x).now = s.now := rfl
@[simp] theorem State.setMarking_setup (s : State) (r : Rail) (x : MarkingUnit) : (s.setMarking r x).setup = s.setup := rfl
@[simp] theorem State.setMarking_travel (s : State) (r : Rail) (x : MarkingUnit) : (s.setMarking r x).travel = s.travel := rfl
@[simp] theorem State.setMarking_firing (s : State) (r : Rail) (x : MarkingUnit) : (s.setMarking r x).firing = s.firing := rfl
@[simp] theorem State.setMarking_echo (s : State) (r : Rail) (x : MarkingUnit) : (s.setMarking r x).echo = s.echo := rfl
@[simp] theorem State.setMarking_tracker (s : State) (r : Rail) (x : MarkingUnit) : (s.setMarking r x).tracker = s.tracker := rfl
@[simp] theorem State.setMarking_assembler (s : State) (r : Rail) (x : MarkingUnit) : (s.setMarking r x).assembler = s.assembler := rfl
@[simp] theorem State.setMarking_landmarks (s : State) (r : Rail) (x : MarkingUnit) : (s.setMarking r x).landmarks = s.landmarks := rfl
@[simp] theorem State.setMarking_marking (s : State) (r : Rail) (x : MarkingUnit) : (s.setMarking r x).marking = s.marking.set r x := rfl
@[simp] theorem State.setMarking_router (s : State) (r : Rail) (x : MarkingUnit) : (s.setMarking r x).router = s.router := rfl
@[simp] theorem State.setMarking_run (s : State) (r : Rail) (x : MarkingUnit) : (s.setMarking r x).run = s.run := rfl
@[simp] theorem State.setMarking_line (s : State) (r : Rail) (x : MarkingUnit) : (s.setMarking r x).line = s.line := rfl

@[simp] theorem State.setRouter_pending (s : State) (x : Router) : (s.setRouter x).pending = s.pending := rfl
@[simp] theorem State.setRouter_between (s : State) (x : Router) : (s.setRouter x).between = s.between := rfl
@[simp] theorem State.setRouter_now (s : State) (x : Router) : (s.setRouter x).now = s.now := rfl
@[simp] theorem State.setRouter_setup (s : State) (x : Router) : (s.setRouter x).setup = s.setup := rfl
@[simp] theorem State.setRouter_travel (s : State) (x : Router) : (s.setRouter x).travel = s.travel := rfl
@[simp] theorem State.setRouter_firing (s : State) (x : Router) : (s.setRouter x).firing = s.firing := rfl
@[simp] theorem State.setRouter_echo (s : State) (x : Router) : (s.setRouter x).echo = s.echo := rfl
@[simp] theorem State.setRouter_tracker (s : State) (x : Router) : (s.setRouter x).tracker = s.tracker := rfl
@[simp] theorem State.setRouter_assembler (s : State) (x : Router) : (s.setRouter x).assembler = s.assembler := rfl
@[simp] theorem State.setRouter_landmarks (s : State) (x : Router) : (s.setRouter x).landmarks = s.landmarks := rfl
@[simp] theorem State.setRouter_marking (s : State) (x : Router) : (s.setRouter x).marking = s.marking := rfl
@[simp] theorem State.setRouter_router (s : State) (x : Router) : (s.setRouter x).router = x := rfl
@[simp] theorem State.setRouter_run (s : State) (x : Router) : (s.setRouter x).run = s.run := rfl
@[simp] theorem State.setRouter_line (s : State) (x : Router) : (s.setRouter x).line = s.line := rfl

@[simp] theorem State.setRun_pending (s : State) (x : RunControl) : (s.setRun x).pending = s.pending := rfl
@[simp] theorem State.setRun_between (s : State) (x : RunControl) : (s.setRun x).between = s.between := rfl
@[simp] theorem State.setRun_now (s : State) (x : RunControl) : (s.setRun x).now = s.now := rfl
@[simp] theorem State.setRun_setup (s : State) (x : RunControl) : (s.setRun x).setup = s.setup := rfl
@[simp] theorem State.setRun_travel (s : State) (x : RunControl) : (s.setRun x).travel = s.travel := rfl
@[simp] theorem State.setRun_firing (s : State) (x : RunControl) : (s.setRun x).firing = s.firing := rfl
@[simp] theorem State.setRun_echo (s : State) (x : RunControl) : (s.setRun x).echo = s.echo := rfl
@[simp] theorem State.setRun_tracker (s : State) (x : RunControl) : (s.setRun x).tracker = s.tracker := rfl
@[simp] theorem State.setRun_assembler (s : State) (x : RunControl) : (s.setRun x).assembler = s.assembler := rfl
@[simp] theorem State.setRun_landmarks (s : State) (x : RunControl) : (s.setRun x).landmarks = s.landmarks := rfl
@[simp] theorem State.setRun_marking (s : State) (x : RunControl) : (s.setRun x).marking = s.marking := rfl
@[simp] theorem State.setRun_router (s : State) (x : RunControl) : (s.setRun x).router = s.router := rfl
@[simp] theorem State.setRun_run (s : State) (x : RunControl) : (s.setRun x).run = x := rfl
@[simp] theorem State.setRun_line (s : State) (x : RunControl) : (s.setRun x).line = s.line := rfl

@[simp] theorem State.setLine_pending (s : State) (x : Line) : (s.setLine x).pending = s.pending := rfl
@[simp] theorem State.setLine_between (s : State) (x : Line) : (s.setLine x).between = s.between := rfl
@[simp] theorem State.setLine_now (s : State) (x : Line) : (s.setLine x).now = s.now := rfl
@[simp] theorem State.setLine_setup (s : State) (x : Line) : (s.setLine x).setup = s.setup := rfl
@[simp] theorem State.setLine_travel (s : State) (x : Line) : (s.setLine x).travel = s.travel := rfl
@[simp] theorem State.setLine_firing (s : State) (x : Line) : (s.setLine x).firing = s.firing := rfl
@[simp] theorem State.setLine_echo (s : State) (x : Line) : (s.setLine x).echo = s.echo := rfl
@[simp] theorem State.setLine_tracker (s : State) (x : Line) : (s.setLine x).tracker = s.tracker := rfl
@[simp] theorem State.setLine_assembler (s : State) (x : Line) : (s.setLine x).assembler = s.assembler := rfl
@[simp] theorem State.setLine_landmarks (s : State) (x : Line) : (s.setLine x).landmarks = s.landmarks := rfl
@[simp] theorem State.setLine_marking (s : State) (x : Line) : (s.setLine x).marking = s.marking := rfl
@[simp] theorem State.setLine_router (s : State) (x : Line) : (s.setLine x).router = s.router := rfl
@[simp] theorem State.setLine_run (s : State) (x : Line) : (s.setLine x).run = s.run := rfl
@[simp] theorem State.setLine_line (s : State) (x : Line) : (s.setLine x).line = x := rfl

end Sys2Proof.Machine
end

