-- ==== Sys2Proof/Laws/Handovers.lean ====
section
/-! SUPPORT. What each handover and each change of state that is handed on can do: one lemma per field. -/

namespace Sys2Proof.Machine

@[simp] theorem State.offer_pending (s : State) (x : Record) : (s.offer x).pending = s.pending := rfl
@[simp] theorem State.offer_between (s : State) (x : Record) : (s.offer x).between = s.between := rfl
@[simp] theorem State.offer_now (s : State) (x : Record) : (s.offer x).now = s.now := rfl
@[simp] theorem State.offer_setup (s : State) (x : Record) : (s.offer x).setup = s.setup := rfl
@[simp] theorem State.offer_travel (s : State) (x : Record) : (s.offer x).travel = s.travel := rfl
@[simp] theorem State.offer_firing (s : State) (x : Record) : (s.offer x).firing = s.firing := rfl
@[simp] theorem State.offer_echo (s : State) (x : Record) : (s.offer x).echo = s.echo := rfl
@[simp] theorem State.offer_tracker (s : State) (x : Record) : (s.offer x).tracker = s.tracker := rfl
@[simp] theorem State.offer_assembler (s : State) (x : Record) : (s.offer x).assembler = s.assembler := rfl
@[simp] theorem State.offer_landmarks (s : State) (x : Record) : (s.offer x).landmarks = s.landmarks := rfl
@[simp] theorem State.offer_marking (s : State) (x : Record) : (s.offer x).marking = s.marking := rfl
@[simp] theorem State.offer_router (s : State) (x : Record) : (s.offer x).router = s.router := rfl
@[simp] theorem State.offer_run (s : State) (x : Record) : (s.offer x).run = s.run := rfl
@[simp] theorem State.offer_line (s : State) (x : Record) : (s.offer x).line = { s.line with inbox := s.line.inbox ++ [.offer x] } := rfl

@[simp] theorem State.handChange_pending (s : State) (x : Change) : (s.handChange x).pending = s.pending := rfl
@[simp] theorem State.handChange_between (s : State) (x : Change) : (s.handChange x).between = s.between := rfl
@[simp] theorem State.handChange_now (s : State) (x : Change) : (s.handChange x).now = s.now := rfl
@[simp] theorem State.handChange_setup (s : State) (x : Change) : (s.handChange x).setup = s.setup := rfl
@[simp] theorem State.handChange_travel (s : State) (x : Change) : (s.handChange x).travel = s.travel := rfl
@[simp] theorem State.handChange_firing (s : State) (x : Change) : (s.handChange x).firing = s.firing := rfl
@[simp] theorem State.handChange_echo (s : State) (x : Change) : (s.handChange x).echo = s.echo := rfl
@[simp] theorem State.handChange_tracker (s : State) (x : Change) : (s.handChange x).tracker = s.tracker := rfl
@[simp] theorem State.handChange_assembler (s : State) (x : Change) : (s.handChange x).assembler = s.assembler := rfl
@[simp] theorem State.handChange_landmarks (s : State) (x : Change) : (s.handChange x).landmarks = s.landmarks := rfl
@[simp] theorem State.handChange_marking (s : State) (x : Change) : (s.handChange x).marking = s.marking := rfl
@[simp] theorem State.handChange_router (s : State) (x : Change) : (s.handChange x).router = s.router := rfl
@[simp] theorem State.handChange_run (s : State) (x : Change) : (s.handChange x).run = s.run := rfl
@[simp] theorem State.handChange_line (s : State) (x : Change) : (s.handChange x).line = { s.line with inbox := s.line.inbox ++ [.change x] } := rfl

@[simp] theorem State.handLevel_pending (s : State) (x : LevelHandover) : (s.handLevel x).pending = s.pending := rfl
@[simp] theorem State.handLevel_between (s : State) (x : LevelHandover) : (s.handLevel x).between = s.between := rfl
@[simp] theorem State.handLevel_now (s : State) (x : LevelHandover) : (s.handLevel x).now = s.now := rfl
@[simp] theorem State.handLevel_setup (s : State) (x : LevelHandover) : (s.handLevel x).setup = s.setup := rfl
@[simp] theorem State.handLevel_travel (s : State) (x : LevelHandover) : (s.handLevel x).travel = s.travel := rfl
@[simp] theorem State.handLevel_firing (s : State) (x : LevelHandover) : (s.handLevel x).firing = s.firing := rfl
@[simp] theorem State.handLevel_echo (s : State) (x : LevelHandover) : (s.handLevel x).echo = s.echo := rfl
@[simp] theorem State.handLevel_tracker (s : State) (x : LevelHandover) : (s.handLevel x).tracker = s.tracker := rfl
@[simp] theorem State.handLevel_assembler (s : State) (x : LevelHandover) : (s.handLevel x).assembler = s.assembler := rfl
@[simp] theorem State.handLevel_landmarks (s : State) (x : LevelHandover) : (s.handLevel x).landmarks = s.landmarks := rfl
@[simp] theorem State.handLevel_marking (s : State) (x : LevelHandover) : (s.handLevel x).marking = s.marking := rfl
@[simp] theorem State.handLevel_router (s : State) (x : LevelHandover) : (s.handLevel x).router = { s.router with levels := s.router.levels ++ [x] } := rfl
@[simp] theorem State.handLevel_run (s : State) (x : LevelHandover) : (s.handLevel x).run = s.run := rfl
@[simp] theorem State.handLevel_line (s : State) (x : LevelHandover) : (s.handLevel x).line = s.line := rfl

@[simp] theorem State.handPulse_pending (s : State) (x : Pulse) : (s.handPulse x).pending = s.pending := rfl
@[simp] theorem State.handPulse_between (s : State) (x : Pulse) : (s.handPulse x).between = s.between := rfl
@[simp] theorem State.handPulse_now (s : State) (x : Pulse) : (s.handPulse x).now = s.now := rfl
@[simp] theorem State.handPulse_setup (s : State) (x : Pulse) : (s.handPulse x).setup = s.setup := rfl
@[simp] theorem State.handPulse_travel (s : State) (x : Pulse) : (s.handPulse x).travel = s.travel := rfl
@[simp] theorem State.handPulse_firing (s : State) (x : Pulse) : (s.handPulse x).firing = s.firing := rfl
@[simp] theorem State.handPulse_echo (s : State) (x : Pulse) : (s.handPulse x).echo = s.echo := rfl
@[simp] theorem State.handPulse_tracker (s : State) (x : Pulse) : (s.handPulse x).tracker = s.tracker := rfl
@[simp] theorem State.handPulse_assembler (s : State) (x : Pulse) : (s.handPulse x).assembler = s.assembler := rfl
@[simp] theorem State.handPulse_landmarks (s : State) (x : Pulse) : (s.handPulse x).landmarks = s.landmarks := rfl
@[simp] theorem State.handPulse_marking (s : State) (x : Pulse) : (s.handPulse x).marking = s.marking := rfl
@[simp] theorem State.handPulse_router (s : State) (x : Pulse) : (s.handPulse x).router = { s.router with pulses := s.router.pulses ++ [x] } := rfl
@[simp] theorem State.handPulse_run (s : State) (x : Pulse) : (s.handPulse x).run = s.run := rfl
@[simp] theorem State.handPulse_line (s : State) (x : Pulse) : (s.handPulse x).line = s.line := rfl

@[simp] theorem State.toEcho_pending (s : State) (r : Rail) (x : EchoItem) : (s.toEcho r x).pending = s.pending := rfl
@[simp] theorem State.toEcho_between (s : State) (r : Rail) (x : EchoItem) : (s.toEcho r x).between = s.between := rfl
@[simp] theorem State.toEcho_now (s : State) (r : Rail) (x : EchoItem) : (s.toEcho r x).now = s.now := rfl
@[simp] theorem State.toEcho_setup (s : State) (r : Rail) (x : EchoItem) : (s.toEcho r x).setup = s.setup := rfl
@[simp] theorem State.toEcho_travel (s : State) (r : Rail) (x : EchoItem) : (s.toEcho r x).travel = s.travel := rfl
@[simp] theorem State.toEcho_firing (s : State) (r : Rail) (x : EchoItem) : (s.toEcho r x).firing = s.firing := rfl
@[simp] theorem State.toEcho_echo (s : State) (r : Rail) (x : EchoItem) : (s.toEcho r x).echo = s.echo.set r { s.echo.get r with inbox := (s.echo.get r).inbox ++ [x] } := rfl
@[simp] theorem State.toEcho_tracker (s : State) (r : Rail) (x : EchoItem) : (s.toEcho r x).tracker = s.tracker := rfl
@[simp] theorem State.toEcho_assembler (s : State) (r : Rail) (x : EchoItem) : (s.toEcho r x).assembler = s.assembler := rfl
@[simp] theorem State.toEcho_landmarks (s : State) (r : Rail) (x : EchoItem) : (s.toEcho r x).landmarks = s.landmarks := rfl
@[simp] theorem State.toEcho_marking (s : State) (r : Rail) (x : EchoItem) : (s.toEcho r x).marking = s.marking := rfl
@[simp] theorem State.toEcho_router (s : State) (r : Rail) (x : EchoItem) : (s.toEcho r x).router = s.router := rfl
@[simp] theorem State.toEcho_run (s : State) (r : Rail) (x : EchoItem) : (s.toEcho r x).run = s.run := rfl
@[simp] theorem State.toEcho_line (s : State) (r : Rail) (x : EchoItem) : (s.toEcho r x).line = s.line := rfl

@[simp] theorem State.toTracker_pending (s : State) (r : Rail) (x : TrackerItem) : (s.toTracker r x).pending = s.pending := rfl
@[simp] theorem State.toTracker_between (s : State) (r : Rail) (x : TrackerItem) : (s.toTracker r x).between = s.between := rfl
@[simp] theorem State.toTracker_now (s : State) (r : Rail) (x : TrackerItem) : (s.toTracker r x).now = s.now := rfl
@[simp] theorem State.toTracker_setup (s : State) (r : Rail) (x : TrackerItem) : (s.toTracker r x).setup = s.setup := rfl
@[simp] theorem State.toTracker_travel (s : State) (r : Rail) (x : TrackerItem) : (s.toTracker r x).travel = s.travel := rfl
@[simp] theorem State.toTracker_firing (s : State) (r : Rail) (x : TrackerItem) : (s.toTracker r x).firing = s.firing := rfl
@[simp] theorem State.toTracker_echo (s : State) (r : Rail) (x : TrackerItem) : (s.toTracker r x).echo = s.echo := rfl
@[simp] theorem State.toTracker_tracker (s : State) (r : Rail) (x : TrackerItem) : (s.toTracker r x).tracker = s.tracker.set r { s.tracker.get r with inbox := (s.tracker.get r).inbox ++ [x] } := rfl
@[simp] theorem State.toTracker_assembler (s : State) (r : Rail) (x : TrackerItem) : (s.toTracker r x).assembler = s.assembler := rfl
@[simp] theorem State.toTracker_landmarks (s : State) (r : Rail) (x : TrackerItem) : (s.toTracker r x).landmarks = s.landmarks := rfl
@[simp] theorem State.toTracker_marking (s : State) (r : Rail) (x : TrackerItem) : (s.toTracker r x).marking = s.marking := rfl
@[simp] theorem State.toTracker_router (s : State) (r : Rail) (x : TrackerItem) : (s.toTracker r x).router = s.router := rfl
@[simp] theorem State.toTracker_run (s : State) (r : Rail) (x : TrackerItem) : (s.toTracker r x).run = s.run := rfl
@[simp] theorem State.toTracker_line (s : State) (r : Rail) (x : TrackerItem) : (s.toTracker r x).line = s.line := rfl

@[simp] theorem State.toAssembler_pending (s : State) (r : Rail) (x : AssemblerItem) : (s.toAssembler r x).pending = s.pending := rfl
@[simp] theorem State.toAssembler_between (s : State) (r : Rail) (x : AssemblerItem) : (s.toAssembler r x).between = s.between := rfl
@[simp] theorem State.toAssembler_now (s : State) (r : Rail) (x : AssemblerItem) : (s.toAssembler r x).now = s.now := rfl
@[simp] theorem State.toAssembler_setup (s : State) (r : Rail) (x : AssemblerItem) : (s.toAssembler r x).setup = s.setup := rfl
@[simp] theorem State.toAssembler_travel (s : State) (r : Rail) (x : AssemblerItem) : (s.toAssembler r x).travel = s.travel := rfl
@[simp] theorem State.toAssembler_firing (s : State) (r : Rail) (x : AssemblerItem) : (s.toAssembler r x).firing = s.firing := rfl
@[simp] theorem State.toAssembler_echo (s : State) (r : Rail) (x : AssemblerItem) : (s.toAssembler r x).echo = s.echo := rfl
@[simp] theorem State.toAssembler_tracker (s : State) (r : Rail) (x : AssemblerItem) : (s.toAssembler r x).tracker = s.tracker := rfl
@[simp] theorem State.toAssembler_assembler (s : State) (r : Rail) (x : AssemblerItem) : (s.toAssembler r x).assembler = s.assembler.set r { s.assembler.get r with inbox := (s.assembler.get r).inbox ++ [x] } := rfl
@[simp] theorem State.toAssembler_landmarks (s : State) (r : Rail) (x : AssemblerItem) : (s.toAssembler r x).landmarks = s.landmarks := rfl
@[simp] theorem State.toAssembler_marking (s : State) (r : Rail) (x : AssemblerItem) : (s.toAssembler r x).marking = s.marking := rfl
@[simp] theorem State.toAssembler_router (s : State) (r : Rail) (x : AssemblerItem) : (s.toAssembler r x).router = s.router := rfl
@[simp] theorem State.toAssembler_run (s : State) (r : Rail) (x : AssemblerItem) : (s.toAssembler r x).run = s.run := rfl
@[simp] theorem State.toAssembler_line (s : State) (r : Rail) (x : AssemblerItem) : (s.toAssembler r x).line = s.line := rfl

@[simp] theorem State.requestMark_pending (s : State) (r : Rail) (x : MarkRequest) : (s.requestMark r x).pending = s.pending := rfl
@[simp] theorem State.requestMark_between (s : State) (r : Rail) (x : MarkRequest) : (s.requestMark r x).between = s.between := rfl
@[simp] theorem State.requestMark_now (s : State) (r : Rail) (x : MarkRequest) : (s.requestMark r x).now = s.now := rfl
@[simp] theorem State.requestMark_setup (s : State) (r : Rail) (x : MarkRequest) : (s.requestMark r x).setup = s.setup := rfl
@[simp] theorem State.requestMark_travel (s : State) (r : Rail) (x : MarkRequest) : (s.requestMark r x).travel = s.travel := rfl
@[simp] theorem State.requestMark_firing (s : State) (r : Rail) (x : MarkRequest) : (s.requestMark r x).firing = s.firing := rfl
@[simp] theorem State.requestMark_echo (s : State) (r : Rail) (x : MarkRequest) : (s.requestMark r x).echo = s.echo := rfl
@[simp] theorem State.requestMark_tracker (s : State) (r : Rail) (x : MarkRequest) : (s.requestMark r x).tracker = s.tracker := rfl
@[simp] theorem State.requestMark_assembler (s : State) (r : Rail) (x : MarkRequest) : (s.requestMark r x).assembler = s.assembler := rfl
@[simp] theorem State.requestMark_landmarks (s : State) (r : Rail) (x : MarkRequest) : (s.requestMark r x).landmarks = s.landmarks := rfl
@[simp] theorem State.requestMark_marking (s : State) (r : Rail) (x : MarkRequest) : (s.requestMark r x).marking = s.marking.set r { s.marking.get r with requests := (s.marking.get r).requests ++ [x] } := rfl
@[simp] theorem State.requestMark_router (s : State) (r : Rail) (x : MarkRequest) : (s.requestMark r x).router = s.router := rfl
@[simp] theorem State.requestMark_run (s : State) (r : Rail) (x : MarkRequest) : (s.requestMark r x).run = s.run := rfl
@[simp] theorem State.requestMark_line (s : State) (r : Rail) (x : MarkRequest) : (s.requestMark r x).line = s.line := rfl

@[simp] theorem State.setMotion_pending (s : State) (x : Motion) : (s.setMotion x).pending = s.pending := by
  simp only [State.setMotion]; split <;> rfl
@[simp] theorem State.setMotion_between (s : State) (x : Motion) : (s.setMotion x).between = s.between := by
  simp only [State.setMotion]; split <;> rfl
@[simp] theorem State.setMotion_now (s : State) (x : Motion) : (s.setMotion x).now = s.now := by
  simp only [State.setMotion]; split <;> rfl
@[simp] theorem State.setMotion_setup (s : State) (x : Motion) : (s.setMotion x).setup = s.setup := by
  simp only [State.setMotion]; split <;> rfl
@[simp] theorem State.setMotion_firing (s : State) (x : Motion) : (s.setMotion x).firing = s.firing := by
  simp only [State.setMotion]; split <;> rfl
@[simp] theorem State.setMotion_echo (s : State) (x : Motion) : (s.setMotion x).echo = s.echo := by
  simp only [State.setMotion]; split <;> rfl
@[simp] theorem State.setMotion_tracker (s : State) (x : Motion) : (s.setMotion x).tracker = s.tracker := by
  simp only [State.setMotion]; split <;> rfl
@[simp] theorem State.setMotion_assembler (s : State) (x : Motion) : (s.setMotion x).assembler = s.assembler := by
  simp only [State.setMotion]; split <;> rfl
@[simp] theorem State.setMotion_landmarks (s : State) (x : Motion) : (s.setMotion x).landmarks = s.landmarks := by
  simp only [State.setMotion]; split <;> rfl
@[simp] theorem State.setMotion_router (s : State) (x : Motion) : (s.setMotion x).router = s.router := by
  simp only [State.setMotion]; split <;> rfl
@[simp] theorem State.setMotion_run (s : State) (x : Motion) : (s.setMotion x).run = s.run := by
  simp only [State.setMotion]; split <;> rfl

@[simp] theorem State.setRunState_pending (s : State) (x : RunState) : (s.setRunState x).pending = s.pending := by
  simp only [State.setRunState]; split <;> rfl
@[simp] theorem State.setRunState_between (s : State) (x : RunState) : (s.setRunState x).between = s.between := by
  simp only [State.setRunState]; split <;> rfl
@[simp] theorem State.setRunState_now (s : State) (x : RunState) : (s.setRunState x).now = s.now := by
  simp only [State.setRunState]; split <;> rfl
@[simp] theorem State.setRunState_setup (s : State) (x : RunState) : (s.setRunState x).setup = s.setup := by
  simp only [State.setRunState]; split <;> rfl
@[simp] theorem State.setRunState_travel (s : State) (x : RunState) : (s.setRunState x).travel = s.travel := by
  simp only [State.setRunState]; split <;> rfl
@[simp] theorem State.setRunState_firing (s : State) (x : RunState) : (s.setRunState x).firing = s.firing := by
  simp only [State.setRunState]; split <;> rfl
@[simp] theorem State.setRunState_echo (s : State) (x : RunState) : (s.setRunState x).echo = s.echo := by
  simp only [State.setRunState]; split <;> rfl
@[simp] theorem State.setRunState_tracker (s : State) (x : RunState) : (s.setRunState x).tracker = s.tracker := by
  simp only [State.setRunState]; split <;> rfl
@[simp] theorem State.setRunState_assembler (s : State) (x : RunState) : (s.setRunState x).assembler = s.assembler := by
  simp only [State.setRunState]; split <;> rfl
@[simp] theorem State.setRunState_landmarks (s : State) (x : RunState) : (s.setRunState x).landmarks = s.landmarks := by
  simp only [State.setRunState]; split <;> rfl
@[simp] theorem State.setRunState_marking (s : State) (x : RunState) : (s.setRunState x).marking = s.marking := by
  simp only [State.setRunState]; split <;> rfl

@[simp] theorem State.setCover_pending (s : State) (r : Rail) (ch : Channel) (x : Cover) : (s.setCover r ch x).pending = s.pending := by
  simp only [State.setCover]; split <;> rfl
@[simp] theorem State.setCover_between (s : State) (r : Rail) (ch : Channel) (x : Cover) : (s.setCover r ch x).between = s.between := by
  simp only [State.setCover]; split <;> rfl
@[simp] theorem State.setCover_now (s : State) (r : Rail) (ch : Channel) (x : Cover) : (s.setCover r ch x).now = s.now := by
  simp only [State.setCover]; split <;> rfl
@[simp] theorem State.setCover_setup (s : State) (r : Rail) (ch : Channel) (x : Cover) : (s.setCover r ch x).setup = s.setup := by
  simp only [State.setCover]; split <;> rfl
@[simp] theorem State.setCover_travel (s : State) (r : Rail) (ch : Channel) (x : Cover) : (s.setCover r ch x).travel = s.travel := by
  simp only [State.setCover]; split <;> rfl
@[simp] theorem State.setCover_firing (s : State) (r : Rail) (ch : Channel) (x : Cover) : (s.setCover r ch x).firing = s.firing := by
  simp only [State.setCover]; split <;> rfl
@[simp] theorem State.setCover_tracker (s : State) (r : Rail) (ch : Channel) (x : Cover) : (s.setCover r ch x).tracker = s.tracker := by
  simp only [State.setCover]; split <;> rfl
@[simp] theorem State.setCover_assembler (s : State) (r : Rail) (ch : Channel) (x : Cover) : (s.setCover r ch x).assembler = s.assembler := by
  simp only [State.setCover]; split <;> rfl
@[simp] theorem State.setCover_landmarks (s : State) (r : Rail) (ch : Channel) (x : Cover) : (s.setCover r ch x).landmarks = s.landmarks := by
  simp only [State.setCover]; split <;> rfl
@[simp] theorem State.setCover_marking (s : State) (r : Rail) (ch : Channel) (x : Cover) : (s.setCover r ch x).marking = s.marking := by
  simp only [State.setCover]; split <;> rfl
@[simp] theorem State.setCover_run (s : State) (r : Rail) (ch : Channel) (x : Cover) : (s.setCover r ch x).run = s.run := by
  simp only [State.setCover]; split <;> rfl

@[simp] theorem State.setSpray_pending (s : State) (r : Rail) (x : Option Nat) : (s.setSpray r x).pending = s.pending := by
  simp only [State.setSpray]; split <;> rfl
@[simp] theorem State.setSpray_between (s : State) (r : Rail) (x : Option Nat) : (s.setSpray r x).between = s.between := by
  simp only [State.setSpray]; split <;> rfl
@[simp] theorem State.setSpray_now (s : State) (r : Rail) (x : Option Nat) : (s.setSpray r x).now = s.now := by
  simp only [State.setSpray]; split <;> rfl
@[simp] theorem State.setSpray_setup (s : State) (r : Rail) (x : Option Nat) : (s.setSpray r x).setup = s.setup := by
  simp only [State.setSpray]; split <;> rfl
@[simp] theorem State.setSpray_travel (s : State) (r : Rail) (x : Option Nat) : (s.setSpray r x).travel = s.travel := by
  simp only [State.setSpray]; split <;> rfl
@[simp] theorem State.setSpray_firing (s : State) (r : Rail) (x : Option Nat) : (s.setSpray r x).firing = s.firing := by
  simp only [State.setSpray]; split <;> rfl
@[simp] theorem State.setSpray_echo (s : State) (r : Rail) (x : Option Nat) : (s.setSpray r x).echo = s.echo := by
  simp only [State.setSpray]; split <;> rfl
@[simp] theorem State.setSpray_tracker (s : State) (r : Rail) (x : Option Nat) : (s.setSpray r x).tracker = s.tracker := by
  simp only [State.setSpray]; split <;> rfl
@[simp] theorem State.setSpray_assembler (s : State) (r : Rail) (x : Option Nat) : (s.setSpray r x).assembler = s.assembler := by
  simp only [State.setSpray]; split <;> rfl
@[simp] theorem State.setSpray_landmarks (s : State) (r : Rail) (x : Option Nat) : (s.setSpray r x).landmarks = s.landmarks := by
  simp only [State.setSpray]; split <;> rfl
@[simp] theorem State.setSpray_run (s : State) (r : Rail) (x : Option Nat) : (s.setSpray r x).run = s.run := by
  simp only [State.setSpray]; split <;> rfl
@[simp] theorem State.setSpray_line (s : State) (r : Rail) (x : Option Nat) : (s.setSpray r x).line = s.line := by
  simp only [State.setSpray]; split <;> rfl

@[simp] theorem State.setSilence_pending (s : State) (x : Bool) : (s.setSilence x).pending = s.pending := by
  simp only [State.setSilence]; split <;> rfl
@[simp] theorem State.setSilence_between (s : State) (x : Bool) : (s.setSilence x).between = s.between := by
  simp only [State.setSilence]; split <;> rfl
@[simp] theorem State.setSilence_now (s : State) (x : Bool) : (s.setSilence x).now = s.now := by
  simp only [State.setSilence]; split <;> rfl
@[simp] theorem State.setSilence_setup (s : State) (x : Bool) : (s.setSilence x).setup = s.setup := by
  simp only [State.setSilence]; split <;> rfl
@[simp] theorem State.setSilence_travel (s : State) (x : Bool) : (s.setSilence x).travel = s.travel := by
  simp only [State.setSilence]; split <;> rfl
@[simp] theorem State.setSilence_firing (s : State) (x : Bool) : (s.setSilence x).firing = s.firing := by
  simp only [State.setSilence]; split <;> rfl
@[simp] theorem State.setSilence_echo (s : State) (x : Bool) : (s.setSilence x).echo = s.echo := by
  simp only [State.setSilence]; split <;> rfl
@[simp] theorem State.setSilence_tracker (s : State) (x : Bool) : (s.setSilence x).tracker = s.tracker := by
  simp only [State.setSilence]; split <;> rfl
@[simp] theorem State.setSilence_assembler (s : State) (x : Bool) : (s.setSilence x).assembler = s.assembler := by
  simp only [State.setSilence]; split <;> rfl
@[simp] theorem State.setSilence_landmarks (s : State) (x : Bool) : (s.setSilence x).landmarks = s.landmarks := by
  simp only [State.setSilence]; split <;> rfl
@[simp] theorem State.setSilence_marking (s : State) (x : Bool) : (s.setSilence x).marking = s.marking := by
  simp only [State.setSilence]; split <;> rfl
@[simp] theorem State.setSilence_run (s : State) (x : Bool) : (s.setSilence x).run = s.run := by
  simp only [State.setSilence]; split <;> rfl

@[simp] theorem State.handMotion_marking (s : State) (r : Rail) (m : Motion) :
    (s.handMotion r m).marking = s.marking.set r { s.marking.get r with motion := m } := rfl
@[simp] theorem State.handMotion_line (s : State) (r : Rail) (m : Motion) : (s.handMotion r m).line = s.line := rfl
/-- A change of motion is held by both marking units (R9). -/
theorem State.setMotion_marking (s : State) (x : Motion) :
    (s.setMotion x).marking =
      if s.travel.motion = x then s.marking
      else ⟨{ s.marking.left with motion := x }, { s.marking.right with motion := x }⟩ := by
  simp only [State.setMotion]; split <;> rfl
@[simp] theorem State.setMotion_travel (s : State) (x : Motion) : (s.setMotion x).travel = { s.travel with motion := x } := by
  simp only [State.setMotion]; split <;> rfl
@[simp] theorem State.setRunState_run (s : State) (x : RunState) : (s.setRunState x).run = { s.run with state := x } := by
  simp only [State.setRunState]; split <;> rfl
@[simp] theorem State.setCover_echo (s : State) (r : Rail) (ch : Channel) (x : Cover) :
    (s.setCover r ch x).echo = s.echo.set r { s.echo.get r with cover := setAt (s.echo.get r).cover ch x } := by
  simp only [State.setCover]; split <;> rfl
@[simp] theorem State.setSpray_marking (s : State) (r : Rail) (x : Option Nat) :
    (s.setSpray r x).marking = s.marking.set r { s.marking.get r with sprayEnd := x } := by
  simp only [State.setSpray]; split <;> rfl

/-! ### The line interface and the router after a change that is handed on -/

/-- What a handed change adds to the line interface's inputs. -/
def changeItems (moved : Bool) (c : Change) : List LineItem := if moved then [.change c] else []

theorem State.setMotion_line (s : State) (x : Motion) :
    (s.setMotion x).line = { s.line with inbox := s.line.inbox ++ changeItems (s.travel.motion != x) .motion } := by
  simp only [State.setMotion, changeItems]; split <;> simp_all

theorem State.setRunState_line (s : State) (x : RunState) :
    (s.setRunState x).line = { s.line with inbox := s.line.inbox ++ changeItems (s.run.state != x) .runState } := by
  simp only [State.setRunState, changeItems]; split <;> simp_all

theorem State.setCover_line (s : State) (r : Rail) (ch : Channel) (x : Cover) :
    (s.setCover r ch x).line =
      { s.line with
        inbox := s.line.inbox ++ changeItems ((s.echo.get r).cover[ch].coupling != x.coupling) (.coupling r ch) } := by
  simp only [State.setCover, changeItems]; split <;> simp_all

theorem State.setSilence_line (s : State) (x : Bool) :
    (s.setSilence x).line =
      { s.line with silence := x, inbox := s.line.inbox ++ changeItems (s.line.silence != x) .silence } := by
  simp only [State.setSilence, changeItems]; split <;> simp_all

/-! ### Offers in a row -/

/-- Offering a list of records touches the line interface's inputs alone, in the list's order. -/
theorem foldl_offer (rs : List Record) (s : State) :
    rs.foldl State.offer s = s.setLine { s.line with inbox := s.line.inbox ++ rs.map LineItem.offer } := by
  induction rs generalizing s with
  | nil => simp [State.setLine]
  | cons r rest ih => rw [List.foldl_cons, ih]; simp [State.offer, State.setLine]

/-- A fold keeps what each of its steps keeps. -/
theorem foldl_keeps {α β : Type} (f : State → α → State) (get : State → β) (h : ∀ s a, get (f s a) = get s) (l : List α)
    (s : State) : get (l.foldl f s) = get s := by
  induction l generalizing s with
  | nil => rfl
  | cons a rest ih => rw [List.foldl_cons, ih, h]

/-- A fold keeps a property that each of its steps keeps. -/
theorem foldl_invariant {α : Type} (f : State → α → State) (P : State → Prop) (h : ∀ s a, P s → P (f s a)) (l : List α)
    (s : State) (hs : P s) : P (l.foldl f s) := by
  induction l generalizing s with
  | nil => exact hs
  | cons a rest ih => exact ih _ (h s a hs)

end Sys2Proof.Machine
end

