-- ==== Sys2Proof/Laws/Requests.lean ====
section
/-! SUPPORT. What taking a request does: one lemma per way it can go. The provers cite these instead of unfolding
`request`. -/

namespace Sys2Proof.Machine

/-- The request waiting at the head of the buffer is taken. -/
theorem takeRequest_heads {k : RequestKind} {s : State} {f : Frame} {rest : List Frame} (h : requestHeads s k f rest) :
    takeRequest k s = some (f, s.setLine { s.line with input := rest }) := by
  obtain ⟨hi, hr, hk⟩ := h
  simp [takeRequest, hi, hk, Config.replyCapacity, hr]

/-- A request whose body is as long as its fields declare acts on the state without it. -/
theorem request_waits {k : RequestKind} {n : Nat} {s : State} {f : Frame} {rest : List Frame}
    (h : requestWaits s k n f rest) (act : Frame → State → State) :
    request k n s act = act f (s.setLine { s.line with input := rest }) := by
  simp [request, takeRequest_heads h.1, h.2]

/-- A request whose body has another length is answered LENGTH. -/
theorem request_length {k : RequestKind} {n : Nat} {s : State} {f : Frame} {rest : List Frame}
    (h : requestHeads s k f rest) (hl : f.body.length ≠ 4 + n) (act : Frame → State → State) :
    request k n s act = answered s f rest .length 0 .headOnly := by
  simp [request, takeRequest_heads h, hl, State.reply, answered, answeredLine, State.setLine]

theorem takeRequest_none {k : RequestKind} {s : State} (h : ¬ s.requestFits k) : takeRequest k s = none := by
  unfold takeRequest
  split
  · rfl
  · split
    · rename_i f rest hi hc
      exact absurd ⟨f, rest, hi, hc⟩ h
    · rfl

/-- Where no request of the kind can be taken nothing happens. -/
theorem request_none {k : RequestKind} {s : State} (h : takeRequest k s = none) (n : Nat) (act : Frame → State → State) :
    request k n s act = s := by
  simp [request, h]

/-- A reply placed on a state whose request has left the buffer. -/
theorem reply_after (s : State) (f : Frame) (rest : List Frame) (code : ReplyCode) (index : Nat) (payload : ReplyPayload) :
    (s.setLine { s.line with input := rest }).reply f code index payload = answered s f rest code index payload := rfl

/-! ### A request that waits for a leaving channel (log 40) -/

theorem isLeaving_iff (s : State) (r : Rail) (ch : Channel) : s.isLeaving r ch = true ↔ s.leaves r ch := by
  simp only [State.isLeaving, State.leaves, Bool.or_eq_true, List.any_eq_true]
  constructor
  · rintro (⟨i, hi, h⟩ | ⟨i, hi, h⟩)
    · cases i with
      | commit a b => exact Or.inl ⟨a, b, hi, by simpa using h⟩
      | _ => cases h
    · cases i with
      | leaving a => exact Or.inr ⟨a, hi, by simpa using h⟩
      | _ => cases h
  · rintro (⟨a, b, hi, h⟩ | ⟨a, hi, h⟩)
    · exact Or.inl ⟨_, hi, by simpa using h⟩
    · exact Or.inr ⟨_, hi, by simpa using h⟩

/-- SET_CHANNEL stays in the buffer while its channel is leaving. -/
theorem execSetChannel_waits {s : State} {f : Frame} {rest : List Frame} {r : Rail} {ch : Channel} (hi : s.line.input = f :: rest)
    (hr : f.rail = some r) (hc : f.channel = some ch) (hl : s.leaves r ch) (q : ChannelFields) : execSetChannel q s = .next s := by
  simp [execSetChannel, hi, State.namesLeaving, hr, hc, (isLeaving_iff s r ch).mpr hl]

/-- Otherwise it is taken as any request is. -/
theorem execSetChannel_taken {s : State} {f : Frame} {rest : List Frame} (hi : s.line.input = f :: rest)
    (hl : ∀ r ch, f.rail = some r → f.channel = some ch → ¬s.leaves r ch) (q : ChannelFields) :
    execSetChannel q s = .next (request .setChannel q.size s (setChannel q)) := by
  have hn : s.namesLeaving f = false := by
    cases hr : f.rail <;> cases hc : f.channel <;> simp only [State.namesLeaving, hr, hc]
    exact Bool.eq_false_iff.mpr fun h => hl _ _ hr hc ((isLeaving_iff s _ _).mp h)
  simp [execSetChannel, hi, hn]

/-! ### An input that waits for a completion in tracking (R33, log 47) -/

theorem tracking_iff (s : State) (r : Rail) : s.tracking r = true ↔ s.tracks r := by
  simp only [State.tracking, State.tracks, List.any_eq_true]
  constructor
  · rintro ⟨x, hx, h⟩
    cases x with
    | hit k => exact .inl ⟨k, hx⟩
    | channelEnd ch pf => exact .inr (.inl ⟨ch, pf, hx⟩)
    | completion pf => exact .inr (.inr ⟨pf, hx⟩)
    | _ => cases h
  · rintro (⟨_, hx⟩ | ⟨_, _, hx⟩ | ⟨_, hx⟩) <;> exact ⟨_, hx, rfl⟩

/-- While a completion is in tracking no input's turn comes at the rail's echo processor. -/
theorem echoTurn_waits {s : State} {r : Rail} (h : s.tracks r) : s.echoTurn r = none := by
  simp [State.echoTurn, (tracking_iff s r).mpr h]

/-- Otherwise it is the turn of the input handed over first. -/
theorem echoTurn_first {s : State} {r : Rail} (h : ¬s.tracks r) : s.echoTurn r = (s.echo.get r).inbox.head? := by
  simp [State.echoTurn, Bool.eq_false_iff.mpr fun k => h ((tracking_iff s r).mp k)]

/-- So each of the four steps of the echo processor changes nothing while a completion is in tracking. -/
theorem completionProcessing_waits {s : State} {r : Rail} (h : s.tracks r) : completionProcessing r s = s := by
  simp [completionProcessing, echoTurn_waits h]
theorem commitHandover_waits {s : State} {r : Rail} (h : s.tracks r) : commitHandover r s = s := by
  simp [commitHandover, echoTurn_waits h]
theorem echoFlushNotice_waits {s : State} {r : Rail} (h : s.tracks r) : echoFlushNotice r s = s := by
  simp [echoFlushNotice, echoTurn_waits h]
theorem echoDrainNotice_waits {s : State} {r : Rail} (h : s.tracks r) : echoDrainNotice r s = s := by
  simp [echoDrainNotice, echoTurn_waits h]

/-! ### A hit that waits for its HIT record (log 34) -/

theorem hitRecordWaits_iff (s : State) (r : Rail) (h : KeptHit) : s.hitRecordWaits r h = true ↔ s.streams r h := by
  simp only [State.hitRecordWaits, State.streams, List.any_eq_true]
  constructor
  · rintro ⟨i, hi, h⟩
    cases i with
    | change c => cases h
    | offer x => cases x with
      | hit x => exact ⟨x, hi, by simpa [LineItem.isHitOf, and_assoc] using h⟩
      | _ => cases h
  · rintro ⟨x, hi, h⟩
    exact ⟨_, hi, by simpa [LineItem.isHitOf, and_assoc] using h⟩

/-- TRACKER_HIT with a hit whose record has still to be offered changes nothing. -/
theorem trackerHit_waits {s : State} {r : Rail} {h : KeptHit} (hi : (s.tracker.get r).inbox.head? = some (.hit h))
    (hw : s.streams r h) : trackerHit r s = s := by
  simp [trackerHit, hi, (hitRecordWaits_iff s r h).mpr hw]

/-- Otherwise the tracker takes the hit. -/
theorem trackerHit_taken {s : State} {r : Rail} {h : KeptHit} (hi : (s.tracker.get r).inbox.head? = some (.hit h))
    (hw : ¬s.streams r h) :
    trackerHit r s = (dropTracker r s).setTracker r (((dropTracker r s).tracker.get r).take h
      (s.gateField r h.channel h.gate FlawGate.positionTolerance) (s.gateField r h.channel h.gate FlawGate.depthTolerance)) := by
  have hf : s.hitRecordWaits r h = false := Bool.eq_false_iff.mpr fun k => hw ((hitRecordWaits_iff s r h).mp k)
  simp only [trackerHit, hi, hf]; rfl

/-! ### A record whose turn it is (R83, R178) -/

/-- RECORD_OFFER takes an offered record whole, and passes over a HIT outside its set. -/
theorem recordOffer_offer {s : State} {x : Record} {rest : List LineItem} (h : s.line.inbox = .offer x :: rest) :
    recordOffer s = if s.isOffered x then takeOffer x (s.setLine { s.line with inbox := rest })
      else s.setLine { s.line with inbox := rest } := by
  simp [recordOffer, h, State.isOffered]

/-- The status timer's expiry waits while something handed to the line interface does (log 8). -/
theorem statusTimerExpiry_waits {s : State} (h : s.line.inbox ≠ []) : statusTimerExpiry s = s := by
  cases hi : s.line.inbox with
  | nil => exact absurd hi h
  | cons x rest => cases ht : s.line.statusEnd <;> simp [statusTimerExpiry, hi, ht]

/-- Otherwise the PERIODIC record is offered at the timer's due moment (R180). -/
theorem statusTimerExpiry_taken {s : State} {t : Nat} (ht : s.line.statusEnd = some t) (h : s.line.inbox = []) :
    statusTimerExpiry s = (offerStatus .periodic (s.advanceTo t)).setLine
      { (offerStatus .periodic (s.advanceTo t)).line with
        statusEnd := timerFrom (offerStatus .periodic (s.advanceTo t)).now
          (offerStatus .periodic (s.advanceTo t)).setup.reporting.statusInterval Config.ticksPerMs } := by
  simp [statusTimerExpiry, ht, h]

/-- A STATUS record is offered and taken as RECORD_OFFER takes the one whose turn it is (R180, log 8). -/
theorem offerStatus_eq_recordOffer (cause : StatusCause) (s : State) :
    offerStatus cause s = recordOffer (s.setLine
      { s.line with inbox := .offer (.status (s.status cause)) :: s.line.inbox, changes := ChangeSet.empty }) := by
  rw [recordOffer_offer rfl]; rfl

end Sys2Proof.Machine
end

