-- ==== Sys2Proof/Laws/Touches.lean ====
section
/-! SUPPORT. `TouchesOnly` through the shared operations: an operation whose parts are all allowed changes nothing that the
frame speaks of, so `simp` peels it off. -/

namespace Sys2Proof.Machine

theorem TouchesOnly.refl (ps : List Part) (s : State) : TouchesOnly ps s s := by
  intro p _; cases p <;> rfl

@[simp] theorem touchesOnly_self (ps : List Part) (s : State) : TouchesOnly ps s s ↔ True := iff_true_intro (.refl ps s)

theorem Part.same_trans {p : Part} {s t u : State} (h : p.same s t) (k : p.same t u) : p.same s u := by
  cases p <;> exact k.trans h

theorem TouchesOnly.trans {ps : List Part} {s t u : State} (h : TouchesOnly ps s t) (k : TouchesOnly ps t u) :
    TouchesOnly ps s u := fun p hp => Part.same_trans (h p hp) (k p hp)

theorem TouchesOnly.mono {ps qs : List Part} {s t : State} (h : TouchesOnly ps s t) (hs : ∀ p ∈ ps, p ∈ qs) :
    TouchesOnly qs s t := fun p hp => h p (fun hm => hp (hs p hm))

theorem Part.same_symm {p : Part} {s t : State} (h : p.same s t) : p.same t s := by
  cases p <;> exact Eq.symm h

/-- A step that keeps within the allowed parts does not change whether the frame holds. -/
theorem TouchesOnly.peel {ps : List Part} {s t u : State} (h : TouchesOnly ps t u) : TouchesOnly ps s u ↔ TouchesOnly ps s t :=
  ⟨fun k p hp => Part.same_trans (k p hp) (Part.same_symm (h p hp)), fun k => k.trans h⟩

/-- A fold whose steps keep within the allowed parts. -/
theorem TouchesOnly.foldl {α : Type} {ps : List Part} {f : State → α → State} (h : ∀ s a, TouchesOnly ps s (f s a)) (l : List α)
    (s : State) : TouchesOnly ps s (l.foldl f s) := by
  induction l generalizing s with
  | nil => exact .refl ps s
  | cons a rest ih => exact (h s a).trans (ih _)

/-! ### One update -/

theorem touches_advanceTo (s : State) (t : Nat) : TouchesOnly [.now] s (s.advanceTo t) := by
  intro p hp; cases p <;> first | rfl | exact absurd (List.mem_singleton.2 rfl) hp
theorem touches_setSetup (s : State) (x : Setup) : TouchesOnly [.setup] s (s.setSetup x) := by
  intro p hp; cases p <;> first | rfl | exact absurd (List.mem_singleton.2 rfl) hp
theorem touches_setTravel (s : State) (x : Travel) : TouchesOnly [.travel] s (s.setTravel x) := by
  intro p hp; cases p <;> first | rfl | exact absurd (List.mem_singleton.2 rfl) hp
theorem touches_setLandmarks (s : State) (x : LandmarkList) : TouchesOnly [.landmarks] s (s.setLandmarks x) := by
  intro p hp; cases p <;> first | rfl | exact absurd (List.mem_singleton.2 rfl) hp
theorem touches_setRouter (s : State) (x : Router) : TouchesOnly [.router] s (s.setRouter x) := by
  intro p hp; cases p <;> first | rfl | exact absurd (List.mem_singleton.2 rfl) hp
theorem touches_setRun (s : State) (x : RunControl) : TouchesOnly [.run] s (s.setRun x) := by
  intro p hp; cases p <;> first | rfl | exact absurd (List.mem_singleton.2 rfl) hp
theorem touches_setLine (s : State) (x : Line) : TouchesOnly [.line] s (s.setLine x) := by
  intro p hp; cases p <;> first | rfl | exact absurd (List.mem_singleton.2 rfl) hp
theorem touches_offer (s : State) (x : Record) : TouchesOnly [.line] s (s.offer x) := by
  intro p hp; cases p <;> first | rfl | exact absurd (List.mem_singleton.2 rfl) hp
theorem touches_handChange (s : State) (x : Change) : TouchesOnly [.line] s (s.handChange x) := by
  intro p hp; cases p <;> first | rfl | exact absurd (List.mem_singleton.2 rfl) hp
theorem touches_handLevel (s : State) (x : LevelHandover) : TouchesOnly [.router] s (s.handLevel x) := by
  intro p hp; cases p <;> first | rfl | exact absurd (List.mem_singleton.2 rfl) hp
theorem touches_handPulse (s : State) (x : Pulse) : TouchesOnly [.router] s (s.handPulse x) := by
  intro p hp; cases p <;> first | rfl | exact absurd (List.mem_singleton.2 rfl) hp

theorem Part.other_rail {f : Rail → Part} {r q : Rail} {ps : List Part} (hr : f r ∈ ps) (hq : f q ∉ ps) : q ≠ r :=
  fun h => hq (h ▸ hr)

theorem touches_setFiring (s : State) (r : Rail) (x : FiringUnit) : TouchesOnly [.firing r] s (s.setFiring r x) := by
  intro p hp
  cases p with
  | firing q => exact Rails.get_set_other _ (Part.other_rail (f := Part.firing) (List.mem_singleton.2 rfl) hp) _
  | _ => rfl
theorem touches_setEcho (s : State) (r : Rail) (x : EchoProcessor) : TouchesOnly [.echo r] s (s.setEcho r x) := by
  intro p hp
  cases p with
  | echo q => exact Rails.get_set_other _ (Part.other_rail (f := Part.echo) (List.mem_singleton.2 rfl) hp) _
  | _ => rfl
theorem touches_setTracker (s : State) (r : Rail) (x : Tracker) : TouchesOnly [.tracker r] s (s.setTracker r x) := by
  intro p hp
  cases p with
  | tracker q => exact Rails.get_set_other _ (Part.other_rail (f := Part.tracker) (List.mem_singleton.2 rfl) hp) _
  | _ => rfl
theorem touches_setAssembler (s : State) (r : Rail) (x : Assembler) : TouchesOnly [.assembler r] s (s.setAssembler r x) := by
  intro p hp
  cases p with
  | assembler q => exact Rails.get_set_other _ (Part.other_rail (f := Part.assembler) (List.mem_singleton.2 rfl) hp) _
  | _ => rfl
theorem touches_setMarking (s : State) (r : Rail) (x : MarkingUnit) : TouchesOnly [.marking r] s (s.setMarking r x) := by
  intro p hp
  cases p with
  | marking q => exact Rails.get_set_other _ (Part.other_rail (f := Part.marking) (List.mem_singleton.2 rfl) hp) _
  | _ => rfl
theorem touches_toEcho (s : State) (r : Rail) (x : EchoItem) : TouchesOnly [.echo r] s (s.toEcho r x) := by
  intro p hp
  cases p with
  | echo q => exact Rails.get_set_other _ (Part.other_rail (f := Part.echo) (List.mem_singleton.2 rfl) hp) _
  | _ => rfl
theorem touches_toTracker (s : State) (r : Rail) (x : TrackerItem) : TouchesOnly [.tracker r] s (s.toTracker r x) := by
  intro p hp
  cases p with
  | tracker q => exact Rails.get_set_other _ (Part.other_rail (f := Part.tracker) (List.mem_singleton.2 rfl) hp) _
  | _ => rfl
theorem touches_toAssembler (s : State) (r : Rail) (x : AssemblerItem) : TouchesOnly [.assembler r] s (s.toAssembler r x) := by
  intro p hp
  cases p with
  | assembler q => exact Rails.get_set_other _ (Part.other_rail (f := Part.assembler) (List.mem_singleton.2 rfl) hp) _
  | _ => rfl
theorem touches_requestMark (s : State) (r : Rail) (x : MarkRequest) : TouchesOnly [.marking r] s (s.requestMark r x) := by
  intro p hp
  cases p with
  | marking q => exact Rails.get_set_other _ (Part.other_rail (f := Part.marking) (List.mem_singleton.2 rfl) hp) _
  | _ => rfl

/-! ### Peeling one update off a frame -/

@[simp] theorem peel_advanceTo {ps : List Part} {s0 : State} (h : Part.now ∈ ps) (s : State) (t : Nat) :
    TouchesOnly ps s0 (s.advanceTo t) ↔ TouchesOnly ps s0 s :=
  ((touches_advanceTo s t).mono (by simpa using h)).peel
@[simp] theorem peel_setSetup {ps : List Part} {s0 : State} (h : Part.setup ∈ ps) (s : State) (x : Setup) :
    TouchesOnly ps s0 (s.setSetup x) ↔ TouchesOnly ps s0 s :=
  ((touches_setSetup s x).mono (by simpa using h)).peel
@[simp] theorem peel_setTravel {ps : List Part} {s0 : State} (h : Part.travel ∈ ps) (s : State) (x : Travel) :
    TouchesOnly ps s0 (s.setTravel x) ↔ TouchesOnly ps s0 s :=
  ((touches_setTravel s x).mono (by simpa using h)).peel
@[simp] theorem peel_setLandmarks {ps : List Part} {s0 : State} (h : Part.landmarks ∈ ps) (s : State) (x : LandmarkList) :
    TouchesOnly ps s0 (s.setLandmarks x) ↔ TouchesOnly ps s0 s :=
  ((touches_setLandmarks s x).mono (by simpa using h)).peel
@[simp] theorem peel_setRouter {ps : List Part} {s0 : State} (h : Part.router ∈ ps) (s : State) (x : Router) :
    TouchesOnly ps s0 (s.setRouter x) ↔ TouchesOnly ps s0 s :=
  ((touches_setRouter s x).mono (by simpa using h)).peel
@[simp] theorem peel_setRun {ps : List Part} {s0 : State} (h : Part.run ∈ ps) (s : State) (x : RunControl) :
    TouchesOnly ps s0 (s.setRun x) ↔ TouchesOnly ps s0 s :=
  ((touches_setRun s x).mono (by simpa using h)).peel
@[simp] theorem peel_setLine {ps : List Part} {s0 : State} (h : Part.line ∈ ps) (s : State) (x : Line) :
    TouchesOnly ps s0 (s.setLine x) ↔ TouchesOnly ps s0 s :=
  ((touches_setLine s x).mono (by simpa using h)).peel
@[simp] theorem peel_offer {ps : List Part} {s0 : State} (h : Part.line ∈ ps) (s : State) (x : Record) :
    TouchesOnly ps s0 (s.offer x) ↔ TouchesOnly ps s0 s :=
  ((touches_offer s x).mono (by simpa using h)).peel
@[simp] theorem peel_handChange {ps : List Part} {s0 : State} (h : Part.line ∈ ps) (s : State) (x : Change) :
    TouchesOnly ps s0 (s.handChange x) ↔ TouchesOnly ps s0 s :=
  ((touches_handChange s x).mono (by simpa using h)).peel
@[simp] theorem peel_handLevel {ps : List Part} {s0 : State} (h : Part.router ∈ ps) (s : State) (x : LevelHandover) :
    TouchesOnly ps s0 (s.handLevel x) ↔ TouchesOnly ps s0 s :=
  ((touches_handLevel s x).mono (by simpa using h)).peel
@[simp] theorem peel_handPulse {ps : List Part} {s0 : State} (h : Part.router ∈ ps) (s : State) (x : Pulse) :
    TouchesOnly ps s0 (s.handPulse x) ↔ TouchesOnly ps s0 s :=
  ((touches_handPulse s x).mono (by simpa using h)).peel
@[simp] theorem peel_setFiring {ps : List Part} {s0 : State} (r : Rail) (h : Part.firing r ∈ ps) (s : State) (x : FiringUnit) :
    TouchesOnly ps s0 (s.setFiring r x) ↔ TouchesOnly ps s0 s :=
  ((touches_setFiring s r x).mono (by simpa using h)).peel
@[simp] theorem peel_setEcho {ps : List Part} {s0 : State} (r : Rail) (h : Part.echo r ∈ ps) (s : State) (x : EchoProcessor) :
    TouchesOnly ps s0 (s.setEcho r x) ↔ TouchesOnly ps s0 s :=
  ((touches_setEcho s r x).mono (by simpa using h)).peel
@[simp] theorem peel_setTracker {ps : List Part} {s0 : State} (r : Rail) (h : Part.tracker r ∈ ps) (s : State) (x : Tracker) :
    TouchesOnly ps s0 (s.setTracker r x) ↔ TouchesOnly ps s0 s :=
  ((touches_setTracker s r x).mono (by simpa using h)).peel
@[simp] theorem peel_setAssembler {ps : List Part} {s0 : State} (r : Rail) (h : Part.assembler r ∈ ps) (s : State) (x : Assembler) :
    TouchesOnly ps s0 (s.setAssembler r x) ↔ TouchesOnly ps s0 s :=
  ((touches_setAssembler s r x).mono (by simpa using h)).peel
@[simp] theorem peel_setMarking {ps : List Part} {s0 : State} (r : Rail) (h : Part.marking r ∈ ps) (s : State) (x : MarkingUnit) :
    TouchesOnly ps s0 (s.setMarking r x) ↔ TouchesOnly ps s0 s :=
  ((touches_setMarking s r x).mono (by simpa using h)).peel
@[simp] theorem peel_toEcho {ps : List Part} {s0 : State} (r : Rail) (h : Part.echo r ∈ ps) (s : State) (x : EchoItem) :
    TouchesOnly ps s0 (s.toEcho r x) ↔ TouchesOnly ps s0 s :=
  ((touches_toEcho s r x).mono (by simpa using h)).peel
@[simp] theorem peel_toTracker {ps : List Part} {s0 : State} (r : Rail) (h : Part.tracker r ∈ ps) (s : State) (x : TrackerItem) :
    TouchesOnly ps s0 (s.toTracker r x) ↔ TouchesOnly ps s0 s :=
  ((touches_toTracker s r x).mono (by simpa using h)).peel
@[simp] theorem peel_toAssembler {ps : List Part} {s0 : State} (r : Rail) (h : Part.assembler r ∈ ps) (s : State) (x : AssemblerItem) :
    TouchesOnly ps s0 (s.toAssembler r x) ↔ TouchesOnly ps s0 s :=
  ((touches_toAssembler s r x).mono (by simpa using h)).peel
@[simp] theorem peel_requestMark {ps : List Part} {s0 : State} (r : Rail) (h : Part.marking r ∈ ps) (s : State) (x : MarkRequest) :
    TouchesOnly ps s0 (s.requestMark r x) ↔ TouchesOnly ps s0 s :=
  ((touches_requestMark s r x).mono (by simpa using h)).peel

/-! ### Changes that are handed on -/

@[simp] theorem peel_handMotion {ps : List Part} {s0 : State} (r : Rail) (h : Part.marking r ∈ ps) (s : State) (x : Motion) :
    TouchesOnly ps s0 (s.handMotion r x) ↔ TouchesOnly ps s0 s := by
  simp [State.handMotion, h]
@[simp] theorem peel_setMotion {ps : List Part} {s0 : State} (h : Part.travel ∈ ps) (a : Part.marking .left ∈ ps)
    (b : Part.marking .right ∈ ps) (k : Part.line ∈ ps) (s : State) (x : Motion) :
    TouchesOnly ps s0 (s.setMotion x) ↔ TouchesOnly ps s0 s := by
  simp only [State.setMotion]; split <;> simp [h, a, b, k]
@[simp] theorem peel_setRunState {ps : List Part} {s0 : State} (h : Part.run ∈ ps) (k : Part.line ∈ ps) (m : Part.router ∈ ps)
    (s : State) (x : RunState) : TouchesOnly ps s0 (s.setRunState x) ↔ TouchesOnly ps s0 s := by
  simp only [State.setRunState]; split <;> simp [h, k, m]
@[simp] theorem peel_setCover {ps : List Part} {s0 : State} (r : Rail) (h : Part.echo r ∈ ps) (k : Part.line ∈ ps)
    (m : Part.router ∈ ps) (s : State) (ch : Channel) (x : Cover) :
    TouchesOnly ps s0 (s.setCover r ch x) ↔ TouchesOnly ps s0 s := by
  simp only [State.setCover]; split <;> simp [h, k, m]
@[simp] theorem peel_setSpray {ps : List Part} {s0 : State} (r : Rail) (h : Part.marking r ∈ ps) (m : Part.router ∈ ps)
    (s : State) (x : Option Nat) : TouchesOnly ps s0 (s.setSpray r x) ↔ TouchesOnly ps s0 s := by
  simp only [State.setSpray]; split <;> simp [h, m]
@[simp] theorem peel_setSilence {ps : List Part} {s0 : State} (k : Part.line ∈ ps) (m : Part.router ∈ ps) (s : State) (x : Bool) :
    TouchesOnly ps s0 (s.setSilence x) ↔ TouchesOnly ps s0 s := by
  simp only [State.setSilence]; split <;> simp [k, m]

/-- A fold over a frame: where each of its steps keeps within the allowed parts it peels off. -/
theorem peel_foldl {α : Type} {ps : List Part} {s0 : State} (f : State → α → State) (h : ∀ s a, TouchesOnly ps s (f s a))
    (l : List α) (s : State) : TouchesOnly ps s0 (l.foldl f s) ↔ TouchesOnly ps s0 s := (TouchesOnly.foldl h l s).peel

@[simp] theorem peel_offers {ps : List Part} {s0 : State} (k : Part.line ∈ ps) (rs : List Record) (s : State) :
    TouchesOnly ps s0 (rs.foldl State.offer s) ↔ TouchesOnly ps s0 s := by
  rw [foldl_offer]; simp [k]

@[simp] theorem peel_resetCoverage {ps : List Part} {s0 : State} (r : Rail) (h : Part.echo r ∈ ps) (k : Part.line ∈ ps)
    (m : Part.router ∈ ps) (s : State) : TouchesOnly ps s0 (s.resetCoverage r) ↔ TouchesOnly ps s0 s :=
  peel_foldl _ (fun s a => by simp [h, k, m]) _ _

@[simp] theorem peel_reply {ps : List Part} {s0 : State} (k : Part.line ∈ ps) (s : State) (f : Frame) (c : ReplyCode) (i : Nat)
    (p : ReplyPayload) : TouchesOnly ps s0 (s.reply f c i p) ↔ TouchesOnly ps s0 s := by
  simp [State.reply, k]

/-! ### Requests -/

/-- A request touches no more than its effect does, and the line. -/
theorem touches_request {ps : List Part} (k : RequestKind) (size : Nat) (s : State) (act : Frame → State → State)
    (hl : Part.line ∈ ps) (h : ∀ f s, TouchesOnly ps s (act f s)) : TouchesOnly ps s (request k size s act) := by
  simp only [request, takeRequest]
  split
  · simp
  · rename_i f s1 hs
    have hs1 : TouchesOnly ps s s1 := by
      split at hs
      · cases hs
      · split at hs
        · cases hs; simp [hl]
        · cases hs
    split
    · exact hs1.trans (h _ _)
    · simpa [hl] using hs1

/-! ### What befalls the landmark list within a step -/

/-- What can befall the landmark list between two queries touches the list and the line alone. -/
theorem touches_landmarkStep (s : State) (l : LandmarkStep) : TouchesOnly [.landmarks, .line] s (landmarkStep s l) := by
  cases l with
  | retirement => simp only [landmarkStep, frontierRetirement]; split <;> simp
  | add entries =>
    refine touches_request _ _ _ _ (by decide) (fun f t => ?_)
    simp only [addLandmarks]; split
    · simp
    · split <;> simp
  | clear d => exact touches_request _ _ _ _ (by decide) (fun f t => by simp [clearLandmarks])

/-- A query of a step touches the list, the line and what waits between the queries. -/
theorem touches_reachQuery (s : State) : TouchesOnly [.landmarks, .line, .between] s (reachQuery s) := by
  refine TouchesOnly.trans (t := { s with between := s.between.tail }) ?_
    (.mono (TouchesOnly.foldl touches_landmarkStep _ _) (by simp))
  intro p hp; cases p <;> first | rfl | exact absurd (by simp) hp

/-- So does a whole search. -/
theorem touches_searchFrom (r : Rail) (f : Finding) (is : List (Fin 16)) (s : State) :
    TouchesOnly [.landmarks, .line, .between] s (searchFrom r f is s).1 := by
  induction is generalizing s with
  | nil => exact .refl _ _
  | cons i rest ih =>
    simp only [searchFrom]
    split
    · exact ih s
    · rename_i p _
      generalize ht : (if p.asks r f then reachQuery s else s) = t
      have h : TouchesOnly [.landmarks, .line, .between] s t := by
        subst ht; split
        · exact touches_reachQuery s
        · exact .refl _ _
      split
      · exact h
      · exact h.trans (ih t)

/-- And the classification of a finding. -/
theorem touches_classify (r : Rail) (f : Finding) (s : State) :
    TouchesOnly [.landmarks, .line, .between] s (classify r f s).1 := by
  have h := touches_searchFrom r f (List.finRange 16) s
  simp only [classify]
  split <;> simp_all

end Sys2Proof.Machine
end

