-- ==== Sys2Proof/Laws/Queries.lean ====
section
/-! SUPPORT. What reaching a proximity query does, and where the search of a closed finding ends (R122, R137). -/

namespace Sys2Proof.Machine

/-! ### What waits between the queries does not enter a landmark step -/

theorem takeRequest_between (k : RequestKind) (s : State) (b : List (List LandmarkStep)) :
    takeRequest k { s with between := b } = (takeRequest k s).map (fun x => (x.1, { x.2 with between := b })) := by
  rcases h : s.line.input with _ | ⟨f, rest⟩
  · simp [takeRequest, h]
  · simp only [takeRequest, h]; split <;> rfl

theorem request_between (k : RequestKind) (n : Nat) (s : State) (act : Frame → State → State) (b : List (List LandmarkStep))
    (h : ∀ f t, act f { t with between := b } = { act f t with between := b }) :
    request k n { s with between := b } act = { request k n s act with between := b } := by
  simp only [request, takeRequest_between]
  cases takeRequest k s with
  | none => rfl
  | some x => simp only [Option.map_some]; split <;> simp [h, State.reply, State.setLine]

theorem landmarkStep_between (s : State) (l : LandmarkStep) (b : List (List LandmarkStep)) :
    landmarkStep { s with between := b } l = { landmarkStep s l with between := b } := by
  cases l with
  | retirement => simp only [landmarkStep, frontierRetirement]; split <;> simp_all [State.setLandmarks]
  | add entries =>
    refine request_between _ _ _ _ _ (fun f t => ?_)
    simp only [addLandmarks]; split
    · rfl
    · split <;> rfl
  | clear d => exact request_between _ _ _ _ _ (fun f t => rfl)

theorem landmarkSteps_between (ls : List LandmarkStep) (s : State) (b : List (List LandmarkStep)) :
    ls.foldl landmarkStep { s with between := b } = { ls.foldl landmarkStep s with between := b } := by
  induction ls generalizing s with
  | nil => rfl
  | cons l rest ih => rw [List.foldl_cons, landmarkStep_between, ih]; rfl

/-! ### One query, and the search -/

/-- Each query reached brings about what waited before it. -/
theorem reachQuery_seen (s : State) (n : Nat) : reachQuery (s.seen n) = s.seen (n + 1) := by
  have hh : (s.between.drop n).headD [] = (s.between[n]?).getD [] := by
    rw [List.headD_eq_head?_getD, List.head?_drop]
  have ht : (s.between.take (n + 1)).flatten = (s.between.take n).flatten ++ (s.between[n]?).getD [] := by
    rw [List.take_add_one]; cases s.between[n]? <;> simp
  simp only [reachQuery, State.seen]
  rw [hh, List.tail_drop, landmarkSteps_between, landmarkSteps_between, ht, List.foldl_append]

theorem seen_zero (s : State) : s.seen 0 = s := rfl

theorem touches_seen (s : State) (n : Nat) : TouchesOnly [.landmarks, .line, .between] s (s.seen n) := by
  refine TouchesOnly.trans (.mono (TouchesOnly.foldl touches_landmarkStep (s.between.take n).flatten s) (by simp)) ?_
  intro p hp; cases p <;> first | rfl | exact absurd (by simp) hp

/-- The settings stand still through the queries of a step. -/
@[simp] theorem seen_setup (s : State) (n : Nat) : (s.seen n).setup = s.setup := touches_seen s n .setup (by simp)

/-- One entry more asks at most once more. -/
theorem queries_succ (s : State) (r : Rail) (f : Finding) (i : Fin 16) {k : Nat} (h : i.val = k) :
    s.queries r f (k + 1) = s.queries r f k + if s.setup.patterns[i].any (fun p => p.asks r f) then 1 else 0 := by
  subst h
  have ht : (List.finRange 16).take (i.val + 1) = (List.finRange 16).take i.val ++ [i] := by
    rw [List.take_add_one]; simp
  simp [State.queries, ht, List.countP_append, List.countP_cons]

/-- The search from entry k on, with the queries of the entries below it made: where no entry fits it ends with the last query, and
where entry i is the first that fits it ends with the query of that entry. -/
theorem searchFrom_seen (s : State) (r : Rail) (f : Finding)
    (hm : ∀ (l : LandmarkList) (i : Fin 16) (p : Pattern), s.setup.patterns[i] = some p → p.considered.toNat < 4096 →
      p.required &&& p.considered = p.required → (p.matchesFinding l r f = true ↔ p.fits l r f))
    (k : Nat) (hk : k ≤ 16) :
    (s.fitsNoneBelow r f 16 →
      searchFrom r f ((List.finRange 16).drop k) (s.seen (s.queries r f k)) = (s.seen (s.queries r f 16), none)) ∧
    ∀ (i : Fin 16) p, k ≤ i.val → s.setup.patterns[i] = some p → p.considered.toNat < 4096 → p.required &&& p.considered = p.required →
      p.fits (s.listAt r f i) r f → s.fitsNoneBelow r f i.val →
      searchFrom r f ((List.finRange 16).drop k) (s.seen (s.queries r f k)) =
        (s.seen (s.queries r f (i.val + 1)), some (i, p)) := by
  induction h : 16 - k generalizing k with
  | zero =>
    obtain rfl : k = 16 := by omega
    have he : (List.finRange 16).drop 16 = [] := rfl
    exact ⟨fun _ => by rw [he]; rfl, fun i p hi => by omega⟩
  | succ d ih =>
    have hlt : k < 16 := by omega
    generalize hj : (⟨k, hlt⟩ : Fin 16) = j
    have hjk : j.val = k := by rw [← hj]
    have hd : (List.finRange 16).drop k = j :: (List.finRange 16).drop (k + 1) := by
      rw [List.drop_eq_getElem_cons (by simpa using hlt)]; simp [← hj]
    obtain ⟨ih1, ih2⟩ := ih (k + 1) hlt (by omega)
    have hq := queries_succ s r f j hjk
    rw [hd]
    simp only [searchFrom, seen_setup]
    split
    · rename_i hp
      have hs : s.queries r f (k + 1) = s.queries r f k := by rw [hq, hp]; simp
      rw [hs] at ih1 ih2
      refine ⟨ih1, fun i p hi h1 h2 h3 h4 h5 => ih2 i p ?_ h1 h2 h3 h4 h5⟩
      have : i ≠ j := by rintro rfl; rw [hp] at h1; cases h1
      have : i.val ≠ j.val := fun e => this (Fin.ext e)
      omega
    · rename_i p hp
      have hy : (if p.asks r f = true then reachQuery (s.seen (s.queries r f k)) else s.seen (s.queries r f k)) =
          s.seen (s.queries r f (k + 1)) := by
        rw [hq, hp]; simp only [Option.any_some]; split <;> simp [reachQuery_seen]
      have hl : s.listAt r f j = (s.seen (s.queries r f (k + 1))).landmarks := by rw [State.listAt, hjk]
      rw [hy, ← hl]
      have miss : ∀ n, k < n → s.fitsNoneBelow r f n → p.matchesFinding (s.listAt r f j) r f = false := fun n hn hf =>
        have ⟨a, b, c⟩ := hf j p (by omega) hp
        Bool.eq_false_iff.mpr fun e => c ((hm _ j p hp a b).mp e)
      refine ⟨fun hf => ?_, fun i q hi h1 h2 h3 h4 h5 => ?_⟩
      · rw [miss 16 hlt hf]; exact ih1 hf
      · by_cases e : i = j
        · subst e
          obtain rfl : p = q := Option.some.inj (hp.symm.trans h1)
          rw [(hm _ i p hp h2 h3).mpr h4, hjk]; rfl
        · have : i.val ≠ j.val := fun e' => e (Fin.ext e')
          rw [miss i.val (by omega) h5]; exact ih2 i q (by omega) h1 h2 h3 h4 h5

end Sys2Proof.Machine
end

