-- ==== Sys2Proof/Laws/Wire.lean ====
section
/-! SUPPORT. How long the fields of a reply are: what the requests declare for the same fields, and within one body (R173, log 13). -/

namespace Sys2Proof.Machine

@[simp] theorem bytes1_length (v : Int) : (bytes1 v).length = 1 := by simp [bytes1]
@[simp] theorem bytes2_length (v : Int) : (bytes2 v).length = 2 := by simp [bytes2]
@[simp] theorem bytes4_length (v : Int) : (bytes4 v).length = 4 := by simp [bytes4]

/-- Members of one length. -/
theorem length_flatMap_const {α : Type} {f : α → List Byte} {n : Nat} (h : ∀ a, (f a).length = n) (l : List α) :
    (l.flatMap f).length = n * l.length := by
  induction l with
  | nil => rfl
  | cons a l ih => simp only [List.flatMap_cons, List.length_append, h, ih, List.length_cons, Nat.mul_add]; omega

/-- Members of at most one length. -/
theorem length_flatMap_le {α : Type} {f : α → List Byte} {n : Nat} (l : List α) (h : ∀ a ∈ l, (f a).length ≤ n) :
    (l.flatMap f).length ≤ n * l.length := by
  induction l with
  | nil => simp
  | cons a l ih =>
    have ha := h a (by simp)
    have hl := ih fun b hb => h b (by simp [hb])
    simp only [List.flatMap_cons, List.length_append, List.length_cons, Nat.mul_add]
    omega

/-! ### The fields of a reply are as long as the request that brings them declares -/

@[simp] theorem TravelSettings.bytes_length (t : TravelSettings) : t.bytes.length = 11 := by
  unfold TravelSettings.bytes; simp only [List.length_append, bytes1_length, bytes2_length, bytes4_length]

@[simp] theorem ReportingSettings.bytes_length (x : ReportingSettings) : x.bytes.length = 15 := by
  unfold ReportingSettings.bytes; simp only [List.length_append, bytes1_length, bytes2_length]

@[simp] theorem RailSettings.bytes_length (x : RailSettings) : x.bytes.length = 22 := by
  unfold RailSettings.bytes; simp only [List.length_append, bytes1_length, bytes2_length, bytes4_length]

@[simp] theorem TestEcho.bytes_length (e : TestEcho) : e.bytes.length = 8 := by
  unfold TestEcho.bytes; simp only [List.length_append, bytes2_length]

@[simp] theorem Landmark.bytes_length (e : Landmark) : e.bytes.length = 12 := by
  unfold Landmark.bytes; simp only [List.length_append, bytes1_length, bytes4_length, List.length_singleton]

@[simp] theorem gateBytes_length (g : GateFields) : (gateBytes g).length = g.size := by
  unfold gateBytes GateFields.size; simp only [List.length_append, bytes1_length, bytes2_length, bytes4_length]

@[simp] theorem patternBytes_length (p : PatternFields) : (patternBytes p).length = p.size := by
  unfold patternBytes PatternFields.size; simp only [List.length_append, bytes1_length, bytes2_length, bytes4_length]

@[simp] theorem SignalSettings.bytes_length (x : SignalSettings) : x.bytes.length = 18 := by
  unfold SignalSettings.bytes
  rw [List.length_append, length_flatMap_const (n := 4) (fun q => by simp)]
  simp

@[simp] theorem channelBytes_length (f : ChannelFields) : (channelBytes f).length = f.size := by
  have hc := length_flatMap_const (n := 4) (f := fun p : CurvePointFields => bytes2 p.time ++ bytes2 p.level)
    (fun p => by simp) f.curve
  unfold channelBytes ChannelFields.size
  simp only [List.length_append, bytes1_length, bytes2_length, bytes4_length, gateBytes_length, hc, GateFields.size]
  omega

@[simp] theorem StatusRecord.bytes_length (r : StatusRecord) : r.bytes.length = 69 := by
  have h : ∀ v, (couplingBytes v).length = 12 := fun v => by
    rw [couplingBytes, length_flatMap_const (n := 1) (fun ch => by simp)]; simp
  unfold StatusRecord.bytes
  simp only [List.length_append, bytes1_length, bytes2_length, bytes4_length, h]

/-- A plan of at most sixteen groups of at most four channels. -/
theorem planBytes_length_le {p : Plan} (h : p.length ≤ 16) (hg : ∀ g ∈ p, g.length ≤ 4) : (planBytes p).length ≤ 98 := by
  have := length_flatMap_le (f := groupBytes) (n := 6) p fun g k => by
    have := hg g k
    rw [groupBytes, List.length_append, length_flatMap_const (n := 1) (fun ch => by simp), bytes2_length]
    omega
  rw [planBytes, List.length_append, bytes2_length]
  omega

/-! ### A reply in one body -/

/-- A reply's body is its four-byte head and its fields. -/
theorem reply_body_length (p : Reply) : (Outgoing.reply p).body.length = 4 + p.payload.bytes.length := by
  unfold Outgoing.body
  simp only [List.length_append, List.length_cons, List.length_nil, bytes1_length]

/-- The lists of a reply within the sizes that their owners keep, 8 curve points (R46), 16 groups of 4 channels (R27), 64 landmarks
(R114) and IDENTIFY's capacities (R183), its fields and its head fit in one body. -/
theorem ReplyPayload.bytes_length_le (p : ReplyPayload)
    (hi : ∀ a b c d l, p = .identity a b c d l → l = Config.capacities)
    (hc : ∀ f ka, p = .channel f ka → f.curve.length ≤ 8)
    (hp : ∀ a b i w, p = .plan a b i w → ∀ q ∈ a :: b.toList, q.length ≤ 16 ∧ ∀ g ∈ q, g.length ≤ 4)
    (ha : ∀ n l, p = .landmarksAdded n l → l.length ≤ 64) (hl : ∀ d l, p = .landmarks d l → l.length ≤ 64) :
    p.bytes.length ≤ 2036 := by
  cases p with
  | headOnly => simp [ReplyPayload.bytes]
  | identity a b c d l =>
    obtain rfl := hi _ _ _ _ _ rfl
    have h := length_flatMap_const (n := 2) (f := fun n : Nat => bytes2 n) (fun n => by simp) Config.capacities.flatten
    have hk : Config.capacities.flatten.length ≤ 100 := by decide
    unfold ReplyPayload.bytes
    simp only [List.length_append, bytes1_length, bytes2_length, h]
    omega
  | status r => unfold ReplyPayload.bytes; rw [StatusRecord.bytes_length]; omega
  | reporting x => unfold ReplyPayload.bytes; rw [ReportingSettings.bytes_length]; omega
  | travel t => unfold ReplyPayload.bytes; rw [TravelSettings.bytes_length]; omega
  | calibration n k d => unfold ReplyPayload.bytes; simp only [List.length_append, bytes4_length]; omega
  | channel f ka =>
    have := hc _ _ rfl
    unfold ReplyPayload.bytes
    simp only [List.length_append, channelBytes_length, bytes4_length, ChannelFields.size, GateFields.size]
    omega
  | plan a b i w =>
    have h := hp _ _ _ _ rfl
    have h1 := planBytes_length_le (h a (by simp)).1 (h a (by simp)).2
    have h2 : (b.elim [] planBytes).length ≤ 98 := by
      cases b with
      | none => simp
      | some q => exact planBytes_length_le (h q (by simp)).1 (h q (by simp)).2
    unfold ReplyPayload.bytes
    simp only [List.length_append, bytes1_length]
    omega
  | railRecord x => unfold ReplyPayload.bytes; rw [RailSettings.bytes_length]; omega
  | levels a b v =>
    have h := length_flatMap_const (n := 2) (f := fun n : Nat => bytes2 n) (fun n => by simp) v.toList
    unfold ReplyPayload.bytes
    simp only [List.length_append, bytes2_length, h]
    simp
  | calDepth d => unfold ReplyPayload.bytes; rw [bytes2_length]; omega
  | landmarkCount n => unfold ReplyPayload.bytes; rw [bytes2_length]; omega
  | landmarksAdded n l =>
    have := ha _ _ rfl
    unfold ReplyPayload.bytes
    rw [List.length_append, List.length_append, length_flatMap_const Landmark.bytes_length, bytes2_length, bytes2_length]
    omega
  | retention d => unfold ReplyPayload.bytes; rw [bytes4_length]; omega
  | landmarks d l =>
    have := hl _ _ rfl
    unfold ReplyPayload.bytes
    rw [List.length_append, List.length_append, length_flatMap_const Landmark.bytes_length, bytes2_length, bytes4_length]
    omega
  | pattern e =>
    cases e with
    | none => simp [ReplyPayload.bytes]
    | some q => unfold ReplyPayload.bytes; simp only [Option.elim, List.length_append, patternBytes_length, bytes1_length, PatternFields.size]; omega
  | signals x => unfold ReplyPayload.bytes; rw [SignalSettings.bytes_length]; omega
  | verification r e => unfold ReplyPayload.bytes; rw [List.length_append, TestEcho.bytes_length, bytes1_length]; omega

end Sys2Proof.Machine
end

