-- ==== Sys2Proof/WellFormed.lean ====
section
/-! DEFINITION. Which terms of `Instr` are commands a sender can send: an enumeration fits its one byte, a number the
line's widest field of four bytes, a list the greatest body, a sample sequence the greatest listen length. -/

namespace Sys2Proof

/-- An enumerated field takes one byte (section 11.6). -/
def fitsByte (n : Nat) : Bool := decide (n < 256)

/-- A number takes at most four bytes, signed or not (section 11.6). -/
def fitsWord (v : Int) : Bool := decide (-2147483648 ≤ v) && decide (v ≤ 4294967295)

/-- A body has at most 2040 bytes, and each entry of a list takes at least one (R173). -/
def fitsBody (n : Nat) : Bool := decide (n ≤ 2040)

/-- A lane records at most the greatest listen length, 8192 samples (R21). -/
def fitsListen (samples : List Nat) : Bool := decide (samples.length ≤ 8192)

def LaneSamples.wf (l : LaneSamples) : Bool :=
  fitsListen l.lane0 && fitsListen l.lane1 && fitsListen l.lane2 && fitsListen l.lane3

def TravelFields.wf (f : TravelFields) : Bool :=
  fitsByte f.sense && fitsWord f.scale && fitsWord f.pitch && fitsWord f.standstill

def CurvePointFields.wf (p : CurvePointFields) : Bool := fitsWord p.time && fitsWord p.level

def GateFields.wf (g : GateFields) : Bool :=
  fitsByte g.presence && fitsByte g.mode && fitsWord g.start && fitsWord g.width && fitsWord g.level && fitsByte g.useCurve &&
    fitsWord g.positionTolerance && fitsWord g.depthTolerance && fitsWord g.minimumHits

def ChannelFields.wf (f : ChannelFields) : Bool :=
  fitsByte f.lane && fitsByte f.uncoupledMode && fitsByte f.honour && fitsBody f.curve.length &&
    [f.listen, f.offset, f.kd, f.angle, f.zero, f.interfaceStart, f.interfaceWidth, f.interfaceLevel, f.couplingLevel,
      f.failThreshold, f.regainThreshold, f.spacing, f.closeDistance].all fitsWord &&
    f.curve.all CurvePointFields.wf && f.gate1.wf && f.gate2.wf && f.gate3.wf

def RailFields.wf (f : RailFields) : Bool :=
  fitsByte f.defaultAction && fitsByte f.markerEnable &&
    [f.recovery, f.join, f.settle, f.gunOffset, f.merge, f.spray].all fitsWord

def LevelFields.wf (f : LevelFields) : Bool := [f.interface, f.coupling, f.flaw1, f.flaw2, f.flaw3].all fitsWord

def CalFields.wf (f : CalFields) : Bool := fitsByte f.gate && fitsByte f.step && fitsWord f.depth

def LandmarkFields.wf (f : LandmarkFields) : Bool :=
  fitsWord f.length && fitsByte f.kind && fitsByte f.rails && fitsByte f.blank

def PatternFields.wf (f : PatternFields) : Bool :=
  fitsByte f.rails && fitsByte f.condition && fitsByte f.kind && fitsByte f.cls && fitsByte f.action &&
    [f.depthMin, f.depthMax, f.window].all fitsWord

def SetPatternFields.wf (f : SetPatternFields) : Bool := fitsByte f.index && f.entry.all PatternFields.wf

def RouteFields.wf (f : RouteFields) : Bool := fitsByte f.source && fitsByte f.invert && fitsWord f.stretch

def SignalFields.wf (f : SignalFields) : Bool :=
  f.line1.wf && f.line2.wf && f.line3.wf && f.line4.wf && fitsWord f.speedLimit

def VerifyFields.wf (f : VerifyFields) : Bool := [f.d1, f.a1, f.d2, f.a2].all fitsWord

def ReportingFields.wf (f : ReportingFields) : Bool :=
  fitsByte f.statusOnChange && [f.highWater, f.cap, f.flushDelay, f.statusInterval, f.silenceLimit].all fitsWord

/-- A plan's groups; a channel number takes one byte. -/
def planWf (p : List (List Nat)) : Bool :=
  fitsBody p.length && p.all (fun g => fitsBody g.length && g.all fitsByte)

/-- The commands a sender can send. -/
def Instr.wf : Instr → Bool
  | .groupCompletion _ lanes => lanes.wf
  | .calFiringCompletion samples => fitsListen samples
  | .setReporting f => f.wf
  | .setTravel f => f.wf
  | .odoCalEnd f => fitsWord f
  | .setChannel f => f.wf
  | .stagePlan f => planWf f
  | .setRail f => f.wf
  | .setLevels f => f.wf
  | .calChannel f => f.wf
  | .addLandmarks f => fitsBody f.length && f.all LandmarkFields.wf
  | .clearLandmarks f => fitsWord f
  | .setPattern f => f.wf
  | .readPattern f => fitsByte f
  | .setSignals f => f.wf
  | .verify f => f.wf
  | .powerOn | .resetInput | .encoderCount _ | .standstillExpiry | .speedWindowEnd | .pitchEvent _
  | .completionProcessing _ | .commitHandover _ | .echoFlushNotice _ | .echoDrainNotice _ | .trackerHit _
  | .channelEndNotice _ | .trackerCompletionNotice _ | .trackerCommitLeaving _ | .trackerFlushNotice _
  | .trackerDrainNotice _ | .indication _ | .settleCheck _ | .assemblerFlushNotice _ | .assemblerDrainNotice _
  | .railDrained _ | .frontierRetirement | .carPositionChange _ | .markRequest _ | .sprayEnd _ | .signalPulse
  | .signalLevelChange | .stretchEnd _ | .calFiringStart | .verifyFiringStart | .verifyFiringCompletion
  | .setupSaveComplete _ | .frameReceived _ | .frameError _ _ | .interByteTimeout | .unknownRequest | .sendReply
  | .sendBundle | .recordOffer | .bundleFlushExpiry | .changeHandover | .statusTimerExpiry | .silenceExpiry | .identify
  | .readStatus | .setPosition _ | .odoCalBegin | .readChannel | .readPlan | .snapshot | .readLandmarks | .runStart
  | .runStop | .flush | .restart | .setupSave | .setupReload | .lineByteReceived _ _ | .frameSendEnd => true

end Sys2Proof
end

