-- ==== Sys2Proof/Tests/Slice0.lean ====
section
/-! SUPPORT. Tests: each check of `Instr.wf` refuses an ill-formed term; the worked sequences of the spec, one step each;
and for every statement of Obligations.lean a state and operands that meet its hypotheses, clause by clause. -/

namespace Sys2Proof.Tests

open Sys2Proof.Machine

set_option Elab.async false

/-! ### Helpers -/

/-- The state a command leaves; the state itself where it stops. -/
def after (c : Instr) (s : State) : State :=
  match exec c s with
  | .next t => t
  | _ => s

/-- A request's body: kind, tag 7, rail byte, channel byte, and as many bytes of fields. -/
def headOf (k : RequestKind) (size rail channel : Nat) : Frame :=
  ⟨[BitVec.ofNat 8 k.code, 7, BitVec.ofNat 8 rail, BitVec.ofNat 8 channel] ++ List.replicate size 0⟩

/-- The state with this request alone in the input buffer. -/
def sent (k : RequestKind) (size rail channel : Nat) (s : State) : State :=
  { s with line := { s.line with input := [headOf k size rail channel] } }

/-- The request sent waits. -/
theorem sent_waits (k : RequestKind) (size rail channel : Nat) (s : State) (h : s.line.replies.length < 4) :
    requestWaits (sent k size rail channel s) k size (headOf k size rail channel) [] :=
  ⟨⟨rfl, h, by cases k <;> rfl⟩, by simp [headOf]; omega⟩

/-- The code and the failing index of the last reply. -/
def answer (s : State) : Option (ReplyCode × Nat) := s.line.replies.getLast?.map (fun r => (r.code, r.index))

/-- What the last reply carries. -/
def carried (s : State) : Option ReplyPayload := s.line.replies.getLast?.map Reply.payload

def inState (st : RunState) (s : State) : State := { s with run := { s.run with state := st } }

/-- The store is WRITING the defaults. -/
def writing (s : State) : State := { s with run := { s.run with writing := some Setup.defaults } }

def withPlan (r : Rail) (p : Plan) (s : State) : State :=
  { s with setup := { s.setup with plans := s.setup.plans.set r p } }

def withRecord (r : Rail) (ch : Channel) (x : ChannelRecord) (s : State) : State :=
  { s with setup := { s.setup with channels := s.setup.channels.set r (setAt (s.setup.channels.get r) ch x) } }

def withFiring (r : Rail) (u : FiringUnit) (s : State) : State := { s with firing := s.firing.set r u }
def withEcho (r : Rail) (e : EchoProcessor) (s : State) : State := { s with echo := s.echo.set r e }
def withTracker (r : Rail) (k : Tracker) (s : State) : State := { s with tracker := s.tracker.set r k }
def withAssembler (r : Rail) (a : Assembler) (s : State) : State := { s with assembler := s.assembler.set r a }
def withMarking (r : Rail) (m : MarkingUnit) (s : State) : State := { s with marking := s.marking.set r m }
def withTravel (t : Travel) (s : State) : State := { s with travel := t }
def withLine (l : Line) (s : State) : State := { s with line := l }
def withRouter (x : Router) (s : State) : State := { s with router := x }
def withRun (c : RunControl) (s : State) : State := { s with run := c }
def withLandmarks (l : LandmarkList) (s : State) : State := { s with landmarks := l }

/-! ### Ill-formed terms -/

def gateFields : GateFields := ⟨0, 0, 16, 512, 1000, 1, 30, 30, 3⟩

def channelFields : ChannelFields :=
  ⟨0, 1024, 0, 19399, 0, 0, 0, 256, 400, 800, 4, 2, 0, 100, 1, 500, [], gateFields, gateFields, gateFields⟩

def patternFields : PatternFields := ⟨2, 0x600, 0x600, 150, 400, 1, 0, 300, 12, 2⟩

def routeFields : RouteFields := ⟨10, 1, 100⟩

def reportingFields : ReportingFields := ⟨192, 1024, 5, 1000, 1, 0, 0, 0⟩

theorem test_wf_accepts :
    Instr.wf (.setChannel channelFields) = true ∧ Instr.wf (.setTravel ⟨0, 224460, 30, 500⟩) = true ∧
      Instr.wf (.setPattern ⟨15, some patternFields⟩) = true ∧ Instr.wf (.stagePlan [[0, 1, 2, 3]]) = true ∧
      Instr.wf (.setReporting reportingFields) = true := by decide

theorem test_wf_refuses_long_samples :
    Instr.wf (.calFiringCompletion (List.replicate 8193 0)) = false ∧
      Instr.wf (.groupCompletion .left ⟨List.replicate 8193 0, [], [], []⟩) = false ∧
      Instr.wf (.groupCompletion .left ⟨[], List.replicate 8193 0, [], []⟩) = false ∧
      Instr.wf (.groupCompletion .left ⟨[], [], List.replicate 8193 0, []⟩) = false ∧
      Instr.wf (.groupCompletion .left ⟨[], [], [], List.replicate 8193 0⟩) = false := by
  decide +kernel

theorem test_wf_refuses_enumerations_wider_than_a_byte :
    Instr.wf (.setTravel ⟨256, 1, 30, 500⟩) = false ∧
      Instr.wf (.setChannel { channelFields with lane := 256 }) = false ∧
      Instr.wf (.setChannel { channelFields with uncoupledMode := 256 }) = false ∧
      Instr.wf (.setChannel { channelFields with honour := 256 }) = false ∧
      Instr.wf (.setChannel { channelFields with gate1 := { gateFields with presence := 256 } }) = false ∧
      Instr.wf (.setChannel { channelFields with gate2 := { gateFields with mode := 256 } }) = false ∧
      Instr.wf (.setChannel { channelFields with gate3 := { gateFields with useCurve := 256 } }) = false ∧
      Instr.wf (.setRail ⟨10, 100, 20000, 256, 0, 40000, 200, 60⟩) = false ∧
      Instr.wf (.setRail ⟨10, 100, 20000, 0, 256, 40000, 200, 60⟩) = false ∧
      Instr.wf (.calChannel ⟨256, 1, 0⟩) = false ∧ Instr.wf (.calChannel ⟨1, 256, 0⟩) = false ∧
      Instr.wf (.addLandmarks [⟨0, 0, 256, 0, 0⟩]) = false ∧ Instr.wf (.addLandmarks [⟨0, 0, 0, 256, 0⟩]) = false ∧
      Instr.wf (.addLandmarks [⟨0, 0, 0, 0, 256⟩]) = false := by decide

theorem test_wf_refuses_tables_and_routes_wider_than_a_byte :
    Instr.wf (.setPattern ⟨256, none⟩) = false ∧
      Instr.wf (.setPattern ⟨0, some { patternFields with rails := 256 }⟩) = false ∧
      Instr.wf (.setPattern ⟨0, some { patternFields with condition := 256 }⟩) = false ∧
      Instr.wf (.setPattern ⟨0, some { patternFields with kind := 256 }⟩) = false ∧
      Instr.wf (.setPattern ⟨0, some { patternFields with cls := 256 }⟩) = false ∧
      Instr.wf (.setPattern ⟨0, some { patternFields with action := 256 }⟩) = false ∧
      Instr.wf (.readPattern 256) = false ∧
      Instr.wf (.setSignals ⟨{ routeFields with source := 256 }, routeFields, routeFields, routeFields, 800⟩) = false ∧
      Instr.wf (.setSignals ⟨routeFields, { routeFields with invert := 256 }, routeFields, routeFields, 800⟩) = false ∧
      Instr.wf (.setReporting { reportingFields with statusOnChange := 256 }) = false ∧
      Instr.wf (.stagePlan [[256]]) = false ∧ Instr.wf (.stagePlan (List.replicate 2041 [0])) = false ∧
      Instr.wf (.stagePlan [List.replicate 2041 0]) = false := by decide +kernel

theorem test_wf_refuses_numbers_wider_than_four_bytes :
    Instr.wf (.setTravel ⟨0, 4294967296, 30, 500⟩) = false ∧ Instr.wf (.setTravel ⟨0, 1, -2147483649, 500⟩) = false ∧
      Instr.wf (.odoCalEnd 4294967296) = false ∧ Instr.wf (.clearLandmarks (-2147483649)) = false ∧
      Instr.wf (.setChannel { channelFields with listen := 4294967296 }) = false ∧
      Instr.wf (.setChannel { channelFields with curve := [⟨4294967296, 0⟩] }) = false ∧
      Instr.wf (.setChannel { channelFields with curve := List.replicate 2041 ⟨0, 0⟩ }) = false ∧
      Instr.wf (.setChannel { channelFields with gate1 := { gateFields with start := 4294967296 } }) = false ∧
      Instr.wf (.setRail ⟨4294967296, 100, 20000, 0, 0, 40000, 200, 60⟩) = false ∧
      Instr.wf (.setLevels ⟨0, 0, 0, 0, 4294967296⟩) = false ∧ Instr.wf (.calChannel ⟨1, 1, 4294967296⟩) = false ∧
      Instr.wf (.addLandmarks [⟨0, 4294967296, 0, 0, 0⟩]) = false ∧
      Instr.wf (.addLandmarks (List.replicate 2041 ⟨0, 0, 0, 0, 0⟩)) = false ∧
      Instr.wf (.setPattern ⟨0, some { patternFields with depthMin := 4294967296 }⟩) = false ∧
      Instr.wf (.setSignals ⟨routeFields, routeFields, { routeFields with stretch := 4294967296 }, routeFields, 800⟩) = false ∧
      Instr.wf (.setSignals ⟨routeFields, routeFields, routeFields, routeFields, 4294967296⟩) = false ∧
      Instr.wf (.verify ⟨4294967296, 0, 0, 0⟩) = false ∧
      Instr.wf (.setReporting { reportingFields with cap := 4294967296 }) = false := by decide +kernel

/-! ### The queue of commands -/

theorem test_the_first_command_runs_first :
    (match step { State.reset with pending := [.odoCalBegin, .frameSendEnd] } with
      | .next t => t.pending
      | _ => []) = [.frameSendEnd] := by decide +kernel

theorem test_no_word_spells_a_command : decodeTableWord 8 0 = none ∧ State.reset.withFetchWord 8 0 = State.reset := by
  decide +kernel

/-! ### The travel unit: the worked sequences of chapter 1 -/

/-- Two pitch events wait at the left firing unit. -/
def twoEvents (s : State) : State := withFiring .left { s.firing.left with pitchEvents := [30, 60] } s

/-- The unit after eight forward counts. -/
def eightCounts : State :=
  { withTravel { State.reset.travel with accumulator := 1795680, frontier := 27, motion := .forward, lastCount := some 0 }
      State.reset with
    marking := ⟨{ State.reset.marking.left with motion := .forward }, { State.reset.marking.right with motion := .forward }⟩ }

theorem test_ninth_forward_count :
    (after (.encoderCount (.phase1 true false)) eightCounts).travel.accumulator = 2020140 ∧
      (after (.encoderCount (.phase1 true false)) eightCounts).travel.boundary = 60 ∧
      (after (.encoderCount (.phase1 true false)) eightCounts).firing.left.pitchEvents = [30] ∧
      (after (.encoderCount (.phase1 true false)) eightCounts).landmarks.frontiers = [30] := by decide +kernel

theorem test_a_reverse_count_leaves_the_frontier :
    (after (.encoderCount (.phase1 false false)) eightCounts).travel.frontier = 27 ∧
      (after (.encoderCount (.phase1 false false)) eightCounts).travel.motion = .reverse ∧
      (after (.encoderCount (.phase1 false false)) eightCounts).marking.right.motion = .reverse ∧
      (after (.encoderCount (.phase1 false false)) eightCounts).firing.left.pitchEvents = [] := by decide +kernel

theorem test_speed_of_222_metres_a_window :
    (after .speedWindowEnd (withTravel { State.reset.travel with accumulator := 22200 * 65536 } State.reset)).travel.speed = 799 := by
  decide +kernel

theorem test_standstill_expiry :
    (after .standstillExpiry eightCounts).travel.motion = .standstill ∧ (after .standstillExpiry eightCounts).now = 50000000 ∧
      (after .standstillExpiry eightCounts).marking.left.motion = .standstill := by decide +kernel

theorem test_set_travel_repeated_reads_the_settings :
    answer (after (.setTravel ⟨0, 224460, 30, 500⟩) (sent .setTravel 11 0 0 (inState .running State.reset))) = some (.ok, 0) ∧
      answer (after (.setTravel ⟨0, 224460, 31, 500⟩) (sent .setTravel 11 0 0 (inState .running State.reset))) = some (.state, 0) := by
  decide +kernel

/-- A set position takes the boundaries that wait with it. -/
theorem test_set_position_empties_the_pitch_events :
    (after (.setPosition 1000) (sent .setPosition 4 0 0 (inState .stopped (twoEvents State.reset)))).firing.left.pitchEvents = [] := by
  decide +kernel

theorem test_set_position :
    (after (.setPosition 1000) (sent .setPosition 4 0 0 State.reset)).travel.boundary = 1030 ∧
      (after (.setPosition 1000) (sent .setPosition 4 0 0 State.reset)).marking.right.gun = -39000 := by decide +kernel

/-- A request with a field missing is answered LENGTH. -/
theorem test_a_short_request :
    answer (after (.setPosition 1000) (sent .setPosition 3 0 0 State.reset)) = some (.length, 0) ∧
      (after (.setPosition 1000) (sent .setPosition 3 0 0 State.reset)).travel.boundary = 30 := by decide +kernel

/-- An open calibration with this count. -/
def counted (n : Int) : State :=
  sent .odoCalEnd 4 0 0 (withTravel { State.reset.travel with calOpen := true, calCount := n } State.reset)

theorem test_odometer_calibration_over_100_metres :
    carried (after (.odoCalEnd 1000000) (counted (-292000))) = some (.calibration 292000 224438 1000000) ∧
      answer (after (.odoCalEnd 1000000) (counted 292000)) = some (.ok, 0) := by decide +kernel

theorem test_odometer_calibration_too_short :
    answer (after (.odoCalEnd 5000) (counted 800)) = some (.order, 0) ∧
      carried (after (.odoCalEnd 5000) (counted 800)) = some (.calibration 800 224460 10000) := by decide +kernel

theorem test_odo_cal_begin_opens : (after .odoCalBegin (sent .odoCalBegin 0 0 0 State.reset)).travel.calOpen = true := by
  decide +kernel

/-! ### The firing units: the worked sequences of chapter 2 -/

/-- A run on the left rail with the two groups of section 2.7 and this event waiting. -/
def twoGroups (pointer : Nat) (event : Int) : State :=
  withFiring .left { State.reset.firing.left with pointer := pointer, pitchEvents := [event] }
    (inState .running (withPlan .left [[0, 1, 2, 3], [4, 5, 6, 7]] State.reset))

theorem test_a_group_starts :
    (after (.pitchEvent .left) (twoGroups 1 4970)).firing.left.flight.map Flight.endTime = some 2024 ∧
      (after (.pitchEvent .left) (twoGroups 1 4970)).firing.left.pointer = 0 := by decide +kernel

/-- The new plan staged while G1 is in flight, and the event at 5000. -/
def staged : State :=
  withFiring .left { (after (.pitchEvent .left) (twoGroups 1 4970)).firing.left with
    staged := some [[0, 1, 2, 3], [8, 9]], pitchEvents := [5000] } (twoGroups 1 4970)

theorem test_a_commit :
    (after (.pitchEvent .left) staged).firing.left.held = some ⟨[0, 1, 2, 3], 5000⟩ ∧
      (after (.pitchEvent .left) staged).echo.left.inbox = [.commit [4, 5, 6, 7] [8, 9]] := by decide +kernel

/-- The firings in flight of the channels that a commit moves are void (R35, R36). -/
theorem test_a_commit_voids_firings :
    (after (.pitchEvent .left) staged).firing.left.flight.map Flight.void = some [4, 5, 6, 7, 8, 9] := by decide +kernel

theorem test_a_completion_without_its_channels :
    (after (.groupCompletion .left ⟨[], [], [], []⟩) (withPlan .left [[0, 1, 2, 3], [8, 9]] staged)).echo.left.inbox
      = [.completion 4970 [4, 5, 6, 7] []] := by decide +kernel

/-! ### Gates: the worked example of chapter 3 -/

def curve : List CurvePoint := [⟨200, 800⟩, ⟨1200, 400⟩]

theorem test_level_curve :
    curveLevel curve 333 = some 747 ∧ curveLevel curve 203 = some 799 ∧ curveLevel curve 202 = some 800 := by decide

/-- Left channel 6 of the worked example. -/
def channel6 : ChannelRecord :=
  { State.reset.channel .left 6 with
    curve := curve
    gates := #v[some ⟨.peak, 16, 512, 1000, false, 30, 30, 3⟩, some ⟨.first, 100, 600, 1000, true, 30, 30, 3⟩,
      some ⟨.absent, 600, 400, 500, false, 30, 30, 3⟩] }

/-- Its samples, with this amplitude at index 101. -/
def samples6 (at101 : Nat) : List Nat :=
  (List.range 1024).map (fun k =>
    if k = 100 then 380 else if k = 101 then at101 else if k = 102 then 910 else if k = 103 then 870 else if k = 104 then 300
    else if k = 300 then 1400 else if k = 301 then 1650 else if k = 302 then 1650 else if k = 303 then 1200
    else if k = 304 then 700 else if k = 540 then 1650 else if k = 900 then 340 else 60)

theorem test_one_firing_of_one_channel :
    gateResult channel6 (samples6 850) =
      ⟨some ⟨101, 850⟩, true, #v[.hit ⟨200, 1650⟩, .hit ⟨199, 1650⟩, .hit ⟨761, 340⟩]⟩ := by decide +kernel

theorem test_a_weak_interface_echo :
    (gateResult channel6 (samples6 620)).pass = false ∧
      (gateResult { channel6 with interfaceLevel := 1000 } (samples6 850)) =
        ⟨none, false, #v[.notEvaluated, .notEvaluated, .notEvaluated]⟩ := by decide +kernel

theorem test_snapshot_blocks :
    blockSize 256 = 1 ∧ blockSize 1000 = 2 ∧ blockSize 1024 = 2 ∧ blockSize 1025 = 3 ∧ blockSize 8192 = 16 ∧
      (snapshotPoints (List.range 1025)).length = 342 ∧ (snapshotPoints (List.range 1025)).getLast? = some 1024 := by
  decide +kernel

/-- A gate of presence NONE is shown as zero (R24), and so are kind and window of a pattern of condition NONE (R141). -/
theorem test_what_is_not_kept_is_shown_as_zero :
    carried (after .readChannel (sent .readChannel 0 0 9 State.reset)) =
      some (.channel
        ⟨1, 1024, 0, 19399, 0, 0, 0, 256, 400, 800, 4, 2, 0, 100, 1, 500, [], ⟨0, 0, 16, 512, 1000, 1, 30, 30, 3⟩,
          ⟨1, 0, 0, 0, 0, 0, 0, 0, 0⟩, ⟨1, 0, 0, 0, 0, 0, 0, 0, 0⟩⟩ 0) ∧
      carried (after (.setPattern ⟨0, some { patternFields with condition := 0, kind := 4 }⟩)
        (sent .setPattern 19 0 0 State.reset)) = some (.pattern (some ⟨2, 0x600, 0x600, 150, 400, 0, 0, 0, 12, 2⟩)) := by
  decide +kernel

/-! ### Coverage and geometry: the worked sequences of chapters 4 and 5 -/

/-- Left channel 3 of section 4.6. -/
def channel3 : ChannelRecord :=
  { State.reset.channel .left 3 with offset := 2000, honour := true }

theorem test_coupling_is_lost_at_the_fourth_fail :
    let c : Cover := ⟨.coupled, 3, 0, some 12060, some 10180, some 12180, none⟩
    ((c.count channel3 false 12240).stretches channel3 10240 true false).1 =
      ⟨.uncoupled, 4, 0, some 12060, some 10240, some 12240, some ⟨12060, ⟨true, false, false⟩, false⟩⟩ := by decide +kernel

theorem test_coupling_is_regained_and_the_stretch_reported :
    let c : Cover := ⟨.uncoupled, 0, 1, none, some 10420, some 12420, some ⟨12060, ⟨true, false, true⟩, false⟩⟩
    ((c.count channel3 true 12480).stretches channel3 10480 false false).2.map (fun x => (x.start, x.finish)) = [(12060, 12480)] ∧
      (c.count channel3 true 12480).coupling = .coupled := by decide +kernel

theorem test_a_blanked_stretch_closes_in_a_run_of_fails :
    let c : Cover := ⟨.coupled, 2, 0, some 12540, some 10600, some 12600, some ⟨12600, ⟨false, true, false⟩, false⟩⟩
    ((c.count channel3 false 12660).stretches channel3 10660 false false).1.firstFail = some 12660 ∧
      ((c.count channel3 false 12660).stretches channel3 10660 false false).2.map (fun x => (x.start, x.finish))
        = [(12600, 12660)] := by decide +kernel

/-- Left channel 9 of section 5.3. -/
def channel9 : ChannelRecord :=
  { State.reset.channel .left 9 with kd := 10584, angle := 180059, zero := 50, offset := -8500 }

theorem test_a_fore_looking_hit :
    channel9.ka = 29079 ∧ placeHit channel9 1234560 ⟨1450, 1980⟩ = ⟨1226681, 226, false⟩ := by decide +kernel

theorem test_the_aft_looking_twin_and_the_clamps :
    placeHit { channel9 with angle := -180059, offset := 8500 } 1234560 ⟨1450, 1980⟩ = ⟨1242439, 226, false⟩ ∧
      placeHit { channel9 with kd := 21000, angle := 0, zero := 0, offset := 0 } 0 ⟨8000, 1⟩ = ⟨0, 2500, true⟩ ∧
      placeHit { channel9 with kd := 32768, angle := -65536, zero := 0, offset := 0 } 0 ⟨5, 1⟩ = ⟨-3, 3, false⟩ := by decide +kernel

/-- Step 2 of the calibration of section 5.5 with fifteen firings done and one in flight, the best hit so far at this time. -/
def calibrating (t2 : Nat) : State :=
  withFiring .left { State.reset.firing.left with operationFlight := some ⟨⟨9, channel9⟩, 0, 2000⟩ }
    (withRun { State.reset.run with
        state := .calibrating, operation := some (.calibration ⟨.left, 9, 0, true, 1000, 15, some ⟨t2, 2000⟩⟩)
        pendingPoint := some ⟨.left, 9, 0, 250, 1598⟩ } (withRecord .left 9 channel9 State.reset))

theorem test_calibrating_a_channel :
    ((after (.calFiringCompletion []) (calibrating 6243)).channel .left 9).kd = 10582 ∧
      ((after (.calFiringCompletion []) (calibrating 6243)).channel .left 9).zero = 50 ∧
      ((after (.calFiringCompletion []) (calibrating 6243)).channel .left 9).ka = 29074 := by decide +kernel

theorem test_calibrating_on_the_shallow_hole_again :
    ((after (.calFiringCompletion []) (calibrating 1601)).channel .left 9).kd = 10584 ∧
      (after (.calFiringCompletion []) (calibrating 1601)).run.pendingPoint = none := by decide +kernel

/-! ### Traces: the worked sequence of section 6.6 -/

/-- The trace table before the firing at 20,120: slots 1 and 4 of the sequence. -/
def traces : State :=
  withTracker .left
    { State.reset.tracker.left with
      slots := setAt (setAt State.reset.tracker.left.slots 1
        (some ⟨9, 0, 20618, 20618, 20624, 231, 226, 231, ⟨1800, 20624, 228⟩, 3, 20060, false⟩)) 4
        (some ⟨9, 0, 20670, 20670, 20670, 226, 226, 226, ⟨1200, 20670, 226⟩, 1, 20090, false⟩)
      inbox := [.hit ⟨9, 0, 20120, 20645, 229, 1600, false⟩] } State.reset

theorem test_the_nearer_trace_is_joined :
    (after (.trackerHit .left) traces).tracker.left.slots[(4 : Fin 32)] =
      some ⟨9, 0, 20645, 20645, 20670, 229, 226, 229, ⟨1600, 20645, 229⟩, 2, 20120, false⟩ ∧
      (after (.trackerHit .left) traces).tracker.left.slots[(1 : Fin 32)] = traces.tracker.left.slots[(1 : Fin 32)] := by
  decide +kernel

/-- The hit of `traces` with its HIT record still waiting: it is not taken before the record's offer (R102). -/
def unstreamed : State :=
  withLine { State.reset.line with inbox := [.change .motion, .offer (.hit ⟨.left, 9, 0, 20120, 20645, 229, 1600, false, false⟩)] }
    traces

theorem test_a_hit_waits_for_its_record :
    after (.trackerHit .left) unstreamed = unstreamed ∧
      (after (.trackerHit .left) (after .recordOffer (after .changeHandover unstreamed))).tracker.left.inbox = [] := by
  decide +kernel

/-- The channel-end notice of the firing at 20,180. -/
def noticed : State :=
  withRecord .left 9 { channel9 with closeDistance := 100 }
    (withTracker .left { traces.tracker.left with inbox := [.channelEnd 9 20180] } State.reset)

theorem test_a_trace_becomes_an_indication :
    (after (.channelEndNotice .left) noticed).assembler.left.inbox =
      [.indication ⟨9, 0, 20618, 20624, 226, 231, ⟨1800, 20624, 228⟩, 3, false⟩] ∧
      (after (.channelEndNotice .left) noticed).tracker.left.slots[(4 : Fin 32)].isSome = true := by decide +kernel

/-! ### Landmarks: the worked sequence of chapter 7 -/

/-- The list after step 1. -/
def list1 : LandmarkList :=
  ⟨[⟨120000, 0, .weld, .both, true⟩, ⟨135400, 7600, .joint, .both, true⟩, ⟨150000, 250000, .switch, .both, false⟩], 30000, []⟩

theorem test_landmarks_out_of_order_and_duplicate :
    answer (after (.addLandmarks [⟨175000, 0, 0, 1, 0⟩, ⟨172000, 0, 0, 0, 0⟩])
        (sent .addLandmarks 26 0 0 (withLandmarks list1 State.reset))) = some (.order, 1) ∧
      answer (after (.addLandmarks [⟨150000, 250000, 2, 2, 1⟩])
        (sent .addLandmarks 14 0 0 (withLandmarks list1 State.reset))) = some (.duplicate, 0) := by decide +kernel

theorem test_landmarks_added :
    (after (.addLandmarks [⟨172000, 0, 0, 0, 0⟩, ⟨175000, 0, 0, 1, 0⟩])
      (sent .addLandmarks 26 0 0 (withLandmarks list1 State.reset))).landmarks.entries.length = 5 := by decide +kernel

theorem test_landmark_queries :
    list1.blanks .right 137330 = true ∧ list1.blanks .left 135330 = false ∧ list1.blanks .left 120330 = false ∧
      list1.present .left 120020 120140 .weld 200 = true ∧ list1.present .left 120020 120140 .joint 1000 = false := by
  decide +kernel

theorem test_a_weld_retires :
    ((after .frontierRetirement (withLandmarks { list1 with frontiers := [150001] } State.reset)).landmarks.entries).length = 2 ∧
      ((after .frontierRetirement (withLandmarks { list1 with frontiers := [150000] } State.reset)).landmarks.entries).length = 3 := by
  decide +kernel

/-! ### Findings: the worked sequence of section 8.7 -/

def indicationA : Contribution := ⟨9, 0, 20618, 20624, 226, 231, ⟨1800, 20624, 228⟩, 3, false⟩
def indicationB : Contribution := ⟨3, 0, 20800, 20840, 300, 320, ⟨1500, 20820, 310⟩, 5, false⟩
def indicationC : Contribution := ⟨10, 0, 20690, 20760, 224, 236, ⟨2100, 20700, 229⟩, 6, true⟩
def indicationD : Contribution := ⟨9, 0, 20650, 20660, 228, 229, ⟨1200, 20655, 228⟩, 3, false⟩

def findingOf (i : Contribution) : Finding := ⟨i.minPr, i.maxPr, i.minD, i.maxD, [i], false, i.uncoupled⟩

/-- The finding after C. -/
def findingC : Finding := ⟨20618, 20840, 224, 320, [indicationA, indicationB, indicationC], false, true⟩

/-- The list after B, with C waiting. -/
def listB : State :=
  withAssembler .left
    { State.reset.assembler.left with
      slots := setAt (setAt State.reset.assembler.left.slots 0 (some (findingOf indicationA))) 1 (some (findingOf indicationB))
      number := 41, inbox := [.indication indicationC] } State.reset

theorem test_an_indication_merges_two_findings :
    (after (.indication .left) listB).assembler.left.slots[(0 : Fin 16)] = some findingC ∧
      (after (.indication .left) listB).assembler.left.slots[(1 : Fin 16)] = none := by decide +kernel

theorem test_an_indication_is_combined :
    (findingC.add indicationD).contributions =
      [⟨9, 0, 20618, 20660, 226, 231, ⟨1800, 20624, 228⟩, 6, false⟩, indicationB, indicationC] := by decide +kernel

/-- The list after C at this completion, with the pattern table of the sequence and the weld at this position. -/
def settling (weld pf : Int) : State :=
  let s := withAssembler .left
    { State.reset.assembler.left with
      slots := setAt State.reset.assembler.left.slots 0 (some findingC), number := 41, inbox := [.completion pf] } State.reset
  { s with
    landmarks := ⟨[⟨weld, 0, .weld, .both, false⟩], 30000, []⟩
    setup :=
      { s.setup with
        patterns := setAt (setAt (setAt s.setup.patterns 1 (some ⟨.right, 0xFFF, 0, 1500, 2500, .unconditional, 5, .act .report⟩)) 2
          (some ⟨.both, 0x600, 0x600, 150, 400, .near .weld 300, 12, .suppress⟩)) 3
          (some ⟨.left, 0x609, 0x608, 0, 2500, .unconditional, 21, .act .reportAndMark⟩) } }

theorem test_a_finding_settles_and_is_marked :
    (after (.settleCheck .left) (settling 21900 40870)).assembler.left.number = 42 ∧
      (after (.settleCheck .left) (settling 21900 40870)).marking.left.requests = [⟨42, 20729⟩] ∧
      (after (.settleCheck .left) (settling 21900 40840)).assembler.left.number = 41 := by decide +kernel

theorem test_a_finding_beside_a_weld_is_suppressed :
    (after (.settleCheck .left) (settling 20900 40870)).run.suppressed = 1 ∧
      (after (.settleCheck .left) (settling 20900 40870)).assembler.left.number = 41 := by decide +kernel

/-- The finding of `settling`, entries 0 and 1 that ask for one weld NEAR and NOT_NEAR, an EMPTY entry 2, an empty list, and an ADD_LANDMARKS of a
weld beside the finding waiting, to come about as `between` says. -/
def straddling (between : List (List LandmarkStep)) : State :=
  let s := settling 21900 40870
  sent .addLandmarks 14 0 0
    { s with
      between := between
      landmarks := ⟨[], 30000, []⟩
      setup :=
        { s.setup with
          patterns := setAt (setAt (setAt s.setup.patterns 0 (some ⟨.both, 0, 0, 0, 2500, .near .weld 300, 1, .suppress⟩)) 1
            (some ⟨.both, 0, 0, 0, 2500, .notNear .weld 300, 2, .act .report⟩)) 2 none } }

/-- The two queries straddle the request: neither entry matches, which no one list gives (R122). -/
theorem test_two_queries_straddle_an_addition :
    (after (.settleCheck .left) (straddling [[], [.add [⟨20900, 0, 0, 2, 1⟩]]])).marking.left.requests = [⟨42, 20729⟩] ∧
      (after (.settleCheck .left) (straddling [[.add [⟨20900, 0, 0, 2, 1⟩]], []])).run.suppressed = 1 ∧
      (after (.settleCheck .left) (straddling [[.add [⟨20900, 0, 0, 2, 1⟩]], []])).between = [[]] ∧
      (after (.settleCheck .left) (straddling [])).marking.left.requests = [] := by decide +kernel

/-! ### Marks: the worked sequence of section 9.5 -/

/-- The left marking unit with this gun position, queue and request. -/
def marked (gun : Int) (queue : List Mark) (q : MarkRequest) : State :=
  withMarking .left { State.reset.marking.left with gun := gun, queue := queue, requests := [q] } State.reset

theorem test_mark_requests :
    (after (.markRequest .left) (marked 874 [] ⟨42, 20729⟩)).marking.left.queue = [⟨20729, 42, 0⟩] ∧
      (after (.markRequest .left) (marked 1052 [⟨20729, 42, 0⟩] ⟨43, 20880⟩)).marking.left.queue = [⟨20729, 42, 1⟩] ∧
      (after (.markRequest .left) (marked 3301 [⟨20729, 42, 1⟩] ⟨44, 23100⟩)).marking.left.queue
        = [⟨20729, 42, 1⟩, ⟨23100, 44, 0⟩] := by decide +kernel

theorem test_a_late_mark_request :
    (after (.markRequest .left) (marked 3410 [⟨20729, 42, 1⟩, ⟨23100, 44, 0⟩] ⟨45, 3100⟩)).line.inbox =
      [.offer (.mark ⟨.left, .late, 45, 3100, none, 0, some 3410, 2⟩)] := by decide +kernel

theorem test_a_mark_is_fired :
    let s := withMarking .left { State.reset.marking.left with
      queue := [⟨20729, 42, 1⟩, ⟨23100, 44, 0⟩], moves := [⟨60730, .forward⟩] } State.reset
    (after (.carPositionChange .left) s).marking.left.queue = [⟨23100, 44, 0⟩] ∧
      (after (.carPositionChange .left) s).marking.left.sprayEnd = some 6000000 ∧
      (after (.carPositionChange .left) s).line.inbox = [.offer (.mark ⟨.left, .fired, 42, 20729, none, 1, some 20730, 1⟩)] := by
  decide +kernel

/-! ### The host line: chapter 11 -/

theorem test_crc16_of_the_digits :
    crc16 [0x31#8, 0x32#8, 0x33#8, 0x34#8, 0x35#8, 0x36#8, 0x37#8, 0x38#8, 0x39#8] = 0x29B1#16 := by decide +kernel

/-- A HIT record and an UNTESTED record. -/
def hitRecord : Record := .hit ⟨.left, 0, 0, 0, 0, 0, 0, false, false⟩
def untestedRecord : Record := .untested ⟨.left, 0, 0, 0, ⟨true, false, false⟩, false⟩

/-- Channel 0 of the left rail in the hit-stream set. -/
def streaming : State :=
  { State.reset with
    setup := { State.reset.setup with reporting := { State.reset.setup.reporting with hitStream := ⟨1, 0⟩ } } }

/-- A report queue with this many LOW and then this many HIGH records, and this record offered. -/
def queued (low high : Nat) (x : Record) : State :=
  withLine { State.reset.line with
    queue := List.replicate low hitRecord ++ List.replicate high untestedRecord
    bundle := ⟨.ready, 40, none⟩, inbox := [.offer x] } streaming

theorem test_offers_below_and_at_the_threshold :
    (after .recordOffer (queued 176 15 hitRecord)).line.queue.length = 192 ∧
      (after .recordOffer (queued 177 15 hitRecord)).line.dropped = 1 := by decide +kernel

theorem test_a_high_record_displaces_the_newest_low_one :
    (after .recordOffer (queued 177 79 untestedRecord)).line.queue.length = 256 ∧
      ((after .recordOffer (queued 177 79 untestedRecord)).line.queue.filter Record.isLow).length = 176 ∧
      (after .recordOffer (queued 0 256 untestedRecord)).line.lost = 1 := by decide +kernel

/-- The hit-stream set is read when the hit's turn comes (R83). -/
theorem test_hits_straddle_a_change_of_the_set :
    (after .recordOffer (queued 0 0 hitRecord)).line.queue = [hitRecord] ∧
      (after .recordOffer { queued 0 0 hitRecord with setup := Setup.defaults }).line.queue = [] ∧
      (after .recordOffer { queued 0 0 hitRecord with setup := Setup.defaults }).line.inbox = [] := by decide +kernel

/-- A CHANGE record takes the place of its change, before an offer handed over later (R180). -/
theorem test_a_status_record_in_order_of_handover :
    let s := withLine { State.reset.line with inbox := [.change .motion, .offer untestedRecord] }
      { State.reset with setup := { State.reset.setup with reporting := { State.reset.setup.reporting with statusOnChange := true } } }
    let t := after .recordOffer (after .changeHandover s)
    t.line.queue.map Record.isLow = [false, false] ∧ t.line.queue[1]? = some untestedRecord ∧ t.line.changes = ChangeSet.empty := by
  decide +kernel

/-- A PERIODIC record comes behind what was offered before, and names the change handed over before (R163, R180). -/
theorem test_a_periodic_record_in_order_of_handover :
    let s := withLine { State.reset.line with inbox := [.offer untestedRecord, .change .runState] } State.reset
    let t := after .statusTimerExpiry (after .changeHandover (after .recordOffer s))
    after .statusTimerExpiry s = s ∧ t.line.queue[0]? = some untestedRecord ∧
      (match t.line.queue[1]? with
        | some (Record.status x) => x.changes.runState
        | _ => false) = true := by
  decide +kernel

theorem test_a_bundle_of_forty_hits :
    (after .sendBundle (queued 176 80 hitRecord)).line.queue.length = 216 ∧
      bundleBody (List.replicate 40 hitRecord) = 764 := by decide +kernel

theorem test_verifying_right_channel_4 :
    let e : TestEcho := ⟨100, 2000, 300, 1500⟩
    let s := withFiring .right { State.reset.firing.right with
        operationFlight := some ⟨⟨4, State.reset.channel .right 4⟩, 0, 2000⟩, generators := Vector.replicate 4 (some e) }
      (withRun { State.reset.run with state := .verifying, operation := some (.verification ⟨.right, e, [4, 7, 1], []⟩) } State.reset)
    (match (after .verifyFiringCompletion s).run.operation with
      | some (.verification v) => v.results
      | _ => []) = [⟨4, some 100, #v[some ⟨300, 1500⟩, none, none]⟩] := by decide +kernel

/-! ### What the statements assume is met

One theorem for each statement of Obligations.lean that assumes something: a state and operands that meet what each of its
clauses assumes. A hypothesis that only names a value (`x = …`) is met by that value and is left out. -/

/-- The request, with this many bytes of fields, waits in the state that has it alone in its buffer. -/
def Waits (k : RequestKind) (size rail channel : Nat) (s : State) : Prop :=
  requestWaits (sent k size rail channel s) k size (headOf k size rail channel) []

theorem waits (k : RequestKind) (size rail channel : Nat) {s : State} (h : s.line.replies.length < 4) :
    Waits k size rail channel s := sent_waits k size rail channel s h

theorem test_premises_StepRunsTheHeadCommand : State.reset.pending = [] := rfl

theorem test_premises_ACommandTouchesOnlyItsParts :
    exec .frameSendEnd State.reset = .next (after .frameSendEnd State.reset) := rfl

theorem test_premises_ACommandWithNothingToTakeChangesNothing :
    ¬ State.reset.awaits (.pitchEvent .left) ∧ ¬ State.reset.awaits .identify ∧ ¬ State.reset.awaits .sendBundle := by
  refine ⟨fun h => h rfl, ?_, fun h => by cases h.2.2⟩
  rintro ⟨_, _, h, _⟩
  cases h

theorem test_premises_ACountMovesTheTravelUnit :
    countSign eightCounts.setup.travel.sense (.phase1 true false) = some 1 ∧
      countSign eightCounts.setup.travel.sense (.phase2 false true) = some (-1) ∧ 1 ≤ eightCounts.setup.travel.pitch := by
  decide +kernel

theorem test_premises_TheTimesOfTheTravelUnit :
    (withTravel { State.reset.travel with motion := .forward, lastCount := some 0 } State.reset).travel.motion ≠ .standstill ∧
      State.reset.travel.lastCount = none := by decide +kernel

theorem test_premises_SetTravelIsTakenOrRefused :
    (Waits .setTravel 11 0 0 State.reset ∧ senseOf 0 = some .normal ∧ senseOf 1 = some .swapped ∧
        State.reset.run.writing = none ∧ State.reset.run.state = .stopped) ∧
      (Waits .setTravel 11 0 0 State.reset ∧ senseOf 2 = none) ∧
      (Waits .setTravel 11 0 0 (writing State.reset) ∧ (writing State.reset).run.writing ≠ none) ∧
      (Waits .setTravel 11 0 0 (inState .running State.reset) ∧ (inState .running State.reset).run.writing = none ∧
        (inState .running State.reset).run.state ≠ .stopped ∧ senseOf 1 ≠ some State.reset.setup.travel.sense ∧
        (max 10 (min 200 (9 : Int))).toNat ≠ State.reset.setup.travel.pitch) :=
  ⟨⟨waits _ _ _ _ (by decide), by decide +kernel⟩, ⟨waits _ _ _ _ (by decide), by decide +kernel⟩,
    ⟨waits _ _ _ _ (by decide), by decide +kernel⟩, ⟨waits _ _ _ _ (by decide), by decide +kernel⟩⟩

theorem test_premises_SetPositionSetsTheFrame :
    (Waits .setPosition 4 0 0 State.reset ∧ State.reset.run.state = .stopped) ∧
      (Waits .setPosition 4 0 0 (inState .draining State.reset) ∧ (inState .draining State.reset).run.state ≠ .stopped) :=
  ⟨⟨waits _ _ _ _ (by decide), rfl⟩, ⟨waits _ _ _ _ (by decide), by decide⟩⟩

/-- The clauses of ODO_CAL_END: none open, WRITING, a count of 999, and scales inside and outside the range at 1000. -/
theorem test_premises_TheOdometerCalibration :
    Waits .odoCalBegin 0 0 0 State.reset ∧ (Waits .odoCalEnd 4 0 0 State.reset ∧ State.reset.travel.calOpen = false) ∧
      (Waits .odoCalEnd 4 0 0 (writing (counted 1000)) ∧ (writing (counted 1000)).travel.calOpen = true ∧
        (writing (counted 1000)).run.writing ≠ none) ∧
      (Waits .odoCalEnd 4 0 0 (counted 999) ∧ (counted (-999)).travel.calCount.natAbs < 1000) ∧
      (Waits .odoCalEnd 4 0 0 (counted (-1000)) ∧ 1000 ≤ (counted (-1000)).travel.calCount.natAbs ∧
        2 * 1000 * 655360 ≤ 2 * (10000 * 65536) + 1000 ∧ 2 * (10000 * 65536) + 1000 < 2 * 1000 * (655360 + 1) ∧
        2 * 1000 * 6553600000 ≤ 2 * (100000000 * 65536) + 1000 ∧ 2 * (100000000 * 65536) + 1000 < 2 * 1000 * (6553600000 + 1)) :=
  ⟨waits _ _ _ _ (by decide), ⟨waits _ _ _ _ (by decide), by decide +kernel⟩, ⟨waits _ _ _ _ (by decide), by decide +kernel⟩,
    ⟨waits _ _ _ _ (by decide), by decide +kernel⟩, ⟨waits _ _ _ _ (by decide), by decide +kernel⟩⟩

/-- The group G1 of `twoGroups` lasts 1024 ticks and 10 microseconds. -/
theorem test_premises_a_duration : isDuration (twoGroups 1 4970) .left [4, 5, 6, 7] 2024 :=
  ⟨1024, ⟨by decide +kernel, Or.inl (by decide +kernel)⟩, by decide +kernel⟩

theorem test_premises_a_snapshot_starts :
    startedSnapshot [4, 5, 6, 7] 4970 (.waiting 5) (.bound 5 4970) ∧ startedSnapshot [4, 5, 6, 7] 4970 (.waiting 3) (.waiting 3) ∧
      startedSnapshot [4, 5, 6, 7] 4970 .idle .idle := by simp [startedSnapshot]

/-- G1 in flight, and G0 held behind it. -/
def inFlight : State := after (.pitchEvent .left) (twoGroups 1 4970)
def heldBehind : State :=
  withFiring .left { inFlight.firing.left with held := some ⟨[0, 1, 2, 3], 5000⟩, pointer := 1, pitchEvents := [5030] } inFlight

theorem test_premises_APitchEventBindsItsGroup :
    ((twoGroups 1 4970).run.state = .running ∧ (twoGroups 1 4970).firing.left.pitchEvents = [4970] ∧
        (twoGroups 1 4970).firing.left.staged = none ∧ planStep (twoGroups 1 4970).setup.plans.left 1 [4, 5, 6, 7] 0 ∧
        planStep (twoGroups 0 4970).setup.plans.left 0 [0, 1, 2, 3] 1 ∧ (twoGroups 1 4970).firing.left.flight = none) ∧
      (inFlight.firing.left.flight ≠ none ∧ inFlight.firing.left.held = none) ∧
      (heldBehind.firing.left.flight ≠ none ∧ heldBehind.firing.left.held ≠ none ∧ heldBehind.firing.left.skipped ≤ 65535 ∧
        heldBehind.firing.left.pitchEvents = [5030]) ∧
      ((inState .calibrating (twoGroups 1 4970)).run.state ≠ .running ∧
        (withPlan .left [] (twoGroups 0 30)).setup.plans.left = [] ∧ (twoGroups 0 30).firing.left.staged = none) := by
  refine ⟨⟨by decide +kernel, by decide +kernel, by decide +kernel, ⟨by decide +kernel, by decide +kernel⟩,
    ⟨by decide +kernel, by decide +kernel⟩, by decide +kernel⟩, ?_, ?_, ?_⟩ <;> decide +kernel

theorem test_premises_the_commit_of_APitchEventBindsItsGroup :
    staged.run.state = .running ∧ staged.firing.left.pitchEvents = [5000] ∧ staged.firing.left.pointer = 0 ∧
      staged.firing.left.staged = some [[0, 1, 2, 3], [8, 9]] := by decide +kernel

theorem test_premises_AGroupCompletes :
    (inFlight.firing.left.flight.isSome = true ∧ inFlight.firing.left.held = none) ∧
      (heldBehind.firing.left.flight.isSome = true ∧ heldBehind.firing.left.held = some ⟨[0, 1, 2, 3], 5000⟩) ∧
      isDuration heldBehind .left [0, 1, 2, 3] 2024 :=
  ⟨by decide +kernel, by decide +kernel, ⟨1024, ⟨by decide +kernel, Or.inl (by decide +kernel)⟩, by decide +kernel⟩⟩

theorem test_premises_TheLevelCurve :
    ascending curve = true ∧ curve.head? = some ⟨200, 800⟩ ∧ curve.getLast? = some ⟨1200, 400⟩ ∧
      curve[0]? = some ⟨200, 800⟩ ∧ curve[0 + 1]? = some ⟨1200, 400⟩ ∧ ascending [] = true := by decide

/-- An interface gate of two samples over a listen length of four: found at its second sample, and not found. -/
def narrow : ChannelRecord := { channel6 with interfaceStart := 1, interfaceWidth := 2, interfaceLevel := 5 }

theorem test_premises_TheInterfaceGate :
    (narrow.gates[(1 : Fin 3)].map FlawGate.useCurve = some true ∧ narrow.gates[(0 : Fin 3)].map FlawGate.useCurve = some false ∧
        curveLevel curve 333 = some 747) ∧
      (1 ≤ 2 ∧ 2 < 1 + 2 ∧ [9, 4, 5, 9][2]? = some 5 ∧ narrow.interfaceLevel ≤ 5 ∧
        ∀ k b, 1 ≤ k → k < 2 → [9, 4, 5, 9][k]? = some b → b < 5) ∧
      (∀ k b, 1 ≤ k → k < 1 + 2 → [9, 4, 4, 9][k]? = some b → b < 5) ∧
      (State.reset.channel .left 0).gates[(1 : Fin 3)] = none := by
  refine ⟨by decide +kernel, ⟨by decide, by decide, by decide, by decide, ?_⟩, ?_, by decide +kernel⟩
  · intro k b h1 h2 h
    obtain rfl : k = 1 := by omega
    simp at h; omega
  · intro k b h1 h2 h
    obtain rfl | rfl : k = 1 ∨ k = 2 := by omega
    all_goals simp at h; omega

/-- A flaw gate over the samples 1 and 2 behind the interface time. -/
def flawGate (m : GateMode) : FlawGate := ⟨m, 1, 2, 5, false, 0, 0, 1⟩

/-- Over [9, 4, 5, 9] with the interface time 0 the gate's samples are 4 and 5, and the second alone reaches its level. -/
theorem only_the_second_reaches (m : GateMode) {u b : Nat} (h : (flawGate m).reachesAt [] [9, 4, 5, 9] 0 u b) : u = 2 ∧ b = 5 := by
  obtain ⟨⟨h1, h2, h3⟩, h4⟩ := h
  have h1 : 1 ≤ u := h1
  have h2 : u < 3 := h2
  have h4 : (5 : Int) ≤ b := h4
  obtain rfl | rfl : u = 1 ∨ u = 2 := by omega
  · simp at h3; omega
  · simp at h3; omega

theorem the_second_reaches (m : GateMode) : (flawGate m).reachesAt [] [9, 4, 5, 9] 0 2 5 :=
  ⟨⟨(by decide : 1 ≤ 2), (by decide : 2 < 1 + 2), rfl⟩, (by decide : (5 : Int) ≤ 5)⟩

/-- Over [9, 4, 4, 9] none does. -/
theorem none_reaches (m : GateMode) (t a : Nat) : ¬ (flawGate m).reachesAt [] [9, 4, 4, 9] 0 t a := by
  rintro ⟨⟨h1, h2, h3⟩, h4⟩
  have h1 : 1 ≤ t := h1
  have h2 : t < 3 := h2
  have h4 : (5 : Int) ≤ a := h4
  obtain rfl | rfl : t = 1 ∨ t = 2 := by omega
  all_goals simp at h3; omega

theorem test_premises_TheFlawGates :
    ([9].length ≤ 0 + (flawGate .peak).start) ∧
      ((flawGate .peak).reachesAt [] [9, 4, 5, 9] 0 2 5 ∧
        ∀ u b, (flawGate .peak).reachesAt [] [9, 4, 5, 9] 0 u b → b ≤ 5 ∧ (u < 2 → b < 5)) ∧
      (0 + (flawGate .peak).start < [9, 4, 4, 9].length ∧ ∀ t a, ¬ (flawGate .peak).reachesAt [] [9, 4, 4, 9] 0 t a) ∧
      ((flawGate .first).reachesAt [] [9, 4, 5, 9] 0 2 5 ∧ (∀ v b, (flawGate .first).reachesAt [] [9, 4, 5, 9] 0 v b → 2 ≤ v) ∧
        (∀ k, k < 1 → ∃ b, (flawGate .first).reachesAt [] [9, 4, 5, 9] 0 (2 + k) b ∧ b ≤ 5) ∧
        (∀ b, ¬ (flawGate .first).reachesAt [] [9, 4, 5, 9] 0 (2 + 1) b)) ∧
      ((∃ t, (flawGate .absent).sampleAt [9, 4, 4, 9] 0 t 4) ∧
        (∀ t a, (flawGate .absent).sampleAt [9, 4, 4, 9] 0 t a → a ≤ 4) ∧
        (∀ t a, ¬ (flawGate .absent).reachesAt [] [9, 4, 4, 9] 0 t a) ∧
        ∃ t a, (flawGate .absent).reachesAt [] [9, 4, 5, 9] 0 t a) := by
  refine ⟨by decide, ⟨the_second_reaches _, ?_⟩, ⟨by decide, none_reaches _⟩, ⟨the_second_reaches _, ?_, ?_, ?_⟩,
    ⟨1, by decide, by decide, rfl⟩, ?_, none_reaches _, ⟨2, 5, the_second_reaches _⟩⟩
  · intro u b h; obtain ⟨rfl, rfl⟩ := only_the_second_reaches _ h; omega
  · intro v b h; obtain ⟨rfl, rfl⟩ := only_the_second_reaches _ h; omega
  · intro k hk; obtain rfl : k = 0 := by omega
    exact ⟨5, the_second_reaches _, by omega⟩
  · intro b h; obtain ⟨h, _⟩ := only_the_second_reaches _ h; omega
  · rintro t a ⟨h1, h2, h3⟩
    have h1 : 1 ≤ t := h1
    have h2 : t < 3 := h2
    obtain rfl | rfl : t = 1 ∨ t = 2 := by omega
    all_goals simp at h3; omega

/-! #### Snapshots, coverage, geometry and the echo processor -/

/-- Samples of the least and the greatest listen length, and one beyond two blocks of 512. -/
theorem test_premises_TheSnapshotIsReduced :
    (512 * (1 - 1) < (List.range 256).length ∧ (List.range 256).length ≤ 512 * 1) ∧
      (512 * (3 - 1) < (List.range 1025).length ∧ (List.range 1025).length ≤ 512 * 3) ∧
      (512 * (16 - 1) < (List.range 8192).length ∧ (List.range 8192).length ≤ 512 * 16) ∧
      (snapshotPoints (List.range 1025))[341]? = some 1024 := by
  simp only [List.length_range]
  decide +kernel

/-- A channel's coverage with this state and these counts. -/
def coverOf (st : CouplingState) (fails passes : Nat) : Cover :=
  ⟨st, fails, passes, if fails = 0 then none else some 0, some 0, some 0, none⟩

/-- Thresholds 4 and 2 (`channel3`): each state with a count that reaches its threshold and one that does not. -/
theorem test_premises_AVerdictIsCounted :
    ((coverOf .unknown 255 0).failCount ≤ 255 ∧ (coverOf .uncoupled 0 255).passCount ≤ 255) ∧
      (channel3.failThreshold ≤ min 255 ((coverOf .unknown 3 0).failCount + 1) ∧
        min 255 ((coverOf .unknown 2 0).failCount + 1) < channel3.failThreshold) ∧
      (channel3.failThreshold ≤ min 255 ((coverOf .coupled 255 0).failCount + 1) ∧
        min 255 ((coverOf .coupled 0 9).failCount + 1) < channel3.failThreshold) ∧
      (channel3.regainThreshold ≤ min 255 ((coverOf .uncoupled 0 1).passCount + 1) ∧
        min 255 ((coverOf .uncoupled 0 0).passCount + 1) < channel3.regainThreshold) := by decide +kernel

/-- The spacing limit of 100 is overrun at 101 and not at 100; without a previous firing nothing is. -/
theorem test_premises_AFiringOpensAndClosesStretches :
    (true = true ↔ ∃ p, (coverOf .coupled 0 1).previous = some p ∧ (channel3.spacing : Int) < 101 - p) ∧
      (false = true ↔ ∃ p, (coverOf .coupled 0 1).previous = some p ∧ (channel3.spacing : Int) < 100 - p) ∧
      (false = true ↔ ∃ p, (Cover.fresh true).previous = some p ∧ (channel3.spacing : Int) < 100 - p) ∧
      (coverOf .coupled 0 1).stretch = none ∧
      ({ coverOf .uncoupled 4 0 with stretch := some ⟨0, ⟨true, false, false⟩, false⟩ } : Cover).coupling = .uncoupled ∧
      ({ coverOf .coupled 0 2 with stretch := some ⟨0, ⟨true, false, false⟩, false⟩ } : Cover).coupling ≠ .uncoupled := by
  refine ⟨⟨fun _ => ⟨0, rfl, by decide +kernel⟩, fun _ => rfl⟩, ⟨by decide, ?_⟩, ⟨by decide, ?_⟩, rfl, rfl, by decide⟩
  · rintro ⟨p, hp, h⟩
    cases hp
    exact absurd h (by decide +kernel)
  · rintro ⟨p, hp, _⟩
    cases hp

theorem test_premises_AKeptHitIsPlaced :
    ((1400 : Nat) : Int) = max 0 (min 8191 (((1450 : Nat) : Int) - channel9.zero)) ∧
      ((8191 : Nat) : Int) = max 0 (min 8191 (((8100 : Nat) : Int) - (-200))) ∧
      ((0 : Nat) : Int) = max 0 (min 8191 (((10 : Nat) : Int) - channel9.zero)) ∧ CouplingState.unknown ≠ .uncoupled ∧
      (0 : Nat) < 65536 ∧ (0 : Int) ≤ 1 ∧ (-1 : Int) ≤ 0 := by decide +kernel

/-- The left echo processor with this input waiting. -/
def heard (x : EchoItem) : State := withEcho .left { State.reset.echo.left with inbox := [x] } State.reset

theorem test_premises_ACompletionIsProcessed :
    (heard (.completion 4970 [6] [⟨6, channel6, samples6 850, false⟩])).echo.left.inbox =
      [.completion 4970 [6] [⟨6, channel6, samples6 850, false⟩]] := rfl

/-- No completion is in tracking there; with an input of an earlier one at the tracker one is. -/
theorem test_premises_an_input_whose_turn_it_is (x : EchoItem) :
    ¬(heard x).tracks .left ∧
      (withTracker .left { State.reset.tracker.left with inbox := [.channelEnd 6 4940, .completion 4940] } (heard x)).tracks .left := by
  refine ⟨?_, .inr (.inl ⟨_, _, .head _⟩)⟩
  rintro (⟨_, h⟩ | ⟨_, _, h⟩ | ⟨_, h⟩) <;> cases h

/-- A completion is taken once the one before it is through tracking (R33); a flush behind it at the tracker holds nothing up. -/
theorem test_a_completion_waits_for_the_one_before :
    let s := withTracker .left { State.reset.tracker.left with inbox := [.completion 4940, .flush] } (heard (.completion 4970 [6] []))
    after (.completionProcessing .left) s = s ∧
      (after (.completionProcessing .left) (after (.trackerCompletionNotice .left) s)).tracker.left.inbox = [.flush, .completion 4970] := by
  decide +kernel

/-- A void firing leaves the coverage as it is and gives the tracker the completion notice alone. -/
theorem test_a_void_firing_gives_no_result :
    (after (.completionProcessing .left) (heard (.completion 4970 [6] [⟨6, channel6, samples6 850, true⟩]))).tracker.left.inbox =
        [.completion 4970] ∧
      (after (.completionProcessing .left) (heard (.completion 4970 [6] [⟨6, channel6, samples6 850, true⟩]))).echo.left.cover =
        State.reset.echo.left.cover ∧
      (after (.completionProcessing .left) (heard (.completion 4970 [6] [⟨6, channel6, samples6 850, false⟩]))).echo.left.cover ≠
        State.reset.echo.left.cover := by decide +kernel

theorem test_premises_CommitsAndNoticesAtTheEchoProcessor :
    ((heard (.commit [4, 5, 6, 7] [8, 9])).echo.left.inbox = [.commit [4, 5, 6, 7] [8, 9]] ∧
        (([4, 5, 6, 7] : List Channel) ++ [8, 9]).Nodup) ∧
      (heard .flush).echo.left.inbox = [.flush] ∧ (heard .drain).echo.left.inbox = [.drain] := by
  exact ⟨⟨rfl, by decide⟩, rfl, rfl⟩

/-! #### Traces and findings -/

/-- The trace table of `traces` without them, and full of traces of another channel. -/
def noTraces : State := withTracker .left { traces.tracker.left with slots := Vector.replicate 32 none } traces
def fullOfTraces : State :=
  withTracker .left { traces.tracker.left with
    slots := Vector.replicate 32 (some ⟨1, 0, 0, 0, 0, 0, 0, 0, ⟨1, 0, 0⟩, 1, 0, false⟩) } traces

/-- The hit of `traces` is a candidate for slots 1 and 4 and nearest to slot 4. -/
theorem test_premises_AHitReachesTheTracker :
    (traces.tracker.left.inbox = [.hit ⟨9, 0, 20120, 20645, 229, 1600, false⟩] ∧
        (traces.channel .left 9).gates[(0 : Fin 3)].map FlawGate.positionTolerance = some 30 ∧
        (traces.channel .left 9).gates[(0 : Fin 3)].map FlawGate.depthTolerance = some 30 ∧ traces.tracker.left.overflow ≤ 65535 ∧
        (traces.tracker.left.slots[(4 : Fin 32)].map (fun t => t.candidate ⟨9, 0, 20120, 20645, 229, 1600, false⟩ 30 30)) = some true ∧
        ∀ j : Fin 32, traces.tracker.left.slots[j].all (fun u =>
          !u.candidate ⟨9, 0, 20120, 20645, 229, 1600, false⟩ 30 30 ||
            (decide ((20645 - 20670 : Int).natAbs ≤ ((20645 : Int) - u.lastPr).natAbs) &&
              (decide (4 ≤ j) || decide ((20645 - 20670 : Int).natAbs < ((20645 : Int) - u.lastPr).natAbs)))) = true) ∧
      (∀ j : Fin 32, noTraces.tracker.left.slots[j] = none) ∧
      ∀ j : Fin 32, fullOfTraces.tracker.left.slots[j] ≠ none ∧
        fullOfTraces.tracker.left.slots[j].all (fun u => !u.candidate ⟨9, 0, 20120, 20645, 229, 1600, false⟩ 30 30) = true := by
  decide +kernel

/-- No HIT record waits in `traces`; in `unstreamed` the hit's own does. -/
theorem test_premises_a_hit_to_take :
    ¬traces.streams .left ⟨9, 0, 20120, 20645, 229, 1600, false⟩ ∧ unstreamed.streams .left ⟨9, 0, 20120, 20645, 229, 1600, false⟩ ∧
      unstreamed.tracker.left.inbox = [.hit ⟨9, 0, 20120, 20645, 229, 1600, false⟩] := by
  refine ⟨?_, ⟨_, List.mem_cons_of_mem _ (List.mem_singleton.2 rfl), rfl, rfl, rfl, rfl⟩, rfl⟩
  rintro ⟨x, hx, _⟩
  cases hx

/-- The left tracker with this input waiting. -/
def told (x : TrackerItem) : State := withTracker .left { traces.tracker.left with inbox := [x] } State.reset

/-- A trace of channel 9 last hit at 20,060 lies further behind than 500 at 20,561 and not at 20,560. -/
theorem test_premises_NoticesCloseTraces :
    traces.tracker.left.noise ≤ 65535 ∧ (told (.channelEnd 9 20561)).tracker.left.inbox = [.channelEnd 9 20561] ∧
      ((State.reset.channel .left 9).closeDistance : Int) < 20561 - 20060 ∧
      ¬ ((State.reset.channel .left 9).closeDistance : Int) < 20560 - 20060 ∧
      (told (.completion 20180)).tracker.left.inbox = [.completion 20180] ∧
      (told (.leaving [3, 9])).tracker.left.inbox = [.leaving [3, 9]] ∧ ([3, 9] : List Channel).Nodup ∧
      (told .flush).tracker.left.inbox = [.flush] ∧ (told .drain).tracker.left.inbox = [.drain] := by decide +kernel

theorem test_premises_FindingsOverlapAndCombine :
    ((findingOf indicationA).start ≤ (findingOf indicationA).finish ∧ indicationC.minPr ≤ indicationC.maxPr) ∧
      (findingC.contributions = [] ++ indicationA :: [indicationB, indicationC] ∧ indicationA.channel = indicationD.channel ∧
        indicationA.gate = indicationD.gate ∧
        ∀ d ∈ [] ++ [indicationB, indicationC], ¬(d.channel = indicationD.channel ∧ d.gate = indicationD.gate)) ∧
      ((∀ d ∈ (findingOf indicationA).contributions, ¬(d.channel = indicationB.channel ∧ d.gate = indicationB.gate)) ∧
        (findingOf indicationA).contributions.length < 16) ∧
      ((∀ d ∈ List.replicate 16 indicationA, ¬(d.channel = indicationB.channel ∧ d.gate = indicationB.gate)) ∧
        16 ≤ (List.replicate 16 indicationA).length) ∧
      findingC.contributions = [] ++ indicationA :: [indicationB, indicationC] := by decide

/-- An order of starts, checked slot by slot. -/
theorem inStartOrder_of (slots : Vector (Option Finding) 16) (w : Finding → Bool) (xs : List (Fin 16 × Finding))
    (h1 : xs.Pairwise (fun x y => x.2.start < y.2.start ∨ x.2.start = y.2.start ∧ x.1 < y.1))
    (h2 : ∀ x ∈ xs, slots[x.1] = some x.2 ∧ w x.2 = true)
    (h3 : ∀ i : Fin 16, slots[i].all (fun f => !w f || decide ((i, f) ∈ xs)) = true) : inStartOrder slots w xs := by
  refine ⟨h1, fun i f => ⟨fun h => h2 _ h, ?_⟩⟩
  rintro ⟨hs, hw⟩
  have := h3 i
  rw [hs] at this
  simpa [hw] using this

/-- The list of `listB` with sixteen findings, of which slot 3 has the least start. -/
def sixteen : State :=
  withAssembler .left { listB.assembler.left with
    slots := Vector.ofFn (fun i => some ⟨if i = 3 then 29000 else 30000 + 1000 * (i.val : Int), 30500 + 1000 * i.val, 0, 0, [indicationD], false, false⟩) }
    listB

/-- The findings of `sixteen` in order of start: slot 3 first. -/
def sixteenInOrder : List (Fin 16 × Finding) :=
  (3 :: (List.finRange 16).filter (fun i => decide (i ≠ 3))).filterMap (fun i => sixteen.assembler.left.slots[i].map (fun f => (i, f)))

theorem test_premises_AnIndicationJoinsMergesOrOpens :
    (listB.assembler.left.inbox = [.indication indicationC] ∧
        inStartOrder listB.assembler.left.slots (fun g => g.overlaps indicationC 100)
          [(0, findingOf indicationA), (1, findingOf indicationB)]) ∧
      (inStartOrder State.reset.assembler.left.slots (fun g => g.overlaps indicationC 100) [] ∧
        State.reset.assembler.left.slots[(0 : Fin 16)] = none) ∧
      (inStartOrder sixteen.assembler.left.slots (fun g => g.overlaps indicationC 100) [] ∧
        (∀ k : Fin 16, sixteen.assembler.left.slots[k] ≠ none) ∧
        inStartOrder sixteen.assembler.left.slots (fun _ => true) sixteenInOrder) :=
  ⟨⟨rfl, inStartOrder_of _ _ _ (by decide +kernel) (by decide +kernel) (by decide +kernel)⟩,
    ⟨inStartOrder_of _ _ _ (by decide +kernel) (by decide +kernel) (by decide +kernel), by decide +kernel⟩,
    ⟨inStartOrder_of _ _ _ (by decide +kernel) (by decide +kernel) (by decide +kernel), by decide +kernel,
      inStartOrder_of _ _ _ (by decide +kernel) (by decide +kernel) (by decide +kernel)⟩⟩

/-- The left assembler with this notice waiting behind nothing. -/
def noticedAssembler (x : AssemblerItem) : State := withAssembler .left { (settling 21900 0).assembler.left with inbox := [x] } State.reset

/-- A run draining whose left notice has arrived, the right rail drained or not. -/
def draining (right : Bool) : State :=
  withRun { State.reset.run with state := .draining, drained := ⟨false, right⟩, drainNotices := ⟨true, false⟩ } State.reset

theorem test_premises_NoticesCloseFindings :
    ((settling 21900 40870).assembler.left.inbox = [.completion 40870] ∧
        inStartOrder (settling 21900 40870).assembler.left.slots (fun f => decide ((20000 : Int) < 40870 - f.finish)) [(0, findingC)] ∧
        inStartOrder (settling 21900 40840).assembler.left.slots (fun f => decide ((20000 : Int) < 40840 - f.finish)) []) ∧
      ((noticedAssembler .flush).assembler.left.inbox = [.flush] ∧
        inStartOrder (noticedAssembler .flush).assembler.left.slots (fun _ => true) [(0, findingC)]) ∧
      (noticedAssembler .drain).assembler.left.inbox = [.drain] ∧
      ((draining false).run.state = .draining ∧ (draining false).run.drainNotices.get .left = true ∧
        ((draining false).run.drained.set .left true).right = false) ∧
      (((draining true).run.drained.set .left true).left = true ∧ ((draining true).run.drained.set .left true).right = true) :=
  ⟨⟨rfl, inStartOrder_of _ _ _ (by decide +kernel) (by decide +kernel) (by decide +kernel),
      inStartOrder_of _ _ _ (by decide +kernel) (by decide +kernel) (by decide +kernel)⟩,
    ⟨rfl, inStartOrder_of _ _ _ (by decide +kernel) (by decide +kernel) (by decide +kernel)⟩, rfl, ⟨rfl, rfl, rfl⟩, rfl, rfl⟩

/-- The strongest contribution of the finding is the last, and of two equal ones the first. -/
theorem test_premises_the_strongest_contribution :
    (findingC.contributions = [indicationA, indicationB] ++ indicationC :: [] ∧
        ∀ d ∈ [indicationA, indicationB], d.peak.amplitude < indicationC.peak.amplitude) ∧
      ∀ d ∈ [indicationA], d.peak.amplitude ≤ indicationA.peak.amplitude := by decide

/-- In the table of `settling` entry 3 fits the finding and entries 1 and 2 do not; on the empty table none does. -/
theorem test_premises_AFindingIsClassified :
    let s := settling 21900 40870
    (∃ p, s.setup.patterns[(3 : Fin 16)] = some p ∧ p.required &&& p.considered = p.required ∧ p.considered.toNat < 4096 ∧
        p.fits (s.listAt .left findingC 3) .left findingC) ∧
      s.fitsNoneBelow .left findingC 3 ∧ s.queries .left findingC 4 = 1 ∧
      State.reset.fitsNoneBelow .left findingC 16 := by
  have empty : ∀ j : Fin 16, State.reset.setup.patterns[j] = none := by decide +kernel
  refine ⟨⟨_, rfl, by decide, by decide, ⟨by decide, by decide +kernel, by decide +kernel, by decide +kernel⟩, trivial⟩, ?_,
    by decide +kernel, ?_⟩
  · intro j q hj hq
    obtain rfl | rfl | rfl : j = 0 ∨ j = 1 ∨ j = 2 := by omega
    · cases (show (none : Option Pattern) = some q from hq)
    · obtain rfl := Option.some.inj hq.symm
      exact ⟨by decide, by decide, fun h => absurd h.1.1 (by decide)⟩
    · obtain rfl := Option.some.inj hq.symm
      exact ⟨by decide, by decide, fun h => absurd h.2 (by decide +kernel)⟩
  · intro j q _ hq
    simp [empty j] at hq

/-- In `straddling` the two queries are answered from two lists, and neither of the two entries fits at its own. -/
theorem test_premises_a_search_that_straddles :
    let s := straddling [[], [.add [⟨20900, 0, 0, 2, 1⟩]]]
    s.fitsNoneBelow .left findingC 2 ∧ (s.listAt .left findingC 0).entries.length = 0 ∧
      (s.listAt .left findingC 1).entries.length = 1 := by
  refine ⟨?_, by decide +kernel, by decide +kernel⟩
  intro j q hj hq
  obtain rfl | rfl : j = 0 ∨ j = 1 := by omega
  all_goals
    obtain rfl := Option.some.inj hq.symm
    exact ⟨by decide, by decide, fun h => absurd h.2 (by decide +kernel)⟩

/-! #### Landmarks, marks and signal lines -/

/-- The entries of step 4 of chapter 7's sequence as the request carries them, and as taken. -/
def welds : List LandmarkFields := [⟨172000, 0, 0, 0, 0⟩, ⟨175000, 0, 0, 1, 0⟩]
def weldsTaken : List Landmark := [⟨172000, 0, .weld, .left, true⟩, ⟨175000, 0, .weld, .right, true⟩]

theorem test_premises_LandmarksAreAddedClearedAndRetired :
    (Waits .addLandmarks 26 0 0 (withLandmarks list1 State.reset) ∧ 1 ≤ welds.length ∧ welds.length ≤ 8 ∧
        welds.map LandmarkFields.clamp = weldsTaken.map some ∧ list1.entries.length + welds.length ≤ 64 ∧
        list1.entries.Pairwise (fun a b => a.start ≤ b.start) ∧
        (list1.entries ++ weldsTaken).Pairwise
          (fun a b => a.start ≤ b.start ∧ ¬(a.start = b.start ∧ a.kind = b.kind ∧ a.rails = b.rails))) ∧
      Waits .clearLandmarks 4 0 0 (withLandmarks list1 State.reset) ∧
      (withLandmarks { list1 with frontiers := [150001] } State.reset).landmarks.frontiers = [150001] :=
  ⟨⟨waits _ _ _ _ (by decide), by decide +kernel⟩, waits _ _ _ _ (by decide), rfl⟩

/-- A list of sixty-four welds, one every 1000. -/
def fullList : List Landmark := (List.range 64).map (fun k : Nat => ⟨1000 * (k : Int), 0, .weld, .both, false⟩)

/-- A failing entry behind the first weld of a request: outside its set, below the one before, equal to it, and the
sixty-fifth of the list. -/
theorem test_premises_AddLandmarksIsRefused :
    Waits .addLandmarks 110 0 0 (withLandmarks list1 State.reset) ∧ 2 + 12 * (List.replicate 9 (⟨0, 0, 0, 0, 0⟩ : LandmarkFields)).length = 110 ∧
      Waits .addLandmarks 2 0 0 (withLandmarks list1 State.reset) ∧ Waits .addLandmarks 26 0 0 (withLandmarks list1 State.reset) ∧
      2 + 12 * welds.length = 26 ∧ 8 < (List.replicate 9 (⟨0, 0, 0, 0, 0⟩ : LandmarkFields)).length ∧
      (list1.entries ++ weldsTaken.take 1).Pairwise
        (fun a b => a.start ≤ b.start ∧ ¬(a.start = b.start ∧ a.kind = b.kind ∧ a.rails = b.rails)) ∧
      (list1.entries ++ weldsTaken.take 1).length ≤ 64 ∧ LandmarkFields.clamp ⟨175000, 0, 5, 1, 0⟩ = none ∧
      ((list1.entries ++ weldsTaken.take 1).getLast? = some ⟨172000, 0, .weld, .left, true⟩ ∧ (171999 : Int) < 172000) ∧
      (LandmarkFields.clamp ⟨172000, 9, 0, 0, 1⟩ = some ⟨172000, 9, .weld, .left, false⟩ ∧ (172000 : Int) ≤ 172000) ∧
      (fullList.length = 64 ∧ (∀ a ∈ fullList, a.start ≤ 63000 ∧ a.start ≠ 64000) ∧
        fullList.Pairwise (fun a b => a.start ≤ b.start ∧ ¬(a.start = b.start ∧ a.kind = b.kind ∧ a.rails = b.rails))) :=
  ⟨waits _ _ _ _ (by decide), by decide, waits _ _ _ _ (by decide), waits _ _ _ _ (by decide), by decide +kernel⟩

theorem test_premises_TheLandmarkQueries : (120020 : Int) ≤ 120140 ∧ (120020 : Int) ≤ 120020 := by decide

/-- The marks of section 9.5's queue, the first reached at the gun position 20,729 and not at 20,728. -/
theorem test_premises_ACarPositionChangeFiresMarks :
    ([⟨20729, 42, 1⟩, ⟨23100, 44, 0⟩] : List Mark) = [⟨20729, 42, 1⟩] ++ [⟨23100, 44, 0⟩] ∧
      (∀ k ∈ ([⟨20729, 42, 1⟩] : List Mark), k.target ≤ 60729 - 40000) ∧
      (∀ k ∈ ([⟨23100, 44, 0⟩] : List Mark).head?, (60729 - 40000 : Int) < k.target) ∧
      (∀ k ∈ ([⟨20729, 42, 1⟩] : List Mark).head?, (60728 - 40000 : Int) < k.target) ∧ Motion.reverse ≠ .forward ∧
      (withMarking .left { State.reset.marking.left with moves := [⟨60729, .forward⟩] } State.reset).marking.left.moves
        = [⟨60729, .forward⟩] := by decide +kernel

/-- Sixteen marks, one every 1000. -/
def sixteenMarks : List Mark := (List.range 16).map (fun k : Nat => ⟨1000 + 1000 * (k : Int), k, 0⟩)

/-- With the merge distance 200: LATE at the gun, MERGED at 200 and between two marks at equal distance, FULL, QUEUED at 201. -/
theorem test_premises_AMarkRequestIsJudged :
    ((marked 3100 sixteenMarks ⟨45, 3100⟩).marking.left.requests = [⟨45, 3100⟩] ∧ (sixteenMarks.map Mark.target).Pairwise (· < ·) ∧
        (3100 : Int) ≤ (marked 3100 sixteenMarks ⟨45, 3100⟩).marking.left.gun) ∧
      ((874 : Int) < 20929 ∧ ((20729 : Int) - 20929).natAbs ≤ 200 ∧ (1 : Nat) ≤ 255) ∧
      (([⟨1000, 1, 0⟩, ⟨1300, 2, 0⟩] : List Mark) = [] ++ ⟨1000, 1, 0⟩ :: [⟨1300, 2, 0⟩] ∧ ((1000 : Int) - 1150).natAbs ≤ 200 ∧
        ∀ k ∈ ([⟨1300, 2, 0⟩] : List Mark), ((1000 : Int) - 1150).natAbs ≤ (k.target - 1150).natAbs) ∧
      ((∀ k ∈ sixteenMarks, 200 < (k.target - 1500).natAbs) ∧ 16 ≤ sixteenMarks.length) ∧
      ((∀ k ∈ ([⟨20729, 42, 1⟩] : List Mark), 200 < (k.target - 20930).natAbs ∧ k.target < 20930) ∧
        ([⟨20729, 42, 1⟩] : List Mark) = [⟨20729, 42, 1⟩] ++ []) := by decide +kernel

theorem test_premises_TheRouterTakesItsInputs :
    (withMarking .left { State.reset.marking.left with sprayEnd := some 60 } State.reset).marking.left.sprayEnd = some 60 ∧
      (withRouter { State.reset.router with stretchEnd := #v[none, some 9, none, none] } State.reset).router.stretchEnd[(1 : Fin 4)]
        = some 9 ∧
      (withRouter { State.reset.router with pulses := [.skip, .finding .left, .finding .right] } State.reset).router.pulses
        = [.skip, .finding .left, .finding .right] ∧
      (withRouter { State.reset.router with levels := [.speed 9] } State.reset).router.levels = [.speed 9] := by decide +kernel

/-- Lines routed to every source in turn. -/
def routedTo (a b c d : Source) : State :=
  { State.reset with
    setup := { State.reset.setup with
      signals := ⟨#v[⟨a, false, 100⟩, ⟨b, false, 100⟩, ⟨c, true, 100⟩, ⟨d, true, 100⟩], 800⟩ } }

theorem test_premises_TheSignalLinesAreDriven :
    (State.reset.setup.signals.routes[(0 : Fin 4)]).source = .off ∧
      (∀ x ∈ [Source.on, .uncoupledLeft, .uncoupledRight, .allCoupled, .sprayLeft, .sprayRight, .overspeed, .hostSilent, .running],
        ((routedTo x x x x).setup.signals.routes[(1 : Fin 4)]).source = x) ∧
      ∀ x ∈ [Source.findingLeft, .findingRight, .findingAny, .skip],
        ((routedTo x x x x).setup.signals.routes[(3 : Fin 4)]).source ∈ [Source.findingLeft, .findingRight, .findingAny, .skip] := by
  decide +kernel

theorem test_premises_SetSignalsReplacesTheRoutes :
    (Waits .setSignals 18 0 0 State.reset ∧ RouteFields.clamp routeFields = some ⟨.findingLeft, false, 100⟩ ∧
        RouteFields.clamp ⟨14, 0, 100⟩ = none ∧ RouteFields.clamp ⟨0, 2, 100⟩ = none ∧ (RouteFields.clamp ⟨13, 0, 1001⟩).isSome = true ∧ State.reset.run.writing = none) ∧
      Waits .setSignals 18 0 0 (writing State.reset) ∧ (writing State.reset).run.writing ≠ none :=
  ⟨⟨waits _ _ _ _ (by decide), by decide +kernel⟩, waits _ _ _ _ (by decide), by decide +kernel⟩

/-! #### Operations, runs and the store -/

/-- Left channel 0 with gate 1 ABSENT, and with its gates beyond the listen length. -/
def absentGate : ChannelRecord :=
  { State.reset.channel .left 0 with gates := #v[some ⟨.absent, 16, 512, 1000, false, 30, 30, 3⟩, none, none] }
def beyond : ChannelRecord :=
  { State.reset.channel .left 0 with
    listen := 256, interfaceStart := 256, gates := #v[some ⟨.peak, 256, 512, 1000, false, 30, 30, 3⟩, none, none] }

/-- A first point held for left channel 0, gate 1, at this depth. -/
def pointAt (depth : Nat) : State := withRun { State.reset.run with pendingPoint := some ⟨.left, 0, 0, depth, 100⟩ } State.reset

theorem test_premises_CalChannelBeginsAStep :
    (Waits .calChannel 4 2 0 State.reset ∧ (headOf .calChannel 4 2 0).rail = none ∧ (headOf .calChannel 4 0 12).channel = none) ∧
      ((headOf .calChannel 4 0 11).rail = some .left ∧ (headOf .calChannel 4 1 11).channel = some 11 ∧ (3 : Nat) = (2 : Gate).val + 1 ∧
        (State.reset.channel .left 0).gates[(1 : Fin 3)] = none ∧
        absentGate.gates[(0 : Fin 3)].map FlawGate.mode = some .absent) ∧
      ((State.reset.channel .left 0).gates[(0 : Fin 3)].map FlawGate.mode = some .peak ∧ GateMode.peak ≠ .absent) ∧
      (Waits .calChannel 4 0 0 (writing State.reset) ∧ (writing State.reset).run.writing ≠ none) ∧
      (Waits .calChannel 4 0 0 (inState .running State.reset) ∧ (inState .running State.reset).run.state ≠ .stopped) ∧
      (beyond.listen ≤ beyond.interfaceStart ∧ beyond.gates[(0 : Fin 3)].all (fun y => decide (beyond.listen ≤ y.start)) = true) ∧
      ((State.reset.channel .left 0).interfaceStart < (State.reset.channel .left 0).listen ∧ 16 < (State.reset.channel .left 0).listen) ∧
      (State.reset.run.pendingPoint = none ∧ (pointAt 250).run.pendingPoint = some ⟨.left, 0, 0, 250, 100⟩ ∧ 250 < 251 ∧ ¬ 250 < 250) :=
  ⟨⟨waits _ _ _ _ (by decide), by decide +kernel⟩, by decide +kernel, by decide +kernel, ⟨waits _ _ _ _ (by decide), by decide +kernel⟩,
    ⟨waits _ _ _ _ (by decide), by decide +kernel⟩, by decide +kernel, by decide +kernel, by decide +kernel⟩

/-- The plan of section 10.6, whose order of first appearance is 4, 7, 1. -/
def verifiable : State := withPlan .right [[4, 7], [7, 1]] State.reset

theorem test_premises_VerifyBeginsAVerification :
    (Waits .verify 8 2 0 State.reset ∧ (headOf .verify 8 2 0).rail = none) ∧ (headOf .verify 8 1 0).rail = some .right ∧
      (Waits .verify 8 1 0 (writing State.reset) ∧ (writing State.reset).run.writing ≠ none) ∧
      (Waits .verify 8 1 0 (inState .running State.reset) ∧ (inState .running State.reset).run.state ≠ .stopped) ∧
      (State.reset.run.writing = none ∧ State.reset.run.state = .stopped ∧ State.reset.setup.plans.right = []) ∧
      (Waits .verify 8 1 0 verifiable ∧ verifiable.setup.plans.right ≠ [] ∧
        verifiable.setup.plans.right.flatten.reverse.dedup.reverse = 4 :: [7, 1]) :=
  ⟨⟨waits _ _ _ _ (by decide), by decide⟩, by decide, ⟨waits _ _ _ _ (by decide), by decide +kernel⟩,
    ⟨waits _ _ _ _ (by decide), by decide⟩, by decide +kernel, ⟨waits _ _ _ _ (by decide), by decide +kernel⟩⟩

/-- Step 1 of a calibration with this many firings done, the next one in flight. -/
def firstStep (done : Nat) : State :=
  withFiring .left { State.reset.firing.left with operationFlight := some ⟨⟨9, channel9⟩, 0, 2000⟩ }
    (withRun { State.reset.run with
      state := .calibrating, operation := some (.calibration ⟨.left, 9, 0, false, 250, done, some ⟨1598, 2380⟩⟩) } State.reset)

theorem test_premises_ACalibrationFiringCompletes :
    ((firstStep 14).run.operation = some (.calibration ⟨.left, 9, 0, false, 250, 14, some ⟨1598, 2380⟩⟩) ∧
        (firstStep 14).firing.left.operationFlight = some ⟨⟨9, channel9⟩, 0, 2000⟩ ∧ 14 + 1 < 16 ∧ 15 + 1 = 16 ∧
        (firstStep 15).run.state = .calibrating ∧ (firstStep 15).line.inbox = [] ∧ (calibrating 6243).line.inbox = []) ∧
      (withLine { State.reset.line with inbox := [.change .motion] } (firstStep 15)).line.inbox ≠ [] ∧
      ((2380 : Nat) < 2381 ∧ (2380 : Nat) ≤ 2380 ∧ (gateResult channel9 []).outcomes[(0 : Fin 3)] = .notEvaluated) ∧
      ((calibrating 6243).run.pendingPoint = some ⟨.left, 9, 0, 250, 1598⟩ ∧ 1613 < 1598 + 16 ∧ 1598 + 16 ≤ 1614) ∧
      (65535 < roundDiv (((2500 : Int) - 0) * 65536) (1614 - 1598) ∧
        1 ≤ roundDiv (((1000 : Int) - 250) * 65536) (6243 - 1598) ∧ roundDiv (((1000 : Int) - 250) * 65536) (6243 - 1598) ≤ 65535 ∧
        (1598 : Int) - roundDiv ((250 : Int) * 65536) 10582 ≤ 1023 ∧
        1023 < (1598 : Int) - roundDiv ((0 : Int) * 65536) 10582) := by decide +kernel

/-- A verification of two channels with the first or the second firing in flight, or none. -/
def verifyingAt (results : List VerifyEntry) (inFlight : Bool) : State :=
  withFiring .right { State.reset.firing.right with
      operationFlight := if inFlight then some ⟨⟨4, State.reset.channel .right 4⟩, 0, 2000⟩ else none
      generators := Vector.replicate 4 (some ⟨100, 2000, 300, 1500⟩) }
    (withRun { State.reset.run with
      state := .verifying, operation := some (.verification ⟨.right, ⟨100, 2000, 300, 1500⟩, [4, 7], results⟩) } State.reset)

/-- The values of a gate's hit in the signature. -/
theorem test_premises_the_signature :
    ∃ hit : Option Hit → List Nat, hit none = [0xFFFF, 0] ∧ ∀ h, hit (some h) = [h.time, h.amplitude] :=
  ⟨fun o => o.elim [0xFFFF, 0] (fun h => [h.time, h.amplitude]), rfl, fun _ => rfl⟩

/-- The entry of a channel without an interface echo. -/
def noEntry : VerifyEntry := ⟨4, none, #v[none, none, none]⟩

theorem test_premises_OperationFiringsStartAndVerify :
    ((withFiring .left State.reset.firing.left (firstStep 15)).run.operation
        = some (.calibration ⟨.left, 9, 0, false, 250, 15, some ⟨1598, 2380⟩⟩) ∧ 15 < 16 ∧
        (withFiring .left State.reset.firing.left (firstStep 15)).firing.left.operationFlight = none) ∧
      (([4, 7] : List Channel)[[noEntry].length]? = some 7 ∧ (verifyingAt [noEntry] false).firing.right.operationFlight = none) ∧
      ((verifyingAt [] true).firing.right.operationFlight = some ⟨⟨4, State.reset.channel .right 4⟩, 0, 2000⟩ ∧
        (verifyingAt [] true).firing.right.generators[(0 : Fin 4)] = some ⟨100, 2000, 300, 1500⟩ ∧
        [noEntry].length < ([4, 7] : List Channel).length) ∧
      (([4, 7] : List Channel).length ≤ [noEntry, noEntry].length ∧ (verifyingAt [noEntry] true).run.state = .verifying ∧
        (verifyingAt [noEntry] true).line.inbox = [] ∧
        (withLine { State.reset.line with inbox := [.change .motion] } (verifyingAt [noEntry] true)).line.inbox ≠ []) := by
  decide +kernel

/-- The last firing of a verification completes once the line interface has taken all that was handed to it; the VERIFY_RESULT is then
ahead of the change to STOPPED (R167). -/
theorem test_a_verification_ends_behind_a_change :
    let s := withLine { State.reset.line with inbox := [.change .motion] } (verifyingAt [noEntry] true)
    let t := after .verifyFiringCompletion (after .changeHandover s)
    after .verifyFiringCompletion s = s ∧ t.run.state = .stopped ∧ t.line.inbox.map (· == .change .runState) = [false, true] := by
  decide +kernel

theorem test_premises_RunsStartStopAndFlush :
    (Waits .runStart 0 0 0 (inState .draining State.reset) ∧ (inState .draining State.reset).run.state ≠ .stopped) ∧
      (Waits .runStart 0 0 0 (writing State.reset) ∧ (writing State.reset).run.state = .stopped ∧ (writing State.reset).run.writing ≠ none) ∧
      (Waits .runStart 0 0 0 State.reset ∧ State.reset.setup.plans.left = [] ∧ State.reset.setup.plans.right = []) ∧
      (Waits .runStart 0 0 0 verifiable ∧ verifiable.run.writing = none ∧ verifiable.setup.plans.right ≠ []) ∧
      (Waits .runStop 0 0 0 State.reset ∧ State.reset.run.state ≠ .running) ∧
      (Waits .runStop 0 0 0 (inState .running State.reset) ∧ (inState .running State.reset).run.state = .running) ∧
      Waits .flush 0 0 0 State.reset ∧ Waits .flush 0 0 0 (inState .running State.reset) :=
  ⟨⟨waits _ _ _ _ (by decide), by decide⟩, ⟨waits _ _ _ _ (by decide), by decide +kernel⟩, ⟨waits _ _ _ _ (by decide), by decide +kernel⟩,
    ⟨waits _ _ _ _ (by decide), by decide +kernel⟩, ⟨waits _ _ _ _ (by decide), by decide⟩, ⟨waits _ _ _ _ (by decide), by decide⟩,
    waits _ _ _ _ (by decide), waits _ _ _ _ (by decide)⟩

/-- RUN_STOP's clause names a function; this one is it. -/
theorem test_premises_a_stopped_rail :
    ∃ stopped : FiringUnit → EchoProcessor → EchoProcessor, ∀ u e,
      stopped u e = { e with snapshot := .idle, inbox := e.inbox ++ if u.flight = none then [.drain] else [] } :=
  ⟨fun u e => { e with snapshot := .idle, inbox := e.inbox ++ if u.flight = none then [.drain] else [] }, fun _ _ => rfl⟩

theorem test_premises_RestartClearsTheUnit :
    (Waits .restart 0 0 0 (writing State.reset) ∧ (writing State.reset).run.writing ≠ none) ∧
      Waits .restart 0 0 0 heldBehind ∧ heldBehind.run.writing = none :=
  ⟨⟨waits _ _ _ _ (by decide), by decide +kernel⟩, waits _ _ _ _ (by decide +kernel), by decide +kernel⟩

/-- A store with a valid image. -/
def stored : State := withRun { State.reset.run with image := some Setup.defaults } State.reset

theorem test_premises_TheSetupIsSavedAndReloaded :
    (Waits .setupSave 0 0 0 (inState .running State.reset) ∧ Waits .setupSave 0 0 0 (writing State.reset) ∧ Waits .setupSave 0 0 0 State.reset) ∧
      (writing State.reset).run.writing = some Setup.defaults ∧
      (Waits .setupReload 0 0 0 (inState .running State.reset) ∧ Waits .setupReload 0 0 0 (writing State.reset)) ∧
      (Waits .setupReload 0 0 0 State.reset ∧ State.reset.run.image = none) ∧
      (Waits .setupReload 0 0 0 stored ∧ stored.run.state = .stopped ∧ stored.run.writing = none ∧
        stored.run.image = some Setup.defaults) :=
  ⟨⟨waits _ _ _ _ (by decide), waits _ _ _ _ (by decide), waits _ _ _ _ (by decide)⟩, rfl, ⟨waits _ _ _ _ (by decide), waits _ _ _ _ (by decide)⟩,
    ⟨waits _ _ _ _ (by decide), rfl⟩, ⟨waits _ _ _ _ (by decide), by decide +kernel⟩⟩

/-! #### The host line -/

/-- The receiver of the line in this state. -/
def receiving (x : Receiver) : State := withLine { State.reset.line with receiver := x } State.reset

/-- A RUN_STOP frame's body of four bytes, and its CRC with length and body. -/
def stopBody : List Byte := [0x17, 7, 0, 0]

/-- Lengths of 4 and 2040 are in range, 3 and 2041 are not; a body of four ends at its fourth byte. -/
theorem test_premises_BytesMakeFrames :
    ((receiving .hunt).line.receiver = .hunt ∧ (0x5A : Byte) ≠ 0xC3#8 ∧ (receiving .sync).line.receiver = .sync ∧
        (receiving (.length none)).line.receiver = .length none) ∧
      ((receiving (.length (some 0))).line.receiver = .length (some 0) ∧ 4 ≤ (0 : Byte).toNat * 256 + (4 : Byte).toNat ∧
        (7 : Byte).toNat * 256 + (248 : Byte).toNat ≤ 2040 ∧ (0 : Byte).toNat * 256 + (3 : Byte).toNat < 4 ∧
        2040 < (7 : Byte).toNat * 256 + (249 : Byte).toNat) ∧
      ((receiving (.body 0 4 [0x17, 7])).line.receiver = .body 0 4 [0x17, 7] ∧
        ([0x17, 7] : List Byte).length + 1 < (0 : Byte).toNat * 256 + (4 : Byte).toNat ∧
        (0 : Byte).toNat * 256 + (4 : Byte).toNat ≤ ([0x17, 7, 0] : List Byte).length + 1) ∧
      ((receiving (.check 0 4 stopBody none)).line.receiver = .check 0 4 stopBody none ∧
        ∃ c b : Byte, crc16 (0 :: 4 :: stopBody) = c ++ b ∧ crc16 (0 :: 4 :: stopBody) ≠ c ++ (b + 1)) ∧
      ((receiving (.length none)).line.receiver ≠ .hunt ∧ (receiving (.length none)).line.receiver ≠ .sync) := by
  refine ⟨by decide, by decide, by decide, ⟨rfl, (crc16 (0 :: 4 :: stopBody)).extractLsb' 8 8, (crc16 (0 :: 4 :: stopBody)).extractLsb' 0 8,
    by decide +kernel, by decide +kernel⟩, by decide⟩

/-- Four replies wait. -/
def fourReplies : State :=
  withLine { State.reset.line with replies := List.replicate 4 ⟨1, 1, .ok, 0, .headOnly⟩ } State.reset

/-- A frame one byte longer than its kind's, for a request without fields, with fields and with a list. -/
theorem test_premises_UnfitRequestsAreAnswered :
    ((⟨[0, 0, 0, 0]⟩ : Frame).kind.toNat = 0 ∧ 0x1C < (⟨[0x1D, 0, 0, 0]⟩ : Frame).kind.toNat ∧ State.reset.line.replies.length < 4) ∧
      (requestOf .runStop = some (.runStop, 0) ∧ Waits .runStop 1 0 0 State.reset) ∧
      (requestOf (.setPosition 0) = some (.setPosition, 4) ∧ Waits .setPosition 5 0 0 State.reset) ∧
      (requestOf (.stagePlan [[0, 1], [2]]) = some (.stagePlan, 9) ∧ Waits .stagePlan 10 0 0 State.reset) ∧
      (requestOf (.setChannel channelFields) = some (.setChannel, 90) ∧ Waits .setChannel 91 0 0 State.reset ∧
        ¬State.reset.leaves .left 0) ∧
      (∀ r size rail channel, (headOf r size rail channel).body.length = 4 + size) ∧ 4 ≤ fourReplies.line.replies.length := by
  refine ⟨by decide, ⟨rfl, waits _ _ _ _ (by decide)⟩, ⟨rfl, waits _ _ _ _ (by decide)⟩, ⟨by decide, waits _ _ _ _ (by decide)⟩,
    ⟨by decide, waits _ _ _ _ (by decide), ?_⟩, fun r size rail channel => by simp [headOf]; omega, by decide⟩
  rintro (⟨a, b, h, _⟩ | ⟨a, h, _⟩) <;> cases h

/-- A queue of one record READY, with a second behind it. -/
def readyLine : State :=
  withLine { State.reset.line with queue := [hitRecord, untestedRecord], bundle := ⟨.ready, 1, none⟩ } State.reset

theorem test_premises_TheTransmitterSendsFrames :
    (fourReplies.line.sending = none ∧ fourReplies.line.replies = ⟨1, 1, .ok, 0, .headOnly⟩ :: List.replicate 3 ⟨1, 1, .ok, 0, .headOnly⟩) ∧
      (readyLine.line.sending = none ∧ readyLine.line.replies = [] ∧ readyLine.line.bundle.state = .ready) ∧
      (after .sendReply fourReplies).line.sending ≠ none ∧
      ((0 : Byte).toNat * 256 + (4 : Byte).toNat = stopBody.length ∧
        (crc16 (0 :: 4 :: stopBody)).extractLsb' 8 8 ++ (crc16 (0 :: 4 :: stopBody)).extractLsb' 0 8 = crc16 (0 :: 4 :: stopBody)) := by
  decide +kernel

/-- The numbers of the rails and of a flag's two values, as the layouts take them. -/
theorem test_premises_the_layouts :
    (∃ side : Rail → Int, side .left = 0 ∧ side .right = 1) ∧ ∃ one : Bool → Int, one false = 0 ∧ one true = 1 :=
  ⟨⟨fun r => railByte r, rfl, rfl⟩, ⟨fun b => flagBit 0 b, rfl, rfl⟩⟩

/-- The numbers of ON and OFF, a gate and a plan, as the replies take them. -/
theorem test_premises_the_replies :
    (∃ no : Bool → Int, no true = 0 ∧ no false = 1) ∧
      (∃ gate : GateFields → List Byte, ∀ g, gate g =
        bytes1 g.presence ++ bytes1 g.mode ++ bytes2 g.start ++ bytes2 g.width ++ bytes2 g.level ++ bytes1 g.useCurve ++
          bytes4 g.positionTolerance ++ bytes2 g.depthTolerance ++ bytes2 g.minimumHits) ∧
      ∃ plan : Plan → List Byte, ∀ p, plan p =
        bytes2 p.length ++ p.flatMap (fun g => bytes2 g.length ++ g.flatMap (fun ch => bytes1 ch.val)) :=
  ⟨⟨fun b => yesNo b, rfl, rfl⟩, ⟨gateBytes, fun _ => rfl⟩, ⟨planBytes, fun _ => rfl⟩⟩

/-- The reply to a SET_TRAVEL with scale 224,460, pitch 30 and 500 ms, high bytes first. -/
theorem test_a_reply_body :
    (Outgoing.reply ⟨4, 7, .ok, 0, .travel ⟨.normal, 224460, 30, 500⟩⟩).body =
      [4, 7, 0, 0, 0, 0, 3, 0x6C, 0xCC, 0, 0, 0, 30, 1, 0xF4] := by decide +kernel

/-- The register that the CRC-16 is fed into, bit by bit. -/
theorem test_premises_the_crc_register :
    ∃ feed : Word16 → Bool → Word16, ∀ c bit, feed c bit = if c.msb = bit then c <<< 1 else (c <<< 1) ^^^ 0x1021#16 :=
  ⟨_, fun _ _ => rfl⟩

/-- A HIT outside and inside the set; LOW at and below the threshold of 192; HIGH at 255, and at 256 with a LOW record to
displace and with none. -/
theorem test_premises_AnOfferedRecordIsQueuedOrLost :
    ((State.reset.setup.reporting.hitStream.get .left).getLsbD (0 : Channel).val = false ∧
        (streaming.setup.reporting.hitStream.get .left).getLsbD (0 : Channel).val = true) ∧
    ((queued 177 15 hitRecord).line.inbox = [.offer hitRecord] ∧ hitRecord.isLow = true ∧
        State.reset.setup.reporting.highWater ≤ (queued 177 15 hitRecord).line.queue.length ∧
        (queued 176 15 hitRecord).line.queue.length < State.reset.setup.reporting.highWater) ∧
      (untestedRecord.isLow = false ∧ (queued 177 78 untestedRecord).line.queue.length < 256) ∧
      (256 ≤ (queued 1 255 untestedRecord).line.queue.length ∧
        (queued 1 255 untestedRecord).line.queue = [] ++ hitRecord :: List.replicate 255 untestedRecord ∧
        ∀ z ∈ List.replicate 255 untestedRecord, z.isLow = false) ∧
      (256 ≤ (queued 0 256 untestedRecord).line.queue.length ∧ ∀ z ∈ (queued 0 256 untestedRecord).line.queue, z.isLow = false) := by
  decide +kernel

theorem test_premises_TheTimersOfTheLine :
    let l : Line := { State.reset.line with
      queue := [hitRecord], bundle := ⟨.open, 1, some 9⟩, silenceEnd := some 8, inbox := [.change .motion] }
    (l.bundle.state = .open ∧ l.bundle.flushEnd = some 9) ∧ l.inbox ≠ [] ∧
      (State.reset.line.statusEnd = some 100000000 ∧ State.reset.line.inbox = []) ∧ l.silenceEnd = some 8 ∧
      l.inbox = [.change .motion] ∧ State.reset.setup.reporting.statusOnChange = false := by decide +kernel

theorem test_premises_ReadingRequestsAnswer :
    (Waits .identify 0 0 0 State.reset ∧ Waits .readStatus 0 0 0 State.reset) ∧
      (Waits .readChannel 0 1 11 State.reset ∧ (headOf .readChannel 0 1 11).rail = some .right ∧ (headOf .readChannel 0 1 11).channel = some 11) ∧
      (Waits .readChannel 0 2 0 State.reset ∧ (headOf .readChannel 0 2 0).rail = none) ∧
      (Waits .readChannel 0 0 12 State.reset ∧ (headOf .readChannel 0 0 12).channel = none) ∧
      (Waits .readPlan 0 0 0 State.reset ∧ (headOf .readPlan 0 0 0).rail = some .left ∧ (headOf .readPlan 0 2 0).rail = none) ∧
      (Waits .readPattern 1 0 0 State.reset ∧ (15 : Nat) = (15 : Fin 16).val ∧ 16 ≤ 16) ∧ Waits .readLandmarks 0 0 0 State.reset :=
  ⟨⟨waits _ _ _ _ (by decide), waits _ _ _ _ (by decide)⟩, ⟨waits _ _ _ _ (by decide), by decide⟩, ⟨waits _ _ _ _ (by decide), by decide⟩,
    ⟨waits _ _ _ _ (by decide), by decide⟩, ⟨waits _ _ _ _ (by decide), by decide⟩, ⟨waits _ _ _ _ (by decide), by decide⟩,
    waits _ _ _ _ (by decide)⟩

theorem test_premises_SetReportingRetunesTheLine :
    (Waits .setReporting 15 0 0 State.reset ∧ 1 < 2 ∧ 4096 ≤ (0x1000 : Word16).toNat ∧ (0xFFF : Word16).toNat < 4096 ∧
        State.reset.run.writing = none) ∧
      (Waits .setReporting 15 0 0 (writing State.reset) ∧ (writing State.reset).run.writing ≠ none) :=
  ⟨⟨waits _ _ _ _ (by decide), by decide +kernel⟩, ⟨waits _ _ _ _ (by decide), by decide +kernel⟩⟩

/-! #### Settings of the rails -/

/-- A run on the left rail with channels 0 to 3 in plan and channels 4 and 5 staged together. -/
def planned : State :=
  withFiring .left { State.reset.firing.left with staged := some [[4, 5]] } (withPlan .left [[0, 1, 2, 3]] State.reset)

/-- The fields of a channel on this lane with this curve. -/
def onLane (lane : Nat) (c : List CurvePointFields) : ChannelFields := { channelFields with lane := lane, curve := c }

/-- The checks: RANGE by rail, channel and lane, BUSY, STATE by a plan and by an operation, ORDER by times equal after
clamping, CONFLICT through the staged plan, and a record taken. -/
theorem test_premises_SetChannelReplacesTheRecord :
    (requestHeads (sent .setChannel 90 0 4 (heard (.commit [4] []))) .setChannel (headOf .setChannel 90 0 4) [] ∧
        (heard (.commit [4] [])).leaves .left 4 ∧ (told (.leaving [4])).leaves .left 4 ∧ ¬planned.leaves .left 4) ∧
      (Waits .setChannel 90 2 0 State.reset ∧ (headOf .setChannel 90 2 0).rail = none ∧ (headOf .setChannel 90 0 12).channel = none ∧
        (onLane 4 []).clamp = none) ∧
      ((headOf .setChannel 90 0 4).rail = some .left ∧ (headOf .setChannel 90 0 4).channel = some 4 ∧ (onLane 3 []).clamp.isSome = true) ∧
      (Waits .setChannel 90 0 4 (writing State.reset) ∧ (writing State.reset).run.writing ≠ none) ∧
      (Waits .setChannel 90 0 0 (inState .running planned) ∧ (inState .running planned).run.state ≠ .stopped ∧
        ∃ g ∈ (inState .running planned).setup.plans.left, (0 : Channel) ∈ g) ∧
      ((calibrating 6243).run.state = .calibrating ∧ (calibrating 6243).run.operation.any (fun o => match o with
          | .calibration c => decide (c.rail = .left)
          | .verification _ => false) = true) ∧
      (Waits .setChannel 90 0 4 planned ∧ Waits .setChannel 98 0 4 planned ∧ planned.run.state = .stopped ∧
        (onLane 0 [⟨8191, 0⟩, ⟨9000, 0⟩]).clamp.map (fun x => ascending x.curve) = some false) ∧
      ((planned.channel .left 4).lane ≠ 1 ∧
        ∃ g ∈ planned.setup.plans.left ++ (planned.firing.left.staged).getD [],
          (4 : Channel) ∈ g ∧ ∃ other ∈ g, other ≠ 4 ∧ (planned.channel .left other).lane = 1) ∧
      ((onLane 3 [⟨0, 5⟩, ⟨1, 5⟩]).clamp.map (fun x => ascending x.curve) = some true ∧
        ¬ ∃ g ∈ planned.setup.plans.left ++ (planned.firing.left.staged).getD [],
          (4 : Channel) ∈ g ∧ ∃ other ∈ g, other ≠ 4 ∧ (planned.channel .left other).lane = 3) ∧
      (gateFields.presence = 0 ∧ gateFields.mode < 3 ∧ gateFields.useCurve < 2 ∧ { gateFields with presence := 1 }.presence = 1) :=
  ⟨⟨(waits _ _ _ _ (by decide)).1, Or.inl ⟨[4], [], List.mem_cons_self, List.mem_cons_self⟩,
      Or.inr ⟨[4], List.mem_cons_self, List.mem_cons_self⟩, by rintro (⟨a, b, h, _⟩ | ⟨a, h, _⟩) <;> cases h⟩,
    ⟨waits _ _ _ _ (by decide), by decide +kernel⟩, by decide +kernel, ⟨waits _ _ _ _ (by decide), by decide +kernel⟩,
    ⟨waits _ _ _ _ (by decide), by decide +kernel⟩, by decide +kernel, ⟨waits _ _ _ _ (by decide), waits _ _ _ _ (by decide), by decide +kernel⟩,
    by decide +kernel, by decide +kernel, by decide⟩

/-- The checks of STAGE_PLAN: a group of five, a seventeenth group, lanes shared by channels 0 and 4, and plans taken. -/
theorem test_premises_StagePlanStagesOrTakes :
    (Waits .stagePlan 8 2 0 State.reset ∧ (headOf .stagePlan 8 2 0).rail = none) ∧
      (Waits .stagePlan 12 0 0 State.reset ∧ (headOf .stagePlan 12 0 0).rail = some .left ∧
        2 + ([[0], [0, 1, 2, 3, 4]].map (fun g => 2 + g.length)).sum = 12 ∧
        (∀ j g, j < 1 → [[0], [0, 1, 2, 3, 4]][j]? = some g → isGroup g) ∧ ¬ isGroup [0, 1, 2, 3, 4] ∧ ¬ isGroup [] ∧ ¬ isGroup [12]) ∧
      (Waits .stagePlan 53 0 0 State.reset ∧ 2 + ((List.replicate 17 [0]).map (fun g => 2 + g.length)).sum = 53 ∧
        (∀ j g, j < 16 → (List.replicate 17 [0])[j]? = some g → isGroup g) ∧ 16 < (List.replicate 17 [0]).length) ∧
      (Waits .stagePlan 8 0 0 (writing State.reset) ∧ (writing State.reset).run.state = .stopped ∧ (writing State.reset).run.writing ≠ none) ∧
      (¬ (([0, 4] : Group).map (State.reset.setup.lanes .left)).Nodup ∧ (([0, 1, 2, 3] : Group).map (State.reset.setup.lanes .left)).Nodup) ∧
      (Waits .stagePlan 8 0 0 (inState .running State.reset) ∧ (inState .running State.reset).run.state ≠ .stopped) ∧
      (Waits .stagePlan 6 0 0 State.reset ∧ 2 + ([[0, 4]].map (fun g => 2 + g.length)).sum = 6 ∧
        2 + ([[0, 1, 2, 3]].map (fun g => 2 + g.length)).sum = 8) ∧
      (([[0, 1, 2, 3]] : Plan).length ≤ 16 ∧ ∀ g ∈ ([[0, 1, 2, 3]] : Plan), 1 ≤ g.length ∧ g.length ≤ 4) := by
  refine ⟨⟨waits _ _ _ _ (by decide), by decide⟩, ⟨waits _ _ _ _ (by decide), by decide, by decide, ?_, ?_, ?_, ?_⟩,
    ⟨waits _ _ _ _ (by decide), by decide, ?_, by decide⟩, ⟨waits _ _ _ _ (by decide), by decide +kernel⟩, by decide +kernel,
    ⟨waits _ _ _ _ (by decide), by decide⟩, ⟨waits _ _ _ _ (by decide), by decide⟩, by decide⟩
  · intro j g hj h
    obtain rfl : j = 0 := by omega
    simp at h; subst h; simp [isGroup]
  · simp [isGroup]
  · simp [isGroup]
  · simp [isGroup]
  · intro j g hj h
    rw [List.getElem?_replicate] at h
    split at h
    · cases h; simp [isGroup]
    · cases h

/-- A channel in plan in RUNNING, with and without a snapshot pending. -/
def snapshotAsked : State :=
  withEcho .left { State.reset.echo.left with snapshot := .waiting 0 } (inState .running planned)

theorem test_premises_RailLevelAndPatternRequests :
    (Waits .setRail 22 2 0 State.reset ∧ Waits .setRail 22 1 0 State.reset ∧ (headOf .setRail 22 1 0).rail = some .right ∧ 1 < 2) ∧
      (Waits .setRail 22 0 0 (writing State.reset) ∧ (writing State.reset).run.writing ≠ none) ∧
      (Waits .setRail 22 0 0 (inState .running State.reset) ∧ (inState .running State.reset).run.state ≠ .stopped ∧
        (max 0 (min 10000 (101 : Int))).toNat ≠ (State.reset.setup.rails.get .left).join ∧
        (max 100 (min 200000 (20000 : Int))).toNat = (State.reset.setup.rails.get .left).settle) ∧
      (Waits .setLevels 10 0 12 State.reset ∧ (headOf .setLevels 10 0 12).channel = none ∧ (headOf .setLevels 10 0 11).channel = some 11 ∧
        State.reset.run.writing = none) ∧
      (Waits .snapshot 0 2 0 State.reset ∧ State.reset.run.state ≠ .running) ∧
      (Waits .snapshot 0 0 4 (inState .running planned) ∧ (∀ g ∈ planned.setup.plans.left, (4 : Channel) ∉ g) ∧
        ∃ g ∈ planned.setup.plans.left, (0 : Channel) ∈ g) ∧
      (snapshotAsked.echo.left.snapshot ≠ .idle ∧ planned.echo.left.snapshot = .idle) ∧
      (Waits .setPattern 19 0 0 State.reset ∧ Waits .setPattern 2 0 0 State.reset ∧ 16 ≤ 16 ∧ (15 : Nat) = (15 : Fin 16).val ∧
        PatternFields.clamp { patternFields with cls := 0 } = none ∧ PatternFields.clamp { patternFields with cls := 64 } = none) ∧
      ((PatternFields.clamp patternFields).map (fun x => decide (x.depthMin ≤ x.depthMax)) = some true ∧
        (PatternFields.clamp { patternFields with depthMin := 401 }).map (fun x => decide (x.depthMax < x.depthMin)) = some true) ∧
      (∀ condition ∈ [0, 1, 2], ({ patternFields with condition := condition, cls := 63 }.clamp).isSome = true ∧
        [LandmarkKind.weld, .joint, .switch, .crossing, .other][patternFields.kind]? = some .weld) :=
  ⟨⟨waits _ _ _ _ (by decide), waits _ _ _ _ (by decide), by decide⟩, ⟨waits _ _ _ _ (by decide), by decide +kernel⟩,
    ⟨waits _ _ _ _ (by decide), by decide +kernel⟩, ⟨waits _ _ _ _ (by decide), by decide +kernel⟩, ⟨waits _ _ _ _ (by decide), by decide⟩,
    ⟨waits _ _ _ _ (by decide), by decide +kernel⟩, by decide +kernel, ⟨waits _ _ _ _ (by decide), waits _ _ _ _ (by decide), by decide +kernel⟩, by decide +kernel, by decide +kernel⟩

/-! #### The invariants: states other than reset that meet them -/

theorem test_premises_SettingsStayLawful : planned.settingsLawful := by
  refine ⟨⟨defaults_lawful.1, defaults_lawful.2.1, defaults_lawful.2.2.1, ?_, defaults_lawful.2.2.2.2⟩, ?_, ?_, ?_⟩
  · intro r
    cases r <;> exact ⟨by decide +kernel, by decide +kernel⟩
  · intro u h
    cases h
  · intro u h
    cases h
  · intro r p h
    cases r
    · cases h
      exact ⟨by decide +kernel, by decide +kernel⟩
    · cases h

theorem reset_settings : State.reset.settingsLawful := by
  refine ⟨defaults_lawful, ?_, ?_, ?_⟩
  · rintro u ⟨⟩
  · rintro u ⟨⟩
  · rintro (_ | _) p ⟨⟩

theorem eightCounts_travel_lawful : eightCounts.travel.lawful eightCounts.now := by
  have h : ∀ m, eightCounts.travel.lastCount = some m → m ≤ eightCounts.now := by rintro m ⟨⟩; exact Nat.le_refl 0
  simp only [Travel.lawful]
  simp only [← and_assoc]
  exact ⟨by decide +kernel, h⟩

/-- A state other than STOPPED, CALIBRATING and VERIFYING, or STOPPED with the store WRITING, or CALIBRATING with its step. -/
theorem test_premises_TravelAndTheRunStateStayLawful :
    eightCounts.travelLawful ∧ (writing State.reset).run.lawful ∧ (calibrating 6243).run.lawful := by
  refine ⟨⟨reset_settings, eightCounts_travel_lawful, by rintro (_ | _) <;> rfl⟩, ?_, ?_⟩
  · simp [RunControl.lawful, writing, State.reset, State.powered, RunControl.powerOn]
  · simp [RunControl.lawful, calibrating, withRun, withFiring, State.reset, State.powered, RunControl.powerOn, withRecord]

theorem streaming_settings : streaming.settingsLawful := by
  obtain ⟨⟨h1, h2, h3, h4, h5, h6, _⟩, h⟩ := reset_settings
  exact ⟨⟨h1, h2, h3, h4, h5, h6, by unfold ReportingSettings.lawful; decide +kernel⟩, h⟩

theorem test_premises_TheLineStaysLawful : (queued 176 15 hitRecord).lineLawful := by
  refine ⟨streaming_settings, trivial, by decide +kernel, ?_, by decide +kernel, by decide +kernel, ⟨by decide, by decide +kernel, rfl⟩,
    by decide, by decide, by decide, by decide, by decide⟩
  intro f h
  cases h

theorem test_premises_QueuesAndTablesStayLawful :
    (marked 874 sixteenMarks ⟨42, 20729⟩).marksLawful ∧ (withLandmarks list1 State.reset).landmarks.lawful ∧
      Finding.lawful findingC ∧ Trace.lawful ⟨9, 0, 20618, 20618, 20624, 231, 226, 231, ⟨1800, 20624, 228⟩, 3, 20060, false⟩ ∧
      Cover.lawful (coverOf .uncoupled 4 0) := by
  refine ⟨?_, ⟨by decide, by decide, by decide +kernel, by decide, by decide⟩, ⟨⟨by decide, by decide⟩, by decide, by decide, by decide, ?_⟩,
    ⟨by decide, by decide, by decide, by decide, by decide, by decide⟩, ⟨by decide, by decide, by decide, by decide, ?_⟩⟩
  · intro r
    cases r <;> exact ⟨by decide +kernel, by decide +kernel, by decide +kernel⟩
  · intro c hc
    simp only [findingC, List.mem_cons, List.not_mem_nil, or_false] at hc
    rcases hc with rfl | rfl | rfl <;> exact ⟨⟨by decide, by decide⟩, by decide, by decide⟩
  · rintro x hx
    cases hx

/-- Two findings of the left rail 101 apart under the tolerance of 100, in RUNNING. -/
def apart : State :=
  withAssembler .left { State.reset.assembler.left with
    slots := setAt (setAt State.reset.assembler.left.slots 0 (some (findingOf indicationA))) 1
      (some (findingOf { indicationB with minPr := 20725 })) } (inState .running State.reset)

theorem apart_slot (i : Fin 16) : apart.assembler.left.slots[i] =
    if i = 1 then some (findingOf { indicationB with minPr := 20725 }) else if i = 0 then some (findingOf indicationA) else none := by
  revert i; decide +kernel

/-- What its two slots hold. -/
theorem apart_slots {i : Fin 16} {f : Finding} (h : apart.assembler.left.slots[i] = some f) :
    i = 0 ∧ f = findingOf indicationA ∨ i = 1 ∧ f = findingOf { indicationB with minPr := 20725 } := by
  rw [apart_slot i] at h
  split at h
  · exact Or.inr ⟨‹_›, (Option.some.inj h).symm⟩
  · split at h
    · exact Or.inl ⟨‹_›, (Option.some.inj h).symm⟩
    · cases h

theorem no_traces (r : Rail) (i : Fin 32) : (apart.tracker.get r).slots[i] = none := by
  cases r <;> (revert i; decide +kernel)

theorem no_findings_right (i : Fin 16) : apart.assembler.right.slots[i] = none := by
  revert i; decide +kernel

theorem test_premises_FindingsStayApart : apart.findingsLawful := by
  refine ⟨by simp [RunControl.lawful, apart, withAssembler, inState, State.reset, State.powered, RunControl.powerOn], ?_, ?_, ?_⟩
  · intro r
    have ht : ∀ (i : Fin 32) x, (apart.tracker.get r).slots[i] = some x → x.lawful := by
      intro i x h
      rw [no_traces r i] at h
      cases h
    have hc : ∀ c, AssemblerItem.indication c ∈ (apart.assembler.get r).inbox → c.lawful := by
      intro c h
      cases r <;> cases h
    have hn : (apart.tracker.get r).overflow = 0 ∧ (apart.tracker.get r).noise = 0 ∧ (apart.assembler.get r).number = 0 := by
      cases r <;> exact ⟨rfl, rfl, rfl⟩
    refine ⟨ht, by omega, by omega, ?_, by omega, hc⟩
    intro i f h
    cases r
    · rcases apart_slots h with ⟨_, rfl⟩ | ⟨_, rfl⟩
      all_goals
        refine ⟨⟨by decide, by decide⟩, by decide, by decide, by decide, fun c hc => ?_⟩
        cases List.mem_singleton.mp hc
        exact ⟨⟨by decide, by decide⟩, by decide, by decide⟩
    · rw [show (apart.assembler.get .right).slots[i] = none from no_findings_right i] at h; cases h
  · intro r
    cases r <;> exact ⟨List.not_mem_nil, List.not_mem_nil, List.not_mem_nil, rfl⟩
  · intro r i j f g hij hf hg
    cases r
    · rcases apart_slots hf with ⟨rfl, rfl⟩ | ⟨rfl, rfl⟩ <;> rcases apart_slots hg with ⟨rfl, rfl⟩ | ⟨rfl, rfl⟩
      · exact absurd rfl hij
      · exact Or.inl (by decide +kernel)
      · exact Or.inr (by decide +kernel)
      · exact absurd rfl hij
    · rw [show (apart.assembler.get .right).slots[i] = none from no_findings_right i] at hf; cases hf

end Sys2Proof.Tests
end

section
/-! PROOFS. The flaw gates (R44 to R49, O17). A gate's evaluated window is tied to `FlawGate.sampleAt` position by
position; each mode's outcome is then a fact about lists, read off a split of the window at the samples that decide. -/

namespace Sys2Proof.Machine

/-! ### The evaluated window -/

theorem FlawGate.getElem?_timed {g : FlawGate} {samples : List Nat} {i k : Nat} {h : Hit} :
    (g.timed samples i)[k]? = some h ↔ g.sampleAt samples i h.time h.amplitude ∧ h.time = g.start + k := by
  obtain ⟨t, a⟩ := h
  simp only [timed, window, sampleAt, List.getElem?_map, List.getElem?_zipIdx, List.getElem?_take, List.getElem?_drop,
    Option.map_map, Option.map_eq_some_iff, Option.ite_none_right_eq_some, Function.comp_apply, Hit.mk.injEq, Nat.zero_add]
  constructor
  · rintro ⟨_, ⟨hk, hx⟩, rfl, rfl⟩
    exact ⟨⟨by omega, by omega, by rwa [← Nat.add_assoc]⟩, rfl⟩
  · rintro ⟨⟨-, hlt, ha⟩, rfl⟩
    exact ⟨a, ⟨by omega, by rwa [Nat.add_assoc]⟩, rfl, rfl⟩

theorem FlawGate.mem_timed {g : FlawGate} {samples : List Nat} {i : Nat} {h : Hit} :
    h ∈ g.timed samples i ↔ g.sampleAt samples i h.time h.amplitude := by
  simp only [List.mem_iff_getElem?, getElem?_timed]
  exact ⟨fun ⟨_, hs, _⟩ => hs, fun hs => ⟨h.time - g.start, hs, (Nat.add_sub_cancel' hs.1).symm⟩⟩

theorem FlawGate.sampleAt_unique {g : FlawGate} {samples : List Nat} {i t a b : Nat} (ha : g.sampleAt samples i t a)
    (hb : g.sampleAt samples i t b) : a = b :=
  Option.some.inj (ha.2.2.symm.trans hb.2.2)

theorem FlawGate.mem_take_drop_timed {g : FlawGate} {samples : List Nat} {i d n : Nat} {h : Hit} :
    h ∈ ((g.timed samples i).drop d).take n ↔
      g.sampleAt samples i h.time h.amplitude ∧ g.start + d ≤ h.time ∧ h.time < g.start + d + n := by
  simp only [List.mem_iff_getElem?, List.getElem?_take, Option.ite_none_right_eq_some, List.getElem?_drop,
    getElem?_timed]
  constructor
  · rintro ⟨k, hk, hs, ht⟩
    exact ⟨hs, by omega, by omega⟩
  · rintro ⟨hs, hd, hn⟩
    exact ⟨h.time - (g.start + d), by omega, hs, by omega⟩

theorem FlawGate.timed_pairwise_time_lt (g : FlawGate) (samples : List Nat) (i : Nat) :
    (g.timed samples i).Pairwise (fun x y => x.time < y.time) := by
  rw [List.pairwise_iff_getElem]
  intro j k hj hk hjk
  have htj := (getElem?_timed.mp (List.getElem?_eq_getElem hj)).2
  have htk := (getElem?_timed.mp (List.getElem?_eq_getElem hk)).2
  omega

theorem FlawGate.length_timed (g : FlawGate) (samples : List Nat) (i : Nat) :
    (g.timed samples i).length = min g.width (samples.length - (i + g.start)) := by
  simp [timed, window]

theorem FlawGate.timed_ne_nil {g : FlawGate} {samples : List Nat} {i : Nat} (hs : i + g.start < samples.length)
    (hw : 1 ≤ g.width) : g.timed samples i ≠ [] := by
  apply List.ne_nil_of_length_pos
  rw [length_timed]
  omega

theorem FlawGate.timed_ne_nil_of_sampleAt {g : FlawGate} {samples : List Nat} {i t a : Nat}
    (h : g.sampleAt samples i t a) : g.timed samples i ≠ [] :=
  List.ne_nil_of_mem (mem_timed (h := ⟨t, a⟩).mpr h)

theorem FlawGate.reaches_iff {g : FlawGate} {curve : List CurvePoint} {h : Hit} :
    g.reaches curve h = true ↔ g.levelAt curve h.time ≤ (h.amplitude : Int) := by
  simp [reaches]

theorem FlawGate.reachesAt_iff_mem_timed {g : FlawGate} {curve : List CurvePoint} {samples : List Nat} {i : Nat} {h : Hit} :
    g.reachesAt curve samples i h.time h.amplitude ↔ h ∈ g.timed samples i ∧ g.reaches curve h = true := by
  rw [mem_timed, reaches_iff, reachesAt]

theorem FlawGate.reaches_eq_false {g : FlawGate} {curve : List CurvePoint} {samples : List Nat} {i : Nat} {h : Hit}
    (hm : h ∈ g.timed samples i) (hr : ¬ g.reachesAt curve samples i h.time h.amplitude) : g.reaches curve h = false := by
  simpa [reachesAt_iff_mem_timed, hm] using hr

/-! ### The greatest amplitude -/

theorem foldl_max_amplitude_le_iff (hs : List Hit) (k n : Nat) :
    hs.foldl (fun n h => max n h.amplitude) k ≤ n ↔ k ≤ n ∧ ∀ h ∈ hs, h.amplitude ≤ n := by
  induction hs generalizing k with
  | nil => simp
  | cons x xs ih => simp [ih, and_assoc]

theorem greatest_le_iff {hs : List Hit} {n : Nat} : greatest hs ≤ n ↔ ∀ h ∈ hs, h.amplitude ≤ n := by
  simp [greatest, foldl_max_amplitude_le_iff]

theorem greatest_eq_amplitude {hs : List Hit} {h : Hit} (hm : h ∈ hs) (hle : ∀ x ∈ hs, x.amplitude ≤ h.amplitude) :
    greatest hs = h.amplitude :=
  le_antisymm (greatest_le_iff.mpr hle) (greatest_le_iff.mp le_rfl h hm)

theorem FlawGate.greatest_timed {g : FlawGate} {samples : List Nat} {i t m : Nat} (ht : g.sampleAt samples i t m)
    (hle : ∀ u a, g.sampleAt samples i u a → a ≤ m) : greatest (g.timed samples i) = m :=
  greatest_eq_amplitude (h := ⟨t, m⟩) (mem_timed.mpr ht) (fun _ hx => hle _ _ (mem_timed.mp hx))

/-- One comparison of `strongest`: the later hit wins only with a greater amplitude. -/
def stronger (b x : Hit) : Hit := if b.amplitude < x.amplitude then x else b

theorem strongest_cons (h : Hit) (rest : List Hit) : strongest (h :: rest) = some (rest.foldl stronger h) := rfl

theorem foldl_stronger_of_le {h : Hit} {post : List Hit} (hpost : ∀ x ∈ post, x.amplitude ≤ h.amplitude) :
    post.foldl stronger h = h := by
  induction post with
  | nil => rfl
  | cons x xs ih =>
    obtain ⟨hx, hxs⟩ := List.forall_mem_cons.mp hpost
    rw [List.foldl_cons, show stronger h x = h from if_neg (by omega), ih hxs]

theorem foldl_stronger_append_cons {b h : Hit} {pre post : List Hit} (hb : b.amplitude < h.amplitude)
    (hpre : ∀ x ∈ pre, x.amplitude < h.amplitude) (hpost : ∀ x ∈ post, x.amplitude ≤ h.amplitude) :
    (pre ++ h :: post).foldl stronger b = h := by
  induction pre generalizing b with
  | nil => rw [List.nil_append, List.foldl_cons, show stronger b h = h from if_pos hb, foldl_stronger_of_le hpost]
  | cons x xs ih =>
    obtain ⟨hx, hxs⟩ := List.forall_mem_cons.mp hpre
    rw [List.cons_append, List.foldl_cons]
    refine ih ?_ hxs
    unfold stronger
    split <;> assumption

theorem strongest_append_cons {h : Hit} {pre post : List Hit} (hpre : ∀ x ∈ pre, x.amplitude < h.amplitude)
    (hpost : ∀ x ∈ post, x.amplitude ≤ h.amplitude) : strongest (pre ++ h :: post) = some h := by
  cases pre with
  | nil => rw [List.nil_append, strongest_cons, foldl_stronger_of_le hpost]
  | cons x xs =>
    obtain ⟨hx, hxs⟩ := List.forall_mem_cons.mp hpre
    rw [List.cons_append, strongest_cons, foldl_stronger_append_cons hx hxs hpost]

/-- In a list in order of time, the strongest hit is the one no other exceeds and no earlier one equals. -/
theorem strongest_of_pairwise {hs : List Hit} {h : Hit} (hp : hs.Pairwise (fun x y => x.time < y.time)) (hm : h ∈ hs)
    (hle : ∀ x ∈ hs, x.amplitude ≤ h.amplitude) (hlt : ∀ x ∈ hs, x.time < h.time → x.amplitude < h.amplitude) :
    strongest hs = some h := by
  obtain ⟨pre, post, rfl⟩ := List.append_of_mem hm
  have hbefore : ∀ x ∈ pre, x.time < h.time := fun x hx => (List.pairwise_append.mp hp).2.2 x hx h List.mem_cons_self
  exact strongest_append_cons (fun x hx => hlt x (List.mem_append_left _ hx) (hbefore x hx))
    (fun x hx => hle x (List.mem_append_right _ (List.mem_cons_of_mem _ hx)))

/-! ### The outcome of each mode over a list of samples -/

theorem peakOutcome_eq_hit {hs : List Hit} {reaches : Hit → Bool} {h : Hit} (hst : strongest (hs.filter reaches) = some h) :
    peakOutcome hs reaches = .hit h := by
  rw [peakOutcome, hst]

theorem peakOutcome_eq_noHit {hs : List Hit} {reaches : Hit → Bool} (hno : ∀ h ∈ hs, reaches h = false) :
    peakOutcome hs reaches = .noHit := by
  have hnil : hs.filter reaches = [] := by simpa using hno
  rw [peakOutcome, hnil, strongest]

/-- Samples that do not reach, then a run from h on that does, then a rest that does not go on with the run. -/
theorem firstOutcome_append {pre run post : List Hit} {reaches : Hit → Bool} {h : Hit}
    (hpre : ∀ x ∈ pre, reaches x = false) (hhead : run.head? = some h) (hrun : ∀ x ∈ run, reaches x = true)
    (hpost : ∀ x ∈ post.head?, reaches x = false) :
    firstOutcome (pre ++ (run ++ post)) reaches = .hit ⟨h.time, greatest run⟩ := by
  obtain ⟨tail, rfl⟩ : ∃ tail, run = h :: tail := List.head?_eq_some_iff.mp hhead
  obtain ⟨hh, htail⟩ := List.forall_mem_cons.mp hrun
  have hdrop : (pre ++ (h :: tail ++ post)).dropWhile (fun x => !reaches x) = h :: (tail ++ post) := by
    rw [List.dropWhile_append_of_pos (by simpa using hpre)]
    simp [hh]
  have hend : post.takeWhile reaches = [] := by
    cases post with
    | nil => rfl
    | cons x xs => simp [hpost x rfl]
  rw [firstOutcome, hdrop]
  simp only [List.takeWhile_append_of_pos htail, hend, List.append_nil]

theorem firstOutcome_eq_noHit {hs : List Hit} {reaches : Hit → Bool} (hno : ∀ h ∈ hs, reaches h = false) :
    firstOutcome hs reaches = .noHit := by
  have hnil : hs.dropWhile (fun h => !reaches h) = [] := by simpa using hno
  rw [firstOutcome, hnil]

theorem absentOutcome_eq_hit {start : Nat} {hs : List Hit} {reaches : Hit → Bool} (hno : ∀ h ∈ hs, reaches h = false) :
    absentOutcome start hs reaches = .hit ⟨start + hs.length / 2, greatest hs⟩ :=
  if_neg (by simpa using hno)

theorem absentOutcome_eq_noHit {start : Nat} {hs : List Hit} {reaches : Hit → Bool} {h : Hit} (hm : h ∈ hs)
    (hr : reaches h = true) : absentOutcome start hs reaches = .noHit :=
  if_pos (List.any_eq_true.mpr ⟨h, hm, hr⟩)

/-! ### The outcome of a present gate -/

section
variable {g : FlawGate} {curve : List CurvePoint} {samples : List Nat} {i : Nat}

theorem FlawGate.outcome_of_timed_eq_nil (h : g.timed samples i = []) : g.outcome curve samples i = .notEvaluated := by
  simp [outcome, h]

theorem FlawGate.outcome_of_peak (hm : g.mode = .peak) (hne : g.timed samples i ≠ []) :
    g.outcome curve samples i = peakOutcome (g.timed samples i) (g.reaches curve) := by
  simp [outcome, hm, hne]

theorem FlawGate.outcome_of_first (hm : g.mode = .first) (hne : g.timed samples i ≠ []) :
    g.outcome curve samples i = firstOutcome (g.timed samples i) (g.reaches curve) := by
  simp [outcome, hm, hne]

theorem FlawGate.outcome_of_absent (hm : g.mode = .absent) (hne : g.timed samples i ≠ []) :
    g.outcome curve samples i = absentOutcome g.start (g.timed samples i) (g.reaches curve) := by
  simp [outcome, hm, hne]

theorem FlawGate.outcome_of_window_past_end (h : samples.length ≤ i + g.start) :
    g.outcome curve samples i = .notEvaluated := by
  apply outcome_of_timed_eq_nil
  rw [← List.length_eq_zero_iff, length_timed]
  omega

theorem FlawGate.forall_reaches_eq_false (hno : ∀ t a, ¬ g.reachesAt curve samples i t a) :
    ∀ h ∈ g.timed samples i, g.reaches curve h = false :=
  fun _ hm => reaches_eq_false hm (hno _ _)

/-- R47: the sample that no other exceeds and no earlier one equals. -/
theorem FlawGate.outcome_peak_eq_hit {h : Hit} (hm : g.mode = .peak)
    (hr : g.reachesAt curve samples i h.time h.amplitude)
    (hbest : ∀ u b, g.reachesAt curve samples i u b → b ≤ h.amplitude ∧ (u < h.time → b < h.amplitude)) :
    g.outcome curve samples i = .hit h := by
  have hreach : ∀ x, x ∈ (g.timed samples i).filter (g.reaches curve) ↔
      g.reachesAt curve samples i x.time x.amplitude := fun x => by
    rw [List.mem_filter, reachesAt_iff_mem_timed]
  rw [outcome_of_peak hm (timed_ne_nil_of_sampleAt hr.1)]
  refine peakOutcome_eq_hit (strongest_of_pairwise ((g.timed_pairwise_time_lt samples i).filter _) ((hreach h).mpr hr) ?_ ?_)
  · exact fun x hx => (hbest _ _ ((hreach x).mp hx)).1
  · exact fun x hx => (hbest _ _ ((hreach x).mp hx)).2

/-- Each sample of a run from `g.start + d` on reaches its level and is no greater than the run's bound. -/
theorem FlawGate.reachesAt_of_mem_run {d n m : Nat} {x : Hit}
    (hrun : ∀ k, k < n → ∃ b, g.reachesAt curve samples i (g.start + d + k) b ∧ b ≤ m)
    (hx : x ∈ ((g.timed samples i).drop d).take n) :
    g.reachesAt curve samples i x.time x.amplitude ∧ x.amplitude ≤ m := by
  obtain ⟨hs, hlo, hhi⟩ := mem_take_drop_timed.mp hx
  obtain ⟨k, hk⟩ := Nat.exists_eq_add_of_le hlo
  obtain ⟨b, hb, hbm⟩ := hrun k (by omega)
  rw [← hk] at hb
  obtain rfl := sampleAt_unique hs hb.1
  exact ⟨hb, hbm⟩

/-- R48: from the first sample that reaches, at t, n samples reach without a break. -/
theorem FlawGate.outcome_first_eq_hit {t a m n u : Nat} (hm : g.mode = .first) (hr : g.reachesAt curve samples i t a)
    (hfirst : ∀ v b, g.reachesAt curve samples i v b → t ≤ v)
    (hrun : ∀ k, k < n → ∃ b, g.reachesAt curve samples i (t + k) b ∧ b ≤ m)
    (hend : ∀ b, ¬ g.reachesAt curve samples i (t + n) b) (hu : u < n) (hmax : g.reachesAt curve samples i (t + u) m) :
    g.outcome curve samples i = .hit ⟨t, m⟩ := by
  obtain ⟨d, rfl⟩ : ∃ d, t = g.start + d := Nat.exists_eq_add_of_le hr.1.1
  have hsplit : (g.timed samples i).take d ++
      (((g.timed samples i).drop d).take n ++ ((g.timed samples i).drop d).drop n) = g.timed samples i := by
    rw [List.take_append_drop, List.take_append_drop]
  have hmem : (⟨g.start + d + u, m⟩ : Hit) ∈ ((g.timed samples i).drop d).take n :=
    mem_take_drop_timed.mpr ⟨hmax.1, Nat.le_add_right .., Nat.add_lt_add_left hu _⟩
  have hgreatest : greatest (((g.timed samples i).drop d).take n) = m :=
    greatest_eq_amplitude hmem (fun _ hx => (reachesAt_of_mem_run hrun hx).2)
  rw [outcome_of_first hm (timed_ne_nil_of_sampleAt hr.1), ← hsplit,
    firstOutcome_append (h := ⟨g.start + d, a⟩) ?before ?head ?run ?after, hgreatest]
  case before =>
    intro x hx
    obtain ⟨hs, -, hlt⟩ := mem_take_drop_timed (d := 0).mp hx
    exact reaches_eq_false (mem_timed.mpr hs) (fun hreach => Nat.not_le.mpr hlt (hfirst _ _ hreach))
  case head =>
    rw [List.head?_take, if_neg (by omega), List.head?_drop]
    exact getElem?_timed.mpr ⟨hr.1, rfl⟩
  case run =>
    exact fun _ hx => (reachesAt_iff_mem_timed.mp (reachesAt_of_mem_run hrun hx).1).2
  case after =>
    intro x hx
    rw [List.drop_drop, List.head?_drop] at hx
    obtain ⟨hs, ht⟩ := getElem?_timed.mp hx
    refine reaches_eq_false (mem_timed.mpr hs) ?_
    rw [ht, ← Nat.add_assoc]
    exact hend _

end

/-- Settles O17: a case per mode, each by the lemma on that mode's outcome over the evaluated window. -/
theorem theFlawGates : Obligations.TheFlawGates := by
  refine ⟨?empty, ?peak, ?first, ?absent⟩
  case empty =>
    exact fun g curve samples i hlen => FlawGate.outcome_of_window_past_end hlen
  case peak =>
    intro g curve samples i hm
    refine ⟨fun t a hr hbest => FlawGate.outcome_peak_eq_hit (h := ⟨t, a⟩) hm hr hbest, fun hlen hw hno => ?_⟩
    rw [FlawGate.outcome_of_peak hm (FlawGate.timed_ne_nil hlen hw)]
    exact peakOutcome_eq_noHit (FlawGate.forall_reaches_eq_false hno)
  case first =>
    intro g curve samples i hm
    refine ⟨fun t a m n u hr hfirst _ hrun hend hu hmax =>
      FlawGate.outcome_first_eq_hit hm hr hfirst hrun hend hu hmax, fun hlen hw hno => ?_⟩
    rw [FlawGate.outcome_of_first hm (FlawGate.timed_ne_nil hlen hw)]
    exact firstOutcome_eq_noHit (FlawGate.forall_reaches_eq_false hno)
  case absent =>
    intro g curve samples i u m hm hlen hw hu hmax hle
    obtain ⟨t, ht⟩ := hmax
    rw [FlawGate.outcome_of_absent hm (FlawGate.timed_ne_nil hlen hw)]
    constructor
    · intro hno
      rw [absentOutcome_eq_hit (FlawGate.forall_reaches_eq_false hno), FlawGate.length_timed, ← hu,
        FlawGate.greatest_timed ht hle]
    · rintro ⟨t, a, hr⟩
      obtain ⟨hmem, hreach⟩ := FlawGate.reachesAt_iff_mem_timed (h := ⟨t, a⟩).mp hr
      exact absentOutcome_eq_noHit hmem hreach

end Sys2Proof.Machine
end

section
/-! PROOFS. The judging of a mark request (R146, R147, R152, O34). The search for the absorbing mark is tied to
`List.argmin` over the marks within the merge distance; each line of the table is then one equation of `judgeRequest`,
and one lemma says what taking a judged request does to the state. -/

namespace Sys2Proof.Machine

/-! ### The queue -/

theorem insertMark_append {m : Mark} {as bs : List Mark} (has : ∀ k ∈ as, k.target < m.target)
    (hbs : ∀ k ∈ bs, m.target < k.target) : insertMark m (as ++ bs) = as ++ m :: bs := by
  induction as with
  | nil =>
    cases bs with
    | nil => rfl
    | cons b bs => exact if_pos (hbs b List.mem_cons_self)
  | cons a as ih =>
    obtain ⟨ha, has⟩ := List.forall_mem_cons.mp has
    rw [List.cons_append, insertMark, if_neg (by omega), ih has, List.cons_append]

theorem raise_eq_min {greatest c : Nat} (h : c ≤ greatest) : raise greatest c = min greatest (c + 1) := by
  unfold raise
  split <;> omega

theorem absorbAt_of_forall_ne {target : Int} {q : List Mark} (h : ∀ k ∈ q, k.target ≠ target) : absorbAt target q = q :=
  (List.map_congr_left fun k hk => if_neg (h k hk)).trans (List.map_id' q)

theorem absorbAt_append_cons {as bs : List Mark} {m : Mark}
    (hasc : ((as ++ m :: bs).map Mark.target).Pairwise (· < ·)) :
    absorbAt m.target (as ++ m :: bs) = as ++ { m with merged := raise 255 m.merged } :: bs := by
  rw [List.pairwise_map, List.pairwise_append, List.pairwise_cons] at hasc
  obtain ⟨-, ⟨hbs, -⟩, has⟩ := hasc
  have hbefore : absorbAt m.target as = as :=
    absorbAt_of_forall_ne fun k hk => (has k hk m List.mem_cons_self).ne
  have hafter : absorbAt m.target bs = bs := absorbAt_of_forall_ne fun k hk => (hbs k hk).ne'
  rw [absorbAt] at hbefore hafter ⊢
  rw [List.map_append, List.map_cons, hbefore, hafter, if_pos rfl]

/-! ### The absorbing mark -/

theorem nearestMark_eq_argmin (target : Int) (merge : Nat) (q : List Mark) :
    nearestMark target merge q =
      (q.filter fun m => decide ((m.target - target).natAbs ≤ merge)).argmin fun m => (m.target - target).natAbs := by
  unfold nearestMark List.argmin
  congr 1
  funext best m
  cases best <;> rfl

/-- Of a first part further off, a mark within the merge distance, and a last part no nearer, the mark absorbs: on equal
distance the earlier one, which in an ascending queue has the lower target. -/
theorem nearestMark_append_cons {target : Int} {merge : Nat} {as bs : List Mark} {m : Mark}
    (hm : (m.target - target).natAbs ≤ merge)
    (has : ∀ k ∈ as, (m.target - target).natAbs < (k.target - target).natAbs)
    (hbs : ∀ k ∈ bs, (m.target - target).natAbs ≤ (k.target - target).natAbs) :
    nearestMark target merge (as ++ m :: bs) = some m := by
  rw [nearestMark_eq_argmin, List.filter_append, List.filter_cons_of_pos (by simpa using hm), List.argmin_eq_some_iff]
  have hfurther : ∀ k ∈ as.filter fun m => decide ((m.target - target).natAbs ≤ merge),
      (m.target - target).natAbs < (k.target - target).natAbs := fun k hk => has k (List.mem_of_mem_filter hk)
  have hnot : ∀ k, (k.target - target).natAbs ≤ (m.target - target).natAbs →
      k ∉ as.filter fun m => decide ((m.target - target).natAbs ≤ merge) := fun k hle hk => (hfurther k hk).not_ge hle
  refine ⟨List.mem_append_right _ List.mem_cons_self, fun k hk => ?least, fun k _ hle => ?first⟩
  case least =>
    rcases List.mem_append.mp hk with hk | hk
    · exact (hfurther k hk).le
    · rcases List.mem_cons.mp hk with rfl | hk
      · exact le_rfl
      · exact hbs k (List.mem_of_mem_filter hk)
  case first =>
    rw [List.idxOf_append_of_notMem (hnot m le_rfl), List.idxOf_append_of_notMem (hnot k hle), List.idxOf_cons_self]
    omega

theorem nearestMark_eq_none {target : Int} {merge : Nat} {q : List Mark}
    (h : ∀ k ∈ q, merge < (k.target - target).natAbs) : nearestMark target merge q = none := by
  rw [nearestMark_eq_argmin, List.argmin_eq_none, List.filter_eq_nil_iff]
  intro k hk
  simpa using h k hk

/-! ### The lines of the table (R146) -/

section
variable {r : Rail} {q : MarkRequest} {merge : Nat} {u : MarkingUnit}

theorem judgeRequest_late (h : q.target ≤ u.gun) :
    judgeRequest r q merge u =
      (u.queue, ⟨r, .late, q.finding, q.target, none, 0, some u.gun, u.queue.length⟩) :=
  if_pos h

theorem judgeRequest_merged {m : Mark} (hgun : u.gun < q.target) (h : nearestMark q.target merge u.queue = some m) :
    judgeRequest r q merge u =
      (absorbAt m.target u.queue,
        ⟨r, .merged, q.finding, q.target, some ⟨m.finding, m.target⟩, 0, none, u.queue.length⟩) := by
  rw [judgeRequest, if_neg (not_le.mpr hgun), h]

theorem judgeRequest_full (hgun : u.gun < q.target) (h : nearestMark q.target merge u.queue = none)
    (hfull : 16 ≤ u.queue.length) :
    judgeRequest r q merge u =
      (u.queue, ⟨r, .full, q.finding, q.target, none, 0, none, u.queue.length⟩) := by
  rw [judgeRequest, if_neg (not_le.mpr hgun), h]
  exact if_pos hfull

theorem judgeRequest_queued (hgun : u.gun < q.target) (h : nearestMark q.target merge u.queue = none)
    (hroom : u.queue.length < 16) :
    judgeRequest r q merge u =
      (insertMark ⟨q.target, q.finding, 0⟩ u.queue,
        ⟨r, .queued, q.finding, q.target, none, 0, none, u.queue.length + 1⟩) := by
  rw [judgeRequest, if_neg (not_le.mpr hgun), h]
  exact if_neg (not_le.mpr hroom)

end

/-! ### Taking a request -/

/-- A judged request leaves the input, the queue is the one the judging gives, and its one MARK record is offered. -/
theorem exec_markRequest_of_judgeRequest {s : State} {r : Rail} {q : MarkRequest} {rest : List MarkRequest}
    {queue : List Mark} {record : MarkRecord} (hreq : (s.marking.get r).requests = q :: rest)
    (hj : judgeRequest r q (s.setup.rails.get r).merge (s.marking.get r) = (queue, record)) :
    exec (.markRequest r) s = .next
      { s with
        marking := s.marking.set r { s.marking.get r with requests := rest, queue := queue }
        line := s.line.hear [.offer (.mark record)] } := by
  have harm : exec (.markRequest r) s = .next (markRequest r s) := rfl
  simp only [harm, markRequest, hreq, hj]
  rfl

/-- Settles O34: the lines of the table in their order, each by its equation of `judgeRequest`. -/
theorem aMarkRequestIsJudged : Obligations.AMarkRequestIsJudged := by
  rintro s r q rest u w rfl hreq rfl hasc
  refine ⟨fun hlate => ?late, fun as bs m hgun hq hm has hbs hcount => ?merged,
    fun hgun hfar => ⟨fun hfull => ?full, fun as bs hroom hq has hbs => ?queued⟩⟩
  case late => exact exec_markRequest_of_judgeRequest hreq (judgeRequest_late hlate)
  case merged =>
    have hnearest := nearestMark_append_cons hm has hbs
    rw [← hq] at hnearest
    have hqueue := hq ▸ absorbAt_append_cons (hq ▸ hasc)
    rw [exec_markRequest_of_judgeRequest hreq (judgeRequest_merged hgun hnearest), hqueue, raise_eq_min hcount]
  case full =>
    exact exec_markRequest_of_judgeRequest hreq (judgeRequest_full hgun (nearestMark_eq_none hfar) hfull)
  case queued =>
    have hqueue : insertMark ⟨q.target, q.finding, 0⟩ (s.marking.get r).queue = _ := hq ▸ insertMark_append has hbs
    rw [exec_markRequest_of_judgeRequest hreq (judgeRequest_queued hgun (nearestMark_eq_none hfar) hroom), hqueue]

end Sys2Proof.Machine
end

section
/-! PROOFS. The signal lines (R154 to R156, O36). A line's active state is its source's condition where it has one and
its stretch timer otherwise; the coupling conditions are read off the twelve channels of a rail. -/

namespace Sys2Proof.Machine

/-! ### The coupling conditions -/

theorem RouterView.anyUncoupled_iff {v : RouterView} {r : Rail} :
    v.anyUncoupled r = true ↔ ∃ ch : Channel, (v.coupling.get r)[ch] = .uncoupled := by
  simp [anyUncoupled]

theorem Rail.forall_iff {p : Rail → Prop} : (∀ r, p r) ↔ p .left ∧ p .right :=
  ⟨fun h => ⟨h .left, h .right⟩, fun h r => by cases r; exacts [h.1, h.2]⟩

theorem Rail.exists_iff {p : Rail → Prop} : (∃ r, p r) ↔ p .left ∨ p .right :=
  ⟨fun ⟨r, h⟩ => by cases r; exacts [.inl h, .inr h], fun h => h.elim (⟨_, ·⟩) (⟨_, ·⟩)⟩

theorem RouterView.allCoupled_iff {v : RouterView} :
    v.allCoupled = true ↔
      (∀ r (ch : Channel), (v.coupling.get r)[ch] = .coupled ∨ (v.coupling.get r)[ch] = .inactive) ∧
        ∃ r, ∃ ch : Channel, (v.coupling.get r)[ch] = .coupled := by
  rw [Rail.forall_iff, Rail.exists_iff]
  simp [allCoupled, Rails.get]

/-! ### The active state and the output -/

theorem State.lineActive_eq_getD (s : State) (l : SignalLine) :
    s.lineActive l =
      (s.router.view.condition s.setup.signals.speedLimit s.setup.signals.routes[l].source).getD
        s.router.stretchEnd[l].isSome := by
  rw [lineActive]
  cases s.router.view.condition s.setup.signals.speedLimit s.setup.signals.routes[l].source <;> rfl

theorem State.lineActive_of_condition {s : State} {l : SignalLine} {x : Source} {b : Bool}
    (hx : s.setup.signals.routes[l].source = x)
    (hc : s.router.view.condition s.setup.signals.speedLimit x = some b) : s.lineActive l = b := by
  rw [lineActive_eq_getD, hx, hc, Option.getD_some]

theorem RouterView.condition_eq_none {v : RouterView} {limit : Nat} {x : Source}
    (hx : x ∈ [Source.findingLeft, .findingRight, .findingAny, .skip]) : v.condition limit x = none := by
  simp only [List.mem_cons, List.not_mem_nil, or_false] at hx
  rcases hx with rfl | rfl | rfl | rfl <;> rfl

theorem State.lineActive_of_pulse {s : State} {l : SignalLine}
    (hx : s.setup.signals.routes[l].source ∈ [Source.findingLeft, .findingRight, .findingAny, .skip]) :
    s.lineActive l = s.router.stretchEnd[l].isSome := by
  rw [lineActive_eq_getD, RouterView.condition_eq_none hx, Option.getD_none]

theorem State.lineDriven_iff {s : State} {l : SignalLine} :
    s.lineDriven l = true ↔
      (s.lineActive l = true ∧ s.setup.signals.routes[l].invert = false) ∨
        (s.lineActive l = false ∧ s.setup.signals.routes[l].invert = true) := by
  rw [lineDriven]
  cases s.lineActive l <;> cases s.setup.signals.routes[l].invert <;> decide

/-- Settles O36: a source with a condition gives the line that condition, a pulse source its stretch timer. -/
theorem theSignalLinesAreDriven : Obligations.TheSignalLinesAreDriven := by
  refine ⟨?active, fun _ _ => State.lineDriven_iff⟩
  case active =>
    rintro s l v rfl
    refine ⟨?off, ?on, ?uncoupledLeft, ?uncoupledRight, ?allCoupled, ?sprayLeft, ?sprayRight, ?overspeed, ?hostSilent,
      ?running, State.lineActive_of_pulse⟩
    case uncoupledLeft =>
      intro hx
      rw [State.lineActive_of_condition hx rfl]
      exact RouterView.anyUncoupled_iff
    case uncoupledRight =>
      intro hx
      rw [State.lineActive_of_condition hx rfl]
      exact RouterView.anyUncoupled_iff
    case allCoupled =>
      intro hx
      rw [State.lineActive_of_condition hx rfl]
      exact RouterView.allCoupled_iff
    all_goals exact fun hx => State.lineActive_of_condition hx rfl

end Sys2Proof.Machine
end

section
/-! PROOFS. The next state of every command, and its frame (O1, O2, O3). Each function of the model gets one lemma that
names the parts of State it may touch; the frame of a command is that of the function its arm calls. -/

namespace Sys2Proof.Machine

/-! ### The next state -/

/-- The state a command answers; no command answers anything else (`exec_eq_next`). -/
def nextState (c : Instr) (s : State) : State :=
  match exec c s with
  | .next t => t
  | .fault _ => s
  | .refused _ => s

theorem exec_eq_next (c : Instr) (s : State) : exec c s = .next (nextState c s) := by
  cases c <;> rfl

theorem nextState_eq {c : Instr} {s t : State} (h : exec c s = .next t) : nextState c s = t := by
  rw [exec_eq_next] at h
  exact Host.Outcome.next.inj h

theorem exec_eq_next_iff {c : Instr} {s t : State} : exec c s = .next t ↔ nextState c s = t :=
  ⟨nextState_eq, fun h => h ▸ exec_eq_next c s⟩

/-- Settles O1: both clauses are the two branches of `step`. -/
theorem stepRunsTheHeadCommand : Obligations.StepRunsTheHeadCommand :=
  ⟨fun _ _ _ => rfl, fun s h => by simp [step, h, tick]⟩

/-- Settles O2: every arm of `exec` answers a next state. -/
theorem everyCommandAnswersANextState : Obligations.EveryCommandAnswersANextState :=
  fun c s => ⟨nextState c s, exec_eq_next c s⟩

/-! ### The landmark list -/

theorem touches_frontierRetirement (s : State) : TouchesOnly [.landmarks] s (frontierRetirement s) := by
  unfold frontierRetirement
  split <;> simp

theorem touches_addLandmarks (entries : List LandmarkFields) (f : Frame) (s : State) :
    TouchesOnly [.landmarks, .line] s (addLandmarks entries f s) := by
  simp only [addLandmarks]
  split
  · simp
  · split <;> simp

/-! ### The tracker -/

theorem touches_trackerHit (r : Rail) (s : State) : TouchesOnly [.tracker r] s (trackerHit r s) := by
  unfold trackerHit
  split
  · split <;> simp [dropTracker]
  · simp

theorem touches_closeTraces (r : Rail) (which : Trace → Bool) (s : State) :
    TouchesOnly [.tracker r, .assembler r] s (closeTraces r which s) := by
  refine TouchesOnly.foldl (fun s i => ?_) _ s
  simp only [closeTrace]
  split
  · simp
  · split
    · split <;> simp
    · simp

@[simp] theorem peel_dropTracker {ps : List Part} {s0 : State} (r : Rail) (h : Part.tracker r ∈ ps) (s : State) :
    TouchesOnly ps s0 (dropTracker r s) ↔ TouchesOnly ps s0 s := by
  simp [dropTracker, h]

@[simp] theorem peel_closeTraces {ps : List Part} {s0 : State} (r : Rail) (h : Part.tracker r ∈ ps)
    (k : Part.assembler r ∈ ps) (which : Trace → Bool) (s : State) :
    TouchesOnly ps s0 (closeTraces r which s) ↔ TouchesOnly ps s0 s :=
  ((touches_closeTraces r which s).mono (by simp [h, k])).peel

theorem touches_channelEndNotice (r : Rail) (s : State) :
    TouchesOnly [.tracker r, .assembler r] s (channelEndNotice r s) := by
  unfold channelEndNotice
  split <;> simp

theorem touches_trackerCompletionNotice (r : Rail) (s : State) :
    TouchesOnly [.tracker r, .assembler r] s (trackerCompletionNotice r s) := by
  unfold trackerCompletionNotice
  split <;> simp

theorem touches_trackerCommitLeaving (r : Rail) (s : State) :
    TouchesOnly [.tracker r, .assembler r] s (trackerCommitLeaving r s) := by
  unfold trackerCommitLeaving
  split
  · rw [peel_foldl _ (fun s ch => touches_closeTraces r _ s)]; simp
  · simp

theorem touches_trackerFlushNotice (r : Rail) (s : State) :
    TouchesOnly [.tracker r, .assembler r] s (trackerFlushNotice r s) := by
  unfold trackerFlushNotice
  split <;> simp

theorem touches_trackerDrainNotice (r : Rail) (s : State) :
    TouchesOnly [.tracker r, .assembler r] s (trackerDrainNotice r s) := by
  unfold trackerDrainNotice
  split <;> simp

/-! ### The finding assembler -/

@[simp] theorem peel_dropAssembler {ps : List Part} {s0 : State} (r : Rail) (h : Part.assembler r ∈ ps) (s : State) :
    TouchesOnly ps s0 (dropAssembler r s) ↔ TouchesOnly ps s0 s := by
  simp [dropAssembler, h]

theorem touches_reportFinding (r : Rail) (how : ClosedBy) (f : Finding) (v : Verdict) (a : ReportAction) (s : State) :
    TouchesOnly (Part.closing r) s (reportFinding r how f v a s) := by
  simp only [reportFinding]
  split <;> simp [Part.closing]

theorem touches_closeFinding (r : Rail) (how : ClosedBy) (s : State) (x : Fin 16 × Finding) :
    TouchesOnly (Part.closing r) s (closeFinding r how s x) := by
  have hc : TouchesOnly (Part.closing r) s (classify r x.2 s).1 :=
    (touches_classify r x.2 s).mono (by simp [Part.closing])
  simp only [closeFinding]
  refine hc.trans ?_
  split
  · rename_i a _
    refine (touches_reportFinding r how x.2 (classify r x.2 s).2 a _).trans ?_
    simp [Part.closing]
  · simp [Part.closing]

theorem touches_closeFindings (r : Rail) (how : ClosedBy) (which : Finding → Bool) (s : State) :
    TouchesOnly (Part.closing r) s (closeFindings r how which s) :=
  TouchesOnly.foldl (touches_closeFinding r how) _ s

theorem touches_dropAssembler (r : Rail) (s : State) : TouchesOnly (Part.closing r) s (dropAssembler r s) := by
  simp [Part.closing]

theorem touches_joinIndication (r : Rail) (i : Contribution) (s : State) :
    TouchesOnly (Part.closing r) s (joinIndication r i s) := by
  simp only [joinIndication]
  split
  · unfold openFinding
    split
    · simp [State.setSlot, Part.closing]
    · split
      · rename_i x _
        exact (touches_closeFinding r .forced s x).trans (by simp [State.setSlot, Part.closing])
      · simp
  · simp [Part.closing]

theorem touches_takeIndication (r : Rail) (s : State) : TouchesOnly (Part.closing r) s (takeIndication r s) := by
  unfold takeIndication
  split
  · exact (touches_dropAssembler r s).trans (touches_joinIndication r _ _)
  · simp

theorem touches_settleCheck (r : Rail) (s : State) : TouchesOnly (Part.closing r) s (settleCheck r s) := by
  unfold settleCheck
  split
  · exact (touches_dropAssembler r s).trans (touches_closeFindings _ _ _ _)
  · simp

theorem touches_assemblerFlushNotice (r : Rail) (s : State) :
    TouchesOnly (Part.closing r) s (assemblerFlushNotice r s) := by
  unfold assemblerFlushNotice
  split
  · exact (touches_dropAssembler r s).trans (touches_closeFindings _ _ _ _)
  · simp

theorem touches_assemblerDrainNotice (r : Rail) (s : State) :
    TouchesOnly (Part.closing r) s (assemblerDrainNotice r s) := by
  unfold assemblerDrainNotice
  split
  · refine ((touches_dropAssembler r s).trans (touches_closeFindings r .drain (fun _ => true) _)).trans ?_
    simp [Part.closing]
  · simp

/-! ### The echo processor -/

@[simp] theorem peel_dropEcho {ps : List Part} {s0 : State} (r : Rail) (h : Part.echo r ∈ ps) (s : State) :
    TouchesOnly ps s0 (dropEcho r s) ↔ TouchesOnly ps s0 s := by
  simp [dropEcho, h]

/-- What processing a completion or a commit may touch. -/
def Part.processing (r : Rail) : List Part := [.echo r, .tracker r, .line, .router]

theorem touches_captureSnapshot (r : Rail) (pf : Int) (c : CompletedChannel) (i : Option Hit) (s : State) :
    TouchesOnly [.echo r, .line] s (captureSnapshot r pf c i s) := by
  unfold captureSnapshot
  split <;> simp

theorem touches_coverChannel (r : Rail) (pf : Int) (c : CompletedChannel) (pass blanked : Bool) (s : State) :
    TouchesOnly [.echo r, .line, .router] s (coverChannel r pf c pass blanked s) := by
  simp [coverChannel]

theorem touches_sortHit (r : Rail) (pf : Int) (c : CompletedChannel) (fate : Option Bool) (res : GateResult) (s : State)
    (g : Gate) : TouchesOnly [.tracker r, .line] s (sortHit r pf c fate res s g) := by
  unfold sortHit
  split <;> simp [keepHit]

theorem touches_processChannel (r : Rail) (pf : Int) (s : State) (c : CompletedChannel) :
    TouchesOnly (Part.processing r) s (processChannel r pf s c) := by
  simp only [processChannel]
  rw [peel_toTracker r (by simp [Part.processing]),
    peel_foldl _ (fun s g => (touches_sortHit r pf c _ _ s g).mono (by simp [Part.processing]))]
  exact ((touches_captureSnapshot _ _ _ _ _).mono (by simp [Part.processing])).trans
    ((touches_coverChannel _ _ _ _ _ _).mono (by simp [Part.processing]))

theorem touches_completionProcessing (r : Rail) (s : State) :
    TouchesOnly (Part.processing r) s (completionProcessing r s) := by
  unfold completionProcessing
  split
  · rw [peel_toTracker r (by simp [Part.processing]), peel_foldl _ (touches_processChannel r _)]
    simp [Part.processing]
  · simp

theorem touches_cancelSnapshot (r : Rail) (s : State) : TouchesOnly [.echo r, .line] s (cancelSnapshot r s) := by
  unfold cancelSnapshot
  split <;> simp

@[simp] theorem peel_cancelSnapshot {ps : List Part} {s0 : State} (r : Rail) (h : Part.echo r ∈ ps) (k : Part.line ∈ ps)
    (s : State) : TouchesOnly ps s0 (cancelSnapshot r s) ↔ TouchesOnly ps s0 s :=
  ((touches_cancelSnapshot r s).mono (by simp [h, k])).peel

/-- Cutting a stretch leaves the coupling state, so nothing is handed to the router. -/
theorem touches_cutStretch (r : Rail) (s : State) (ch : Channel) : TouchesOnly [.echo r, .line] s (cutStretch r s ch) := by
  simp only [cutStretch]
  split
  · simp
  · simp [State.setCover]

theorem touches_leavePlan (r : Rail) (s : State) (ch : Channel) : TouchesOnly (Part.processing r) s (leavePlan r s ch) := by
  have hcut := (touches_cutStretch r s ch).mono (qs := Part.processing r) (by simp [Part.processing])
  simp only [leavePlan]
  split
  · rw [peel_cancelSnapshot r (by simp [Part.processing]) (by simp [Part.processing]),
      peel_setCover r (by simp [Part.processing]) (by simp [Part.processing]) (by simp [Part.processing])]
    exact hcut
  · rw [peel_setCover r (by simp [Part.processing]) (by simp [Part.processing]) (by simp [Part.processing])]
    exact hcut

theorem touches_commitHandover (r : Rail) (s : State) : TouchesOnly (Part.processing r) s (commitHandover r s) := by
  unfold commitHandover
  split
  · rw [peel_foldl _ (fun s ch => by simp [joinPlan, Part.processing]), peel_foldl _ (touches_leavePlan r)]
    simp [Part.processing]
  · simp

theorem touches_echoFlushNotice (r : Rail) (s : State) : TouchesOnly [.echo r, .tracker r] s (echoFlushNotice r s) := by
  unfold echoFlushNotice
  split <;> simp

theorem touches_echoDrainNotice (r : Rail) (s : State) :
    TouchesOnly [.echo r, .tracker r, .line] s (echoDrainNotice r s) := by
  unfold echoDrainNotice
  split
  · rw [peel_toTracker r (by simp), peel_foldl _ (fun s ch => (touches_cutStretch r s ch).mono (by simp))]
    simp
  · simp

/-! ### The firing unit -/

theorem touches_startGroup (r : Rail) (q : PitchRequest) (s : State) : TouchesOnly [.firing r, .echo r] s (startGroup r q s) := by
  simp [startGroup]

@[simp] theorem peel_startGroup {ps : List Part} {s0 : State} (r : Rail) (h : Part.firing r ∈ ps) (k : Part.echo r ∈ ps)
    (q : PitchRequest) (s : State) : TouchesOnly ps s0 (startGroup r q s) ↔ TouchesOnly ps s0 s :=
  ((touches_startGroup r q s).mono (by simp [h, k])).peel

@[simp] theorem peel_takeRequestBound {ps : List Part} {s0 : State} (r : Rail) (h : Part.firing r ∈ ps)
    (k : Part.echo r ∈ ps) (m : Part.router ∈ ps) (q : PitchRequest) (s : State) :
    TouchesOnly ps s0 (takeRequestBound r q s) ↔ TouchesOnly ps s0 s := by
  simp only [takeRequestBound]
  split
  · simp [h, k]
  · split <;> simp [h, m]

theorem touches_bindPitch (r : Rail) (b : Int) (s : State) : TouchesOnly [.firing r, .echo r, .router] s (bindPitch r b s) := by
  simp only [bindPitch]
  split <;> simp

@[simp] theorem peel_bindPitch {ps : List Part} {s0 : State} (r : Rail) (h : Part.firing r ∈ ps) (k : Part.echo r ∈ ps)
    (m : Part.router ∈ ps) (b : Int) (s : State) : TouchesOnly ps s0 (bindPitch r b s) ↔ TouchesOnly ps s0 s :=
  ((touches_bindPitch r b s).mono (by simp [h, k, m])).peel

theorem touches_pitchEvent (r : Rail) (s : State) :
    TouchesOnly [.firing r, .setup, .echo r, .router] s (pitchEvent r s) := by
  unfold pitchEvent
  split
  · simp
  · simp only
    split
    · split
      · split <;> simp [commitPlan, State.setPlan]
      · simp
    · simp

@[simp] theorem peel_sendDrainNotice {ps : List Part} {s0 : State} (r : Rail) (h : Part.echo r ∈ ps) (s : State) :
    TouchesOnly ps s0 (sendDrainNotice r s) ↔ TouchesOnly ps s0 s := by
  unfold sendDrainNotice
  split <;> simp [h]

theorem touches_groupCompletion (r : Rail) (l : LaneSamples) (s : State) :
    TouchesOnly [.now, .firing r, .echo r] s (groupCompletion r l s) := by
  unfold groupCompletion
  split
  · simp
  · simp only
    split <;> simp

/-! ### The line interface -/

theorem touches_discardFrame (s : State) : TouchesOnly [.line] s (discardFrame s) := by simp [discardFrame]

theorem touches_acceptFrame (body : List Byte) (s : State) : TouchesOnly [.line, .router] s (acceptFrame body s) := by
  simp only [acceptFrame]
  split <;> simp

theorem touches_lineByteReceived (b : Byte) (stop : Bool) (s : State) :
    TouchesOnly [.line, .router] s (lineByteReceived b stop s) := by
  unfold lineByteReceived applyByte
  split
  · simp
  · exact touches_acceptFrame _ _
  · exact (touches_discardFrame s).mono (by simp)

theorem touches_frameReceived (b : Byte) (s : State) : TouchesOnly [.line, .router] s (frameReceived b s) := by
  unfold frameReceived
  split
  · exact touches_acceptFrame _ _
  · simp
  · simp

theorem touches_frameError (b : Byte) (stop : Bool) (s : State) : TouchesOnly [.line] s (frameError b stop s) := by
  unfold frameError
  split
  · exact touches_discardFrame s
  · simp
  · simp

theorem touches_interByteTimeout (s : State) : TouchesOnly [.line] s (interByteTimeout s) := by
  unfold interByteTimeout
  split
  · exact touches_discardFrame s
  · simp

theorem touches_unknownRequest (s : State) : TouchesOnly [.line] s (unknownRequest s) := by
  unfold unknownRequest
  split
  · simp
  · split <;> simp

@[simp] theorem peel_refill {ps : List Part} {s0 : State} (h : Part.line ∈ ps) (s : State) :
    TouchesOnly ps s0 (refill s) ↔ TouchesOnly ps s0 s := by
  unfold refill
  split <;> simp [h]

@[simp] theorem peel_appendRecord {ps : List Part} {s0 : State} (h : Part.line ∈ ps) (x : Record) (s : State) :
    TouchesOnly ps s0 (appendRecord x s) ↔ TouchesOnly ps s0 s := by
  simp only [appendRecord, joinAppended]
  split
  · simp [h]
  · simp [h]
  · split <;> simp [h]

@[simp] theorem peel_loseRecord {ps : List Part} {s0 : State} (h : Part.line ∈ ps) (s : State) :
    TouchesOnly ps s0 (loseRecord s) ↔ TouchesOnly ps s0 s := by
  simp only [loseRecord]
  split <;> simp [h]

@[simp] theorem peel_takeOffer {ps : List Part} {s0 : State} (h : Part.line ∈ ps) (x : Record) (s : State) :
    TouchesOnly ps s0 (takeOffer x s) ↔ TouchesOnly ps s0 s := by
  simp only [takeOffer, displace]
  split
  · split <;> simp [h]
  · split
    · simp [h]
    · split <;> simp [h]

theorem touches_recordOffer (s : State) : TouchesOnly [.line] s (recordOffer s) := by
  unfold recordOffer
  split
  · simp only
    split <;> simp
  · simp

theorem touches_bundleFlushExpiry (s : State) : TouchesOnly [.now, .line] s (bundleFlushExpiry s) := by
  unfold bundleFlushExpiry
  split <;> simp

theorem touches_sendReply (s : State) : TouchesOnly [.line] s (sendReply s) := by
  unfold sendReply
  split <;> simp

theorem touches_sendBundle (s : State) : TouchesOnly [.line] s (sendBundle s) := by
  unfold sendBundle
  split <;> simp

@[simp] theorem peel_offerStatus {ps : List Part} {s0 : State} (h : Part.line ∈ ps) (cause : StatusCause) (s : State) :
    TouchesOnly ps s0 (offerStatus cause s) ↔ TouchesOnly ps s0 s := by
  simp [offerStatus, h]

theorem touches_changeHandover (s : State) : TouchesOnly [.line] s (changeHandover s) := by
  unfold changeHandover
  split
  · simp only
    split <;> simp
  · simp

theorem touches_statusTimerExpiry (s : State) : TouchesOnly [.now, .line] s (statusTimerExpiry s) := by
  unfold statusTimerExpiry
  split <;> simp

theorem touches_silenceExpiry (s : State) : TouchesOnly [.now, .line, .router] s (silenceExpiry s) := by
  unfold silenceExpiry
  split <;> simp

@[simp] theorem peel_applyReporting {ps : List Part} {s0 : State} (h : Part.setup ∈ ps) (k : Part.line ∈ ps)
    (m : Part.router ∈ ps) (new : ReportingSettings) (s : State) :
    TouchesOnly ps s0 (applyReporting new s) ↔ TouchesOnly ps s0 s := by
  simp only [applyReporting]
  split <;> simp [h, k, m]

theorem touches_setReporting (q : ReportingFields) (f : Frame) (s : State) :
    TouchesOnly [.setup, .line, .router] s (setReporting q f s) := by
  unfold setReporting
  split
  · simp
  · split <;> simp

/-! ### The marking unit -/

theorem touches_fireReached (r : Rail) (gun : Int) (q : List Mark) (s : State) :
    TouchesOnly [.marking r, .line, .router] s (fireReached r gun q s) := by
  induction q generalizing s with
  | nil => simp [fireReached]
  | cons m rest ih =>
    unfold fireReached
    split
    · exact TouchesOnly.trans (by simp [fireMark]) (ih _)
    · simp

theorem touches_carPositionChange (r : Rail) (s : State) :
    TouchesOnly [.marking r, .line, .router] s (carPositionChange r s) := by
  unfold carPositionChange
  split
  · simp
  · simp only
    split
    · exact TouchesOnly.trans (by simp) (touches_fireReached _ _ _ _)
    · simp

theorem touches_markRequest (r : Rail) (s : State) : TouchesOnly [.marking r, .line] s (markRequest r s) := by
  unfold markRequest
  split <;> simp

theorem touches_sprayEnd (r : Rail) (s : State) : TouchesOnly [.now, .marking r, .router] s (sprayEnd r s) := by
  unfold sprayEnd
  split <;> simp

@[simp] theorem peel_discardMarks {ps : List Part} {s0 : State} (r : Rail) (h : Part.marking r ∈ ps) (k : Part.line ∈ ps)
    (s : State) : TouchesOnly ps s0 (discardMarks r s) ↔ TouchesOnly ps s0 s := by
  simp [discardMarks, h, k]

/-! ### The operations -/

/-- What an operation's end may touch besides the setup and the clock. -/
def Part.operating (r : Rail) : List Part := [.run, .firing r, .line, .router]

@[simp] theorem peel_startOperationFiring {ps : List Part} {s0 : State} (r : Rail) (h : Part.firing r ∈ ps)
    (k : Part.run ∈ ps) (ch : Channel) (s : State) :
    TouchesOnly ps s0 (startOperationFiring r ch s) ↔ TouchesOnly ps s0 s := by
  simp [startOperationFiring, h, k]

@[simp] theorem peel_setMode {ps : List Part} {s0 : State} (r : Rail) (h : Part.firing r ∈ ps) (m : TimeMode)
    (e : Option TestEcho) (s : State) : TouchesOnly ps s0 (setMode r m e s) ↔ TouchesOnly ps s0 s := by
  simp [setMode, h]

@[simp] theorem peel_endOperation {ps : List Part} {s0 : State} (r : Rail) (h : Part.firing r ∈ ps)
    (k : Part.run ∈ ps) (m : Part.line ∈ ps) (n : Part.router ∈ ps) (s : State) :
    TouchesOnly ps s0 (endOperation r s) ↔ TouchesOnly ps s0 s := by
  simp [endOperation, h, k, m, n]

/-- The firing unit of either rail stands among the parts of an operation's commands. -/
theorem Part.firing_mem {ps : List Part} (hl : Part.firing .left ∈ ps) (hr : Part.firing .right ∈ ps) (r : Rail) :
    Part.firing r ∈ ps := by
  cases r
  · exact hl
  · exact hr

theorem touches_calChannel (q : CalFields) (f : Frame) (s : State) :
    TouchesOnly [.run, .firing .left, .firing .right, .line, .router] s (calChannel q f s) := by
  have hf := Part.firing_mem (ps := [.run, .firing .left, .firing .right, .line, .router]) (by simp) (by simp)
  simp only [calChannel]
  split
  · split
    · split
      · simp
      · simp [beginCal, hf]
    · simp
  · simp

theorem touches_calFiringStart (s : State) :
    TouchesOnly [.now, .run, .firing .left, .firing .right] s (calFiringStart s) := by
  have hf := Part.firing_mem (ps := [.now, .run, .firing .left, .firing .right]) (by simp) (by simp)
  unfold calFiringStart
  split
  · split <;> simp [hf]
  · simp

/-- What the end of a calibration step may touch. -/
def Part.calibrating : List Part := [.now, .setup, .run, .firing .left, .firing .right, .line, .router]

theorem touches_endCal (c : CalStep) (s : State) : TouchesOnly Part.calibrating s (endCal c s) := by
  have hf := Part.firing_mem (ps := Part.calibrating) (by simp [Part.calibrating]) (by simp [Part.calibrating]) c.rail
  have hr : Part.run ∈ Part.calibrating := by simp [Part.calibrating]
  have hl : Part.line ∈ Part.calibrating := by simp [Part.calibrating]
  have ho : Part.router ∈ Part.calibrating := by simp [Part.calibrating]
  have hs : Part.setup ∈ Part.calibrating := by simp [Part.calibrating]
  unfold endCal
  split
  · split
    · simp [hf, hr, hl, ho]
    · simp only
      split <;> simp [hf, hr, hl, ho, hs, State.setChannelRecord]
  · split <;> simp [hf, hr, hl, ho]

theorem touches_calFiringCompletion (signal : List Nat) (s : State) :
    TouchesOnly Part.calibrating s (calFiringCompletion signal s) := by
  have hf := Part.firing_mem (ps := Part.calibrating) (by simp [Part.calibrating]) (by simp [Part.calibrating])
  have hr : Part.run ∈ Part.calibrating := by simp [Part.calibrating]
  have hn : Part.now ∈ Part.calibrating := by simp [Part.calibrating]
  unfold calFiringCompletion
  split
  · split
    · simp
    · simp only
      split
      · simp [hf, hr, hn]
      · split
        · exact TouchesOnly.trans (by simp [hf, hn]) (touches_endCal _ _)
        · simp
  · simp

theorem touches_verify (q : VerifyFields) (f : Frame) (s : State) :
    TouchesOnly [.run, .firing .left, .firing .right, .line, .router] s (verify q f s) := by
  have hf := Part.firing_mem (ps := [.run, .firing .left, .firing .right, .line, .router]) (by simp) (by simp)
  unfold verify
  split
  · simp
  · split
    · simp
    · split
      · simp
      · split
        · simp
        · simp only [beginVerify]
          split <;> simp [hf]

theorem touches_verifyFiringStart (s : State) :
    TouchesOnly [.now, .run, .firing .left, .firing .right] s (verifyFiringStart s) := by
  have hf := Part.firing_mem (ps := [.now, .run, .firing .left, .firing .right]) (by simp) (by simp)
  unfold verifyFiringStart
  split
  · split <;> simp [hf]
  · simp

theorem touches_verifyFiringCompletion (s : State) :
    TouchesOnly [.now, .run, .firing .left, .firing .right, .line, .router] s (verifyFiringCompletion s) := by
  have hf := Part.firing_mem (ps := [.now, .run, .firing .left, .firing .right, .line, .router]) (by simp) (by simp)
  unfold verifyFiringCompletion
  split
  · split
    · simp
    · simp only
      split
      · simp [hf]
      · split <;> simp [hf]
  · simp

/-! ### The settings requests -/

theorem touches_setChannel (q : ChannelFields) (f : Frame) (s : State) :
    TouchesOnly [.setup, .run, .line] s (setChannel q f s) := by
  unfold setChannel
  split
  · split
    · simp
    · simp only [takeChannel]
      split <;> simp [State.setChannelRecord]
  · simp

theorem touches_readChannel (f : Frame) (s : State) : TouchesOnly [.line] s (readChannel f s) := by
  unfold readChannel
  split <;> simp

/-- What a plan taken may touch. -/
def Part.planning : List Part := [.setup, .firing .left, .firing .right, .echo .left, .echo .right, .line, .router]

theorem touches_takePlan (r : Rail) (p : Plan) (s : State) : TouchesOnly Part.planning s (takePlan r p s) := by
  have hf : Part.firing r ∈ Part.planning := by cases r <;> simp [Part.planning]
  have he : Part.echo r ∈ Part.planning := by cases r <;> simp [Part.planning]
  have hl : Part.line ∈ Part.planning := by simp [Part.planning]
  have ho : Part.router ∈ Part.planning := by simp [Part.planning]
  have hs : Part.setup ∈ Part.planning := by simp [Part.planning]
  unfold takePlan
  split
  · simp only [takePlanNow]
    rw [peel_foldl _ (fun s ch => by simp [he, hl, ho]), peel_foldl _ (fun s ch => by simp [he, hl, ho])]
    simp [State.setPlan, hf, hs]
  · simp [hf]

theorem touches_stagePlan (q : List (List Nat)) (f : Frame) (s : State) :
    TouchesOnly Part.planning s (stagePlan q f s) := by
  have hl : Part.line ∈ Part.planning := by simp [Part.planning]
  unfold stagePlan
  split
  · simp [hl]
  · split
    · simp [hl]
    · split
      · simp [hl]
      · split
        · simp [hl]
        · rw [peel_reply hl]
          exact touches_takePlan _ _ _

theorem touches_readPlan (f : Frame) (s : State) : TouchesOnly [.line] s (readPlan f s) := by
  unfold readPlan
  split <;> simp

theorem touches_setRail (q : RailFields) (f : Frame) (s : State) : TouchesOnly [.setup, .line] s (setRail q f s) := by
  unfold setRail
  split
  · simp
  · simp only
    split
    · simp
    · split
      · simp
      · split <;> simp [State.setRailRecord]

theorem touches_setLevels (q : LevelFields) (f : Frame) (s : State) : TouchesOnly [.setup, .line] s (setLevels q f s) := by
  unfold setLevels
  split
  · simp only
    split <;> simp [State.setChannelRecord]
  · simp

theorem touches_snapshot (f : Frame) (s : State) : TouchesOnly [.echo .left, .echo .right, .line] s (snapshot f s) := by
  unfold snapshot
  split
  · rename_i r ch _ _
    split
    · simp
    · split
      · simp
      · cases r <;> simp
  · simp

theorem touches_setPattern (q : SetPatternFields) (f : Frame) (s : State) :
    TouchesOnly [.setup, .line] s (setPattern q f s) := by
  unfold setPattern
  split
  · simp
  · simp only
    split
    · simp
    · split
      · simp
      · split <;> simp [State.setEntry]

theorem touches_readPattern (i : Nat) (f : Frame) (s : State) : TouchesOnly [.line] s (readPattern i f s) := by
  unfold readPattern
  split <;> simp

/-! ### The signal router -/

theorem touches_signalPulse (s : State) : TouchesOnly [.router] s (signalPulse s) := by
  unfold signalPulse
  split <;> simp

theorem touches_signalLevelChange (s : State) : TouchesOnly [.router] s (signalLevelChange s) := by
  unfold signalLevelChange
  split <;> simp

theorem touches_stretchEnd (l : SignalLine) (s : State) : TouchesOnly [.now, .router] s (stretchEnd l s) := by
  unfold stretchEnd
  split <;> simp

@[simp] theorem peel_applySignals {ps : List Part} {s0 : State} (h : Part.setup ∈ ps) (m : Part.router ∈ ps)
    (new : SignalSettings) (s : State) : TouchesOnly ps s0 (applySignals new s) ↔ TouchesOnly ps s0 s := by
  simp [applySignals, h, m]

theorem touches_setSignals (q : SignalFields) (f : Frame) (s : State) :
    TouchesOnly [.setup, .line, .router] s (setSignals q f s) := by
  unfold setSignals
  split
  · simp
  · split <;> simp

/-! ### The travel unit -/

/-- What a count may touch. -/
def Part.counting : List Part := [.travel, .marking .left, .marking .right, .firing .left, .firing .right, .landmarks, .line]

theorem touches_takeCount (sign : Int) (s : State) : TouchesOnly Part.counting s (takeCount sign s) := by
  simp only [takeCount, State.handMove, State.handPitch, State.handFrontier, Part.counting]
  split <;> split <;> split <;> simp

theorem touches_encoderCount (e : Edge) (s : State) : TouchesOnly Part.counting s (encoderCount e s) := by
  unfold encoderCount
  split
  · simp
  · exact touches_takeCount _ _

theorem touches_standstillExpiry (s : State) :
    TouchesOnly [.now, .travel, .marking .left, .marking .right, .line] s (standstillExpiry s) := by
  unfold standstillExpiry
  split
  · simp
  · split <;> simp

theorem touches_speedWindowEnd (s : State) : TouchesOnly [.now, .travel, .router] s (speedWindowEnd s) := by
  simp [speedWindowEnd]

@[simp] theorem peel_applyTravel {ps : List Part} {s0 : State} (h : Part.setup ∈ ps) (k : Part.travel ∈ ps)
    (a : Part.marking .left ∈ ps) (b : Part.marking .right ∈ ps) (m : Part.line ∈ ps) (new : TravelSettings) (s : State) :
    TouchesOnly ps s0 (applyTravel new s) ↔ TouchesOnly ps s0 s := by
  simp only [applyTravel]
  split
  · simp [h]
  · split <;> simp [h, k, a, b, m]

theorem touches_setTravelRequest (q : TravelFields) (f : Frame) (s : State) :
    TouchesOnly [.setup, .travel, .marking .left, .marking .right, .line] s (setTravel q f s) := by
  simp only [setTravel]
  split
  · simp
  · split
    · simp
    · split <;> simp

theorem touches_setPosition (p : Word32) (f : Frame) (s : State) :
    TouchesOnly [.travel, .firing .left, .firing .right, .marking .left, .marking .right, .landmarks, .line] s
      (setPosition p f s) := by
  unfold setPosition
  split <;> simp [takePosition, bothRails]

theorem touches_odoCalEnd (d : Int) (f : Frame) (s : State) :
    TouchesOnly [.setup, .travel, .line] s (odoCalEnd d f s) := by
  simp only [odoCalEnd]
  split
  · simp
  · split
    · simp
    · split
      · simp
      · split <;> simp

/-! ### The run controller -/

theorem touches_runStart (f : Frame) (s : State) :
    TouchesOnly [.run, .firing .left, .firing .right, .echo .left, .echo .right, .line, .router] s (runStart f s) := by
  unfold runStart
  split
  · simp
  · split
    · simp
    · split <;> simp [startRun, bothRails]

theorem touches_runStop (f : Frame) (s : State) :
    TouchesOnly [.run, .firing .left, .firing .right, .echo .left, .echo .right, .line, .router] s (runStop f s) := by
  unfold runStop
  split <;> simp [stopRun, bothRails, drainFiring]

theorem touches_railDrained (r : Rail) (s : State) : TouchesOnly [.run, .line, .router] s (railDrained r s) := by
  unfold railDrained
  split
  · simp only
    split <;> simp
  · simp

theorem touches_flush (f : Frame) (s : State) : TouchesOnly [.echo .left, .echo .right, .line] s (flush f s) := by
  unfold flush
  split <;> simp

theorem touches_setupSave (f : Frame) (s : State) : TouchesOnly [.run, .line] s (setupSave f s) := by
  unfold setupSave
  split
  · simp
  · split <;> simp

theorem touches_setupSaveComplete (matched : Bool) (s : State) :
    TouchesOnly [.run, .line] s (setupSaveComplete matched s) := by
  unfold setupSaveComplete
  split <;> simp

theorem touches_setupReload (f : Frame) (s : State) :
    TouchesOnly (commandParts .setupReload) s (setupReload f s) := by
  unfold setupReload
  split
  · simp [commandParts]
  · split
    · simp [commandParts]
    · split <;> simp [applyImage, takeImageRecords, bothRails, commandParts]

theorem touches_restart (f : Frame) (s : State) : TouchesOnly (commandParts .restart) s (restart f s) := by
  unfold restart
  split
  · simp [commandParts]
  · have ha : ∀ {ps : List Part} {s0 : State}, Part.line ∈ ps → ∀ s,
        TouchesOnly ps s0 (abortOperation s) ↔ TouchesOnly ps s0 s := by
      intro ps s0 h s
      unfold abortOperation
      split <;> simp [h]
    simp [takeRestart, bothRails, restartRail, restartMarking, restartRun, restartLine, commandParts, ha]

/-- Power-on keeps the queue, what waits between the queries, and the clock. -/
theorem touches_powerOn (s : State) : TouchesOnly Part.blocks s (powerOn s) := by
  intro p hp
  cases p with
  | pending => rfl
  | between => rfl
  | now => rfl
  | firing r => cases r <;> exact absurd (by simp [Part.blocks]) hp
  | echo r => cases r <;> exact absurd (by simp [Part.blocks]) hp
  | tracker r => cases r <;> exact absurd (by simp [Part.blocks]) hp
  | assembler r => cases r <;> exact absurd (by simp [Part.blocks]) hp
  | marking r => cases r <;> exact absurd (by simp [Part.blocks]) hp
  | _ => exact absurd (by simp [Part.blocks]) hp

/-! ### Every command -/

/-- A command touches the parts that its own function touches. -/
theorem touches_nextState (c : Instr) (s : State) : TouchesOnly (commandParts c) s (nextState c s) := by
  cases c with
  | powerOn => exact touches_powerOn s
  | resetInput => exact touches_powerOn s
  | encoderCount e => exact touches_encoderCount e s
  | standstillExpiry => exact touches_standstillExpiry s
  | speedWindowEnd => exact touches_speedWindowEnd s
  | pitchEvent r => exact touches_pitchEvent r s
  | groupCompletion r l => exact touches_groupCompletion r l s
  | completionProcessing r => exact touches_completionProcessing r s
  | commitHandover r => exact touches_commitHandover r s
  | echoFlushNotice r => exact touches_echoFlushNotice r s
  | echoDrainNotice r => exact touches_echoDrainNotice r s
  | trackerHit r => exact touches_trackerHit r s
  | channelEndNotice r => exact touches_channelEndNotice r s
  | trackerCompletionNotice r => exact touches_trackerCompletionNotice r s
  | trackerCommitLeaving r => exact touches_trackerCommitLeaving r s
  | trackerFlushNotice r => exact touches_trackerFlushNotice r s
  | trackerDrainNotice r => exact touches_trackerDrainNotice r s
  | indication r => exact touches_takeIndication r s
  | settleCheck r => exact touches_settleCheck r s
  | assemblerFlushNotice r => exact touches_assemblerFlushNotice r s
  | assemblerDrainNotice r => exact touches_assemblerDrainNotice r s
  | railDrained r => exact touches_railDrained r s
  | frontierRetirement => exact touches_frontierRetirement s
  | carPositionChange r => exact touches_carPositionChange r s
  | markRequest r => exact touches_markRequest r s
  | sprayEnd r => exact touches_sprayEnd r s
  | signalPulse => exact touches_signalPulse s
  | signalLevelChange => exact touches_signalLevelChange s
  | stretchEnd l => exact touches_stretchEnd l s
  | calFiringStart => exact touches_calFiringStart s
  | calFiringCompletion signal => exact touches_calFiringCompletion signal s
  | verifyFiringStart => exact touches_verifyFiringStart s
  | verifyFiringCompletion => exact touches_verifyFiringCompletion s
  | setupSaveComplete m => exact touches_setupSaveComplete m s
  | frameReceived b => exact touches_frameReceived b s
  | frameError b stop => exact touches_frameError b stop s
  | interByteTimeout => exact touches_interByteTimeout s
  | unknownRequest => exact touches_unknownRequest s
  | sendReply => exact touches_sendReply s
  | sendBundle => exact touches_sendBundle s
  | recordOffer => exact touches_recordOffer s
  | bundleFlushExpiry => exact touches_bundleFlushExpiry s
  | changeHandover => exact touches_changeHandover s
  | statusTimerExpiry => exact touches_statusTimerExpiry s
  | silenceExpiry => exact touches_silenceExpiry s
  | identify => exact touches_request _ _ s _ (by simp [commandParts]) fun f s => by simp [identify, commandParts]
  | readStatus => exact touches_request _ _ s _ (by simp [commandParts]) fun f s => by simp [readStatus, commandParts]
  | setReporting q => exact touches_request _ _ s _ (by simp [commandParts]) (touches_setReporting q)
  | setTravel q => exact touches_request _ _ s _ (by simp [commandParts]) (touches_setTravelRequest q)
  | setPosition p => exact touches_request _ _ s _ (by simp [commandParts]) (touches_setPosition p)
  | odoCalBegin => exact touches_request _ _ s _ (by simp [commandParts]) fun f s => by simp [odoCalBegin, commandParts]
  | odoCalEnd d => exact touches_request _ _ s _ (by simp [commandParts]) (touches_odoCalEnd d)
  | setChannel q =>
    change TouchesOnly _ s (if _ then s else request _ _ s _)
    split
    · simp
    · exact touches_request _ _ s _ (by simp [commandParts]) (touches_setChannel q)
  | readChannel => exact touches_request _ _ s _ (by simp [commandParts]) touches_readChannel
  | stagePlan q => exact touches_request _ _ s _ (by simp [commandParts]) (touches_stagePlan q)
  | readPlan => exact touches_request _ _ s _ (by simp [commandParts]) touches_readPlan
  | setRail q => exact touches_request _ _ s _ (by simp [commandParts]) (touches_setRail q)
  | setLevels q => exact touches_request _ _ s _ (by simp [commandParts]) (touches_setLevels q)
  | snapshot => exact touches_request _ _ s _ (by simp [commandParts]) touches_snapshot
  | calChannel q => exact touches_request _ _ s _ (by simp [commandParts]) (touches_calChannel q)
  | addLandmarks q => exact touches_request _ _ s _ (by simp [commandParts]) (touches_addLandmarks q)
  | clearLandmarks d =>
    exact touches_request _ _ s _ (by simp [commandParts]) fun f s => by simp [clearLandmarks, commandParts]
  | readLandmarks =>
    exact touches_request _ _ s _ (by simp [commandParts]) fun f s => by simp [readLandmarks, commandParts]
  | setPattern q => exact touches_request _ _ s _ (by simp [commandParts]) (touches_setPattern q)
  | readPattern i => exact touches_request _ _ s _ (by simp [commandParts]) (touches_readPattern i)
  | setSignals q => exact touches_request _ _ s _ (by simp [commandParts]) (touches_setSignals q)
  | runStart => exact touches_request _ _ s _ (by simp [commandParts]) touches_runStart
  | runStop => exact touches_request _ _ s _ (by simp [commandParts]) touches_runStop
  | flush => exact touches_request _ _ s _ (by simp [commandParts]) touches_flush
  | restart => exact touches_request _ _ s _ (by simp [commandParts]) touches_restart
  | verify q => exact touches_request _ _ s _ (by simp [commandParts]) (touches_verify q)
  | setupSave => exact touches_request _ _ s _ (by simp [commandParts]) touches_setupSave
  | setupReload => exact touches_request _ _ s _ (by simp [commandParts]) touches_setupReload
  | lineByteReceived b stop => exact touches_lineByteReceived b stop s
  | frameSendEnd => simp [nextState, exec, execFrameSendEnd, frameSendEnd, commandParts]

/-- Settles O3: the frame of the state that a command answers. -/
theorem aCommandTouchesOnlyItsParts : Obligations.ACommandTouchesOnlyItsParts := by
  intro c s t h
  obtain rfl := nextState_eq h
  exact touches_nextState c s

end Sys2Proof.Machine
end

section
/-! PROOFS. Packaging of the invariants: what a law depends on, the steps that cannot break it for that reason, and what a
request has to keep. -/

namespace Sys2Proof.Machine

/-! ### What a law depends on -/

/-- A property that reads these parts alone. -/
def dependsOn (qs : List Part) (P : State → Prop) : Prop := ∀ s t, (∀ p ∈ qs, p.same s t) → P s → P t

/-- A step that touches none of the parts a property reads keeps it. -/
theorem dependsOn.kept_of_touches {qs ps : List Part} {P : State → Prop} (hd : dependsOn qs P) {s t : State}
    (ht : TouchesOnly ps s t) (hp : ∀ p ∈ qs, p ∉ ps) (hs : P s) : P t :=
  hd s t (fun p hq => ht p (hp p hq)) hs

theorem dependsOn.kept_of_command {qs : List Part} {P : State → Prop} (hd : dependsOn qs P) {c : Instr} {s : State}
    (hp : ∀ p ∈ qs, p ∉ commandParts c) (hs : P s) : P (nextState c s) :=
  hd.kept_of_touches (touches_nextState c s) hp hs

/-- Every step keeps a property that reads neither the queue nor the clock, where every command does. -/
theorem keptByEveryStep_of_commands {qs : List Part} {P : State → Prop} (hd : dependsOn qs P) (hq : Part.pending ∉ qs)
    (hn : Part.now ∉ qs) (hc : ∀ c s, P s → P (nextState c s)) : keptByEveryStep P := by
  have hpending : ∀ (s : State) (rest : List Instr), P s → P { s with pending := rest } := fun s rest =>
    hd _ _ fun p hp => by cases p <;> first | rfl | exact absurd hp hq
  intro s t hs h
  unfold step at h
  split at h
  · obtain rfl : tick s = t := Host.Outcome.next.inj h
    exact hd _ _ (fun p hp => by cases p <;> first | rfl | exact absurd hp hn) hs
  · obtain rfl := nextState_eq h
    exact hc _ _ (hpending _ _ hs)

/-- A request keeps what its effect keeps, where that reads nothing of the line. -/
theorem dependsOn.kept_of_request {qs : List Part} {P : State → Prop} (hd : dependsOn qs P) (hl : Part.line ∉ qs)
    {k : RequestKind} {n : Nat} {s : State} {act : Frame → State → State} (hact : ∀ f s, P s → P (act f s)) (hs : P s) :
    P (request k n s act) := by
  have hline : ∀ t (x : Line), P t → P (t.setLine x) := fun t x =>
    hd.kept_of_touches (touches_setLine t x) (fun p hp hm => hl (List.mem_singleton.mp hm ▸ hp))
  unfold request takeRequest
  split
  · exact hs
  · rename_i f s1 h1
    have hs1 : P s1 := by
      split at h1
      · cases h1
      · split at h1
        · cases h1
          exact hline _ _ hs
        · cases h1
    split
    · exact hact f s1 hs1
    · exact hline _ _ hs1

/-! ### One field of a rail's block -/

/-- Replacing a rail's value leaves a field of both rails where the new value has it as the old one. -/
theorem Rails.get_set_field {α β : Type} (π : α → β) (p : Rails α) {r : Rail} {a : α} (h : π a = π (p.get r)) (q : Rail) :
    π ((p.set r a).get q) = π (p.get q) := by
  rw [Rails.get_set]
  split
  · rename_i hq; rw [h, hq]
  · rfl

/-- Replacing a rail's value keeps a property of every rail that the new value has. -/
theorem Rails.forall_get_set {α : Type} {Q : Rail → α → Prop} {p : Rails α} {r : Rail} {a : α} (hp : ∀ q, Q q (p.get q))
    (ha : Q r a) (q : Rail) : Q q ((p.set r a).get q) := by
  rw [Rails.get_set]
  split
  · rename_i hq; exact hq ▸ ha
  · exact hp q

/-- Replacing an entry of a table keeps a property of every entry that the new one has. -/
theorem forall_setAt {α : Type} {n : Nat} {Q : α → Prop} {v : Vector α n} {i : Fin n} {a : α} (hv : ∀ j : Fin n, Q v[j])
    (ha : Q a) (j : Fin n) : Q (setAt v i a)[j] := by
  rw [setAt_get]
  split
  · exact ha
  · exact hv j

/-! ### A reply -/

@[simp] theorem State.reply_pending (s : State) (f : Frame) (c : ReplyCode) (i : Nat) (p : ReplyPayload) :
    (s.reply f c i p).pending = s.pending := rfl
@[simp] theorem State.reply_between (s : State) (f : Frame) (c : ReplyCode) (i : Nat) (p : ReplyPayload) :
    (s.reply f c i p).between = s.between := rfl
@[simp] theorem State.reply_now (s : State) (f : Frame) (c : ReplyCode) (i : Nat) (p : ReplyPayload) :
    (s.reply f c i p).now = s.now := rfl
@[simp] theorem State.reply_setup (s : State) (f : Frame) (c : ReplyCode) (i : Nat) (p : ReplyPayload) :
    (s.reply f c i p).setup = s.setup := rfl
@[simp] theorem State.reply_travel (s : State) (f : Frame) (c : ReplyCode) (i : Nat) (p : ReplyPayload) :
    (s.reply f c i p).travel = s.travel := rfl
@[simp] theorem State.reply_firing (s : State) (f : Frame) (c : ReplyCode) (i : Nat) (p : ReplyPayload) :
    (s.reply f c i p).firing = s.firing := rfl
@[simp] theorem State.reply_echo (s : State) (f : Frame) (c : ReplyCode) (i : Nat) (p : ReplyPayload) :
    (s.reply f c i p).echo = s.echo := rfl
@[simp] theorem State.reply_tracker (s : State) (f : Frame) (c : ReplyCode) (i : Nat) (p : ReplyPayload) :
    (s.reply f c i p).tracker = s.tracker := rfl
@[simp] theorem State.reply_assembler (s : State) (f : Frame) (c : ReplyCode) (i : Nat) (p : ReplyPayload) :
    (s.reply f c i p).assembler = s.assembler := rfl
@[simp] theorem State.reply_landmarks (s : State) (f : Frame) (c : ReplyCode) (i : Nat) (p : ReplyPayload) :
    (s.reply f c i p).landmarks = s.landmarks := rfl
@[simp] theorem State.reply_marking (s : State) (f : Frame) (c : ReplyCode) (i : Nat) (p : ReplyPayload) :
    (s.reply f c i p).marking = s.marking := rfl
@[simp] theorem State.reply_router (s : State) (f : Frame) (c : ReplyCode) (i : Nat) (p : ReplyPayload) :
    (s.reply f c i p).router = s.router := rfl
@[simp] theorem State.reply_run (s : State) (f : Frame) (c : ReplyCode) (i : Nat) (p : ReplyPayload) :
    (s.reply f c i p).run = s.run := rfl
@[simp] theorem State.reply_line (s : State) (f : Frame) (c : ReplyCode) (i : Nat) (p : ReplyPayload) :
    (s.reply f c i p).line = { s.line with replies := s.line.replies ++ [⟨f.kind, f.tag, c, i, p⟩] } := rfl

/-! ### Clamping -/

theorem clampInt_ge (lo hi v : Int) : lo ≤ clampInt lo hi v := by
  unfold clampInt; omega

theorem clampInt_le {lo hi : Int} (h : lo ≤ hi) (v : Int) : clampInt lo hi v ≤ hi := by
  unfold clampInt; omega

theorem clampNat_ge (lo hi : Nat) (v : Int) : lo ≤ clampNat lo hi v := by
  unfold clampNat clampInt; omega

theorem clampNat_le {lo hi : Nat} (h : lo ≤ hi) (v : Int) : clampNat lo hi v ≤ hi := by
  unfold clampNat clampInt; omega

theorem raise_le {greatest c : Nat} (h : c ≤ greatest) : raise greatest c ≤ greatest := by
  unfold raise; split <;> omega

theorem raiseCounter_le {c : Nat} (h : c ≤ 65535) : raiseCounter c ≤ 65535 := raise_le h

theorem raiseCounter_pos (c : Nat) : 1 ≤ raiseCounter c := by
  unfold raiseCounter raise Config.counterMax; split <;> omega

end Sys2Proof.Machine
end

section
/-! PROOFS. Every setting stays within its range (O55). What a request brings is lawful once clamped; a commit, a saved or
reloaded image and a calibration bring what was lawful already; everything else leaves the settings alone. -/

namespace Sys2Proof.Machine

/-! ### What is clamped is lawful -/

theorem lawful_clampTravel (q : TravelFields) (sense : DirectionSense) : (q.clamp sense).lawful := by
  simp only [TravelSettings.lawful, TravelFields.clamp, clampNat, clampInt]
  omega

theorem lawful_of_clampGate {q : GateFields} {y : FlawGate} (h : q.clamp = some (some y)) : y.lawful := by
  unfold GateFields.clamp at h
  split at h
  · cases h
  · cases h
  · split at h
    · cases h
      simp only [FlawGate.lawful, clampNat, clampInt]
      omega
    · cases h

theorem lawful_of_clampRail {q : RailFields} {x : RailSettings} (h : q.clamp = some x) : x.lawful := by
  unfold RailFields.clamp at h
  split at h
  · cases h
    simp only [RailSettings.lawful, clampNat, clampInt]
    omega
  · cases h

theorem lawful_of_clampCondition {q : PatternFields} {c : LandmarkCondition} (h : q.conditionOf = some c) : c.lawful := by
  unfold PatternFields.conditionOf at h
  split at h
  · cases h
    trivial
  · obtain ⟨k, -, rfl⟩ := Option.map_eq_some_iff.mp h
    exact clampNat_le (by omega) _
  · obtain ⟨k, -, rfl⟩ := Option.map_eq_some_iff.mp h
    exact clampNat_le (by omega) _
  · cases h

/-- A pattern taken, its depths in order, is lawful. -/
theorem lawful_of_clampPattern {q : PatternFields} {x : Pattern} (h : q.clamp = some x) (hd : x.depthMin ≤ x.depthMax) :
    x.lawful := by
  unfold PatternFields.clamp at h
  split at h
  · rename_i hc _
    split at h
    · cases h
    · rename_i hn
      cases h
      simp only [Bool.or_eq_true, not_or, namesAbove11, decide_eq_true_eq, bne_iff_ne, ne_eq, not_not, not_le, not_lt] at hn
      obtain ⟨⟨⟨⟨hm, -⟩, hlo⟩, hhi⟩, hsub⟩ := hn
      exact ⟨hm, hsub, hd, clampNat_le (by omega) _, lawful_of_clampCondition hc, hlo, hhi⟩
  · cases h

theorem lawful_of_clampRoute {q : RouteFields} {x : Route} (h : q.clamp = some x) : 1 ≤ x.stretch ∧ x.stretch ≤ 1000 := by
  unfold RouteFields.clamp at h
  split at h
  · cases h
    exact ⟨clampNat_ge _ _ _, clampNat_le (by omega) _⟩
  · cases h

theorem lawful_of_clampSignals {q : SignalFields} {x : SignalSettings} (h : q.clamp = some x) : x.lawful := by
  unfold SignalFields.clamp at h
  split at h
  · rename_i ha hb hc hd
    cases h
    refine ⟨clampNat_le (by omega) _, fun l => ?_⟩
    match l with
    | 0 => exact lawful_of_clampRoute ha
    | 1 => exact lawful_of_clampRoute hb
    | 2 => exact lawful_of_clampRoute hc
    | 3 => exact lawful_of_clampRoute hd
  · cases h

theorem lawful_of_clampReporting {q : ReportingFields} {x : ReportingSettings} (h : q.clamp = some x) : x.lawful := by
  unfold ReportingFields.clamp at h
  split at h
  · split at h
    · cases h
    · rename_i hn
      cases h
      simp only [Bool.or_eq_true, not_or, namesAbove11, decide_eq_true_eq] at hn
      have hi : clampInterval q.statusInterval = 0 ∨
          100 ≤ clampInterval q.statusInterval ∧ clampInterval q.statusInterval ≤ 10000 := by
        simp only [clampInterval, clampNat, clampInt]
        split <;> omega
      simp only [ReportingSettings.lawful, clampNat, clampInt]
      omega
  · cases h

theorem curvePoint_clamp_le (q : CurvePointFields) : q.clamp.time ≤ 8191 ∧ q.clamp.level ≤ 4095 :=
  ⟨clampNat_le (by omega) _, clampNat_le (by omega) _⟩

/-- A channel record taken, its curve's times ascending, is lawful. -/
theorem lawful_of_clampChannel {q : ChannelFields} {x : ChannelRecord} (h : q.clamp = some x)
    (ha : ascending x.curve = true) : x.lawful := by
  unfold ChannelFields.clamp at h
  split at h
  · rename_i hlen h1 h2 h3
    cases h
    have hcurve : curveLawful (q.curve.map CurvePointFields.clamp) :=
      ⟨by simpa using hlen, fun p hp => by
        obtain ⟨f, -, rfl⟩ := List.mem_map.mp hp
        exact curvePoint_clamp_le f, ha⟩
    simp only [ChannelRecord.lawful, ChannelRecord.geometryLawful, clampNat, clampInt]
    refine ⟨by omega, by omega, by omega, by omega, by omega, by omega, by omega, by omega, by omega, by omega, by omega,
      by omega, by omega, by omega, hcurve, fun g y hg => ?_⟩
    match g with
    | 0 => cases hg; exact lawful_of_clampGate h1
    | 1 => cases hg; exact lawful_of_clampGate h2
    | 2 => cases hg; exact lawful_of_clampGate h3
  · cases h

/-! ### Records that keep or take new figures -/

theorem ChannelRecord.lawful.withLevels {x : ChannelRecord} (h : x.lawful) (q : LevelFields) : (x.withLevels q).lawful := by
  obtain ⟨hg, h1, h2, h3, -, -, h4, h5, h6, h7, h8, h9, h10, h11, hc, hgates⟩ := h
  refine ⟨hg, h1, h2, h3, clampNat_le (by omega) _, clampNat_le (by omega) _, h4, h5, h6, h7, h8, h9, h10, h11, hc,
    fun g y hy => ?_⟩
  have hget : (x.withLevels q).gates[g] = (x.gates[g]).map (fun y => { y with level := q.flaw[g] }) := by
    simp [ChannelRecord.withLevels]
  obtain ⟨z, hz, rfl⟩ := Option.map_eq_some_iff.mp (hget ▸ hy)
  obtain ⟨k1, k2, k3, -, k5, k6, k7, k8⟩ := hgates g z hz
  have hlevel : q.flaw[g] ≤ 4095 := by
    match g with
    | 0 => exact clampNat_le (lo := 0) (hi := 4095) (by omega) q.flaw1
    | 1 => exact clampNat_le (lo := 0) (hi := 4095) (by omega) q.flaw2
    | 2 => exact clampNat_le (lo := 0) (hi := 4095) (by omega) q.flaw3
  exact ⟨k1, k2, k3, hlevel, k5, k6, k7, k8⟩

/-- A calibration that is DONE gives Kd and Z within their ranges (R89). -/
theorem calOutcome_ranges {p : CalPoint} {depth : Nat} {best : Option Hit} {kd : Nat} {z : Int}
    (h : (calOutcome p depth best).2 = some (kd, z)) : 1 ≤ kd ∧ kd ≤ 65535 ∧ -512 ≤ z ∧ z ≤ 1023 := by
  unfold calOutcome at h
  split at h
  · cases h
  · split at h
    · cases h
    · dsimp only at h
      split at h
      · cases h
      · split at h
        · cases h
        · cases h
          omega

theorem ChannelRecord.lawful.calibrated {x : ChannelRecord} (h : x.lawful) {kd : Nat} {z : Int}
    (hr : 1 ≤ kd ∧ kd ≤ 65535 ∧ -512 ≤ z ∧ z ≤ 1023) : { x with kd := kd, zero := z }.lawful := by
  obtain ⟨⟨g1, g2, g3, g4, -, -, g7, g8, -, -⟩, hrest⟩ := h
  obtain ⟨k1, k2, k3, k4⟩ := hr
  exact ⟨⟨g1, g2, g3, g4, k1, k2, g7, g8, k3, k4⟩, hrest⟩

/-! ### Plans and lanes -/

/-- A group that does not clash has its channels on distinct lanes (R28). -/
theorem nodup_of_groupClashes {s : State} {r : Rail} {g : Group} (h : s.groupClashes r g = false) :
    (g.map (s.setup.lanes r)).Nodup := by
  induction g with
  | nil => exact List.nodup_nil
  | cons ch rest ih =>
    simp only [State.groupClashes, Bool.or_eq_false_iff, List.any_eq_false, beq_iff_eq] at h
    refine List.nodup_cons.mpr ⟨fun hm => ?_, ih h.2⟩
    obtain ⟨other, ho, hl⟩ := List.mem_map.mp hm
    exact h.1 other ho hl

theorem length_of_groupOf {numbers : List Nat} {g : Group} (h : groupOf numbers = some g) :
    1 ≤ g.length ∧ g.length ≤ 4 := by
  unfold groupOf at h
  split at h
  · rename_i hlen
    have hl : g.length = numbers.length := by
      clear hlen
      induction numbers generalizing g with
      | nil => cases h; rfl
      | cons n rest ih =>
        simp only [List.mapM_cons, Option.bind_eq_bind, Option.bind_eq_some_iff, Option.pure_def,
          Option.some.injEq] at h
        obtain ⟨ch, -, tail, ht, rfl⟩ := h
        simp [ih ht]
    omega
  · cases h

/-- A plan read from a request has at most sixteen groups of one to four channels (R27, R28). -/
theorem lengths_of_planOf {i : Nat} {groups : List (List Nat)} {p : Plan} (h : planOf i groups = .ok p) :
    (p ≠ [] → i + p.length ≤ 16) ∧ ∀ g ∈ p, 1 ≤ g.length ∧ g.length ≤ 4 := by
  induction groups generalizing i p with
  | nil => cases h; simp
  | cons numbers rest ih =>
    unfold planOf at h
    split at h
    · rename_i g hi hg
      split at h
      · rename_i plan hp
        cases h
        obtain ⟨hlen, hgroups⟩ := ih hp
        have hi : i < 16 := of_decide_eq_true hi
        refine ⟨fun _ => ?_, List.forall_mem_cons.mpr ⟨length_of_groupOf hg, hgroups⟩⟩
        cases plan with
        | nil => simpa using hi
        | cons g' plan' =>
          have := hlen (by simp)
          simp only [List.length_cons] at this ⊢
          omega
      · cases h
    · cases h

theorem planLawful_of_planOf {s : State} {r : Rail} {groups : List (List Nat)} {p : Plan} (h : planOf 0 groups = .ok p)
    (hc : p.findIdx? (s.groupClashes r) = none) : planLawful (s.setup.lanes r) p := by
  obtain ⟨hlen, hgroups⟩ := lengths_of_planOf h
  refine ⟨?_, fun g hg => ⟨(hgroups g hg).1, (hgroups g hg).2, nodup_of_groupClashes ?_⟩⟩
  · cases p with
    | nil => simp
    | cons g p => simpa using hlen (by simp)
  · simpa using List.findIdx?_eq_none_iff.mp hc g hg

/-- A plan stays lawful where one channel takes a lane that no other channel of its groups has (R20). -/
theorem planLawful.update {lane : Channel → Lane} {p : Plan} (h : planLawful lane p) {ch : Channel} {l : Lane}
    (hl : l = lane ch ∨ ∀ g ∈ p, ch ∈ g → ∀ other ∈ g, other ≠ ch → lane other ≠ l) :
    planLawful (Function.update lane ch l) p := by
  refine ⟨h.1, fun g hg => ⟨(h.2 g hg).1, (h.2 g hg).2.1, ?_⟩⟩
  have hnd := (h.2 g hg).2.2
  rcases hl with rfl | hl
  · rwa [Function.update_eq_self]
  · by_cases hm : ch ∈ g
    · refine List.Nodup.map_on (fun a ha b hb hab => ?_) hnd.of_map
      by_contra hne
      by_cases ea : a = ch
      · subst ea
        rw [Function.update_self, Function.update_of_ne (Ne.symm hne)] at hab
        exact hl g hg hm b hb (Ne.symm hne) hab.symm
      · by_cases eb : b = ch
        · subst eb
          rw [Function.update_self, Function.update_of_ne ea] at hab
          exact hl g hg hm a ha ea hab
        · rw [Function.update_of_ne ea, Function.update_of_ne eb] at hab
          exact hne (List.inj_on_of_nodup_map hnd ha hb hab)
    · have : g.map (Function.update lane ch l) = g.map lane :=
        List.map_congr_left fun a ha => Function.update_of_ne (fun e => hm (e.subst ha)) _ _
      rwa [this]

/-! ### A setup with one part replaced -/

/-- The setup with one channel record replaced. -/
def Setup.withChannel (u : Setup) (r : Rail) (ch : Channel) (x : ChannelRecord) : Setup :=
  { u with channels := u.channels.modify r (fun v => setAt v ch x) }

theorem setChannelRecord_setup (s : State) (r : Rail) (ch : Channel) (x : ChannelRecord) :
    (s.setChannelRecord r ch x).setup = s.setup.withChannel r ch x := rfl

theorem Setup.lanes_withChannel (u : Setup) (r q : Rail) (ch : Channel) (x : ChannelRecord) :
    (u.withChannel r ch x).lanes q = if q = r then Function.update (u.lanes r) ch x.lane else u.lanes q := by
  funext c
  simp only [lanes, withChannel, Rails.modify, Rails.get_set]
  split
  · simp only [setAt_get, Function.update_apply]
    split <;> rfl
  · rfl

/-- The new lane of a channel clashes with no group of this plan. -/
def Setup.laneFits (u : Setup) (r : Rail) (ch : Channel) (l : Lane) (p : Plan) : Prop :=
  l = u.lanes r ch ∨ ∀ g ∈ p, ch ∈ g → ∀ other ∈ g, other ≠ ch → u.lanes r other ≠ l

theorem Setup.planLawful_withChannel {u : Setup} {r q : Rail} {ch : Channel} {x : ChannelRecord} {p : Plan}
    (h : planLawful (u.lanes q) p) (hf : q = r → u.laneFits r ch x.lane p) :
    planLawful ((u.withChannel r ch x).lanes q) p := by
  rw [lanes_withChannel]
  split
  · rename_i hq
    subst hq
    exact planLawful.update h (hf rfl)
  · exact h

theorem Setup.lawful.withChannel {u : Setup} (h : u.lawful) {r : Rail} {ch : Channel} {x : ChannelRecord} (hx : x.lawful)
    (hf : u.laneFits r ch x.lane (u.plans.get r)) : (u.withChannel r ch x).lawful := by
  obtain ⟨ht, hr, hc, hp, hrest⟩ := h
  refine ⟨ht, hr, ?_, fun q => planLawful_withChannel (hp q) (fun e => by subst e; exact hf), hrest⟩
  exact Rails.forall_get_set (Q := fun _ (v : Vector ChannelRecord 12) => ∀ ch : Channel, (v[ch]).lawful) hc
    (forall_setAt (hc r) hx)

/-! ### The settings of a state -/

/-- What the law of the settings reads: the settings in force, the stored image, the image being written, the staged plans. -/
@[ext]
structure SettingsView where
  setup : Setup
  image : Option Setup
  writing : Option Setup
  staged : Rails (Option Plan)

def State.settingsView (s : State) : SettingsView :=
  ⟨s.setup, s.run.image, s.run.writing, ⟨s.firing.left.staged, s.firing.right.staged⟩⟩

/-- The law of the settings on what it reads. -/
def SettingsView.lawful (v : SettingsView) : Prop :=
  v.setup.lawful ∧ (∀ u, v.image = some u → u.lawful) ∧ (∀ u, v.writing = some u → u.lawful) ∧
    ∀ r p, v.staged.get r = some p → planLawful (v.setup.lanes r) p

theorem settingsView_staged (s : State) (r : Rail) : s.settingsView.staged.get r = (s.firing.get r).staged := by
  cases r <;> rfl

theorem settingsLawful_iff (s : State) : s.settingsLawful ↔ s.settingsView.lawful := by
  simp only [State.settingsLawful, SettingsView.lawful, settingsView_staged]
  rfl

theorem State.settingsLawful.of_view {s t : State} (h : s.settingsLawful) (hv : t.settingsView = s.settingsView) :
    t.settingsLawful := by
  rw [settingsLawful_iff] at h ⊢
  rwa [hv]

/-- A new setup with the same channel records. -/
theorem State.settingsLawful.setSetup {s : State} (h : s.settingsLawful) {u : Setup} (hu : u.lawful)
    (hc : u.channels = s.setup.channels) : (s.setSetup u).settingsLawful := by
  have hl : u.lanes = s.setup.lanes := by funext r ch; simp [Setup.lanes, hc]
  refine ⟨hu, h.2.1, h.2.2.1, fun r p hp => ?_⟩
  rw [setSetup_setup, hl]
  exact h.2.2.2 r p hp

theorem State.settingsLawful.setChannelRecord {s : State} (h : s.settingsLawful) {r : Rail} {ch : Channel}
    {x : ChannelRecord} (hx : x.lawful) (hf : s.setup.laneFits r ch x.lane (s.setup.plans.get r))
    (hst : ∀ p, (s.firing.get r).staged = some p → s.setup.laneFits r ch x.lane p) :
    (s.setChannelRecord r ch x).settingsLawful :=
  ⟨h.1.withChannel hx hf, h.2.1, h.2.2.1, fun q p hp =>
    Setup.planLawful_withChannel (h.2.2.2 q p hp) (fun e => by subst e; exact hst p hp)⟩

/-- A record that keeps its channel's lane. -/
theorem State.settingsLawful.setChannelRecord_of_lane {s : State} (h : s.settingsLawful) {r : Rail} {ch : Channel}
    {x : ChannelRecord} (hx : x.lawful) (hl : x.lane = (s.channel r ch).lane) : (s.setChannelRecord r ch x).settingsLawful :=
  h.setChannelRecord hx (.inl hl) (fun _ _ => .inl hl)

/-- The setup's laws with the record of a channel named by the state. -/
theorem State.settingsLawful.channel {s : State} (h : s.settingsLawful) (r : Rail) (ch : Channel) :
    (s.channel r ch).lawful := h.1.2.2.1 r ch

theorem State.settingsLawful_powered {image : Option Setup} (h : ∀ u, image = some u → u.lawful) (now : Nat)
    (pending : List Instr) (between : List (List LandmarkStep)) :
    (State.powered image now pending between).settingsLawful := by
  have hstaged : ∀ r, ((State.powered image now pending between).firing.get r).staged = none := by
    intro r; cases r <;> rfl
  refine ⟨?_, h, nofun, fun r p hp => ?_⟩; swap
  · rw [hstaged] at hp
    cases hp
  cases image with
  | none => exact defaults_lawful
  | some u => exact h u rfl

/-! ### Steps that leave the settings -/

theorem settingsView_of_touches {ps : List Part} {s t : State} (h : TouchesOnly ps s t) (h1 : Part.setup ∉ ps)
    (h2 : Part.run ∉ ps) (h3 : ∀ r, Part.firing r ∉ ps) : t.settingsView = s.settingsView := by
  have hset : t.setup = s.setup := h .setup h1
  have hrun : t.run = s.run := h .run h2
  have hl : t.firing.left = s.firing.left := h (.firing .left) (h3 .left)
  have hr : t.firing.right = s.firing.right := h (.firing .right) (h3 .right)
  simp only [State.settingsView, hset, hrun, hl, hr]

/-- The settings read the setup, the run controller and the firing units. -/
theorem settingsLawful_dependsOn :
    dependsOn [.setup, .run, .firing .left, .firing .right] State.settingsLawful := by
  intro s t h hs
  have hset : t.setup = s.setup := h .setup (by simp)
  have hrun : t.run = s.run := h .run (by simp)
  have hl : t.firing.left = s.firing.left := h (.firing .left) (by simp)
  have hr : t.firing.right = s.firing.right := h (.firing .right) (by simp)
  exact hs.of_view (by simp only [State.settingsView, hset, hrun, hl, hr])

section
variable (s : State)

@[simp] theorem settingsView_advanceTo (t : Nat) : (s.advanceTo t).settingsView = s.settingsView := rfl
@[simp] theorem settingsView_setTravel (x : Travel) : (s.setTravel x).settingsView = s.settingsView := rfl
@[simp] theorem settingsView_setEcho (r : Rail) (x : EchoProcessor) : (s.setEcho r x).settingsView = s.settingsView := rfl
@[simp] theorem settingsView_setAssembler (r : Rail) (x : Assembler) : (s.setAssembler r x).settingsView = s.settingsView := rfl
@[simp] theorem settingsView_setTracker (r : Rail) (x : Tracker) : (s.setTracker r x).settingsView = s.settingsView := rfl
@[simp] theorem settingsView_setLandmarks (x : LandmarkList) : (s.setLandmarks x).settingsView = s.settingsView := rfl
@[simp] theorem settingsView_setMarking (r : Rail) (x : MarkingUnit) : (s.setMarking r x).settingsView = s.settingsView := rfl
@[simp] theorem settingsView_setRouter (x : Router) : (s.setRouter x).settingsView = s.settingsView := rfl
@[simp] theorem settingsView_setLine (x : Line) : (s.setLine x).settingsView = s.settingsView := rfl
@[simp] theorem settingsView_offer (x : Record) : (s.offer x).settingsView = s.settingsView := rfl
@[simp] theorem settingsView_handPulse (x : Pulse) : (s.handPulse x).settingsView = s.settingsView := rfl
@[simp] theorem settingsView_toEcho (r : Rail) (x : EchoItem) : (s.toEcho r x).settingsView = s.settingsView := rfl
@[simp] theorem settingsView_requestMark (r : Rail) (x : MarkRequest) : (s.requestMark r x).settingsView = s.settingsView := rfl
@[simp] theorem settingsView_reply (f : Frame) (c : ReplyCode) (i : Nat) (p : ReplyPayload) :
    (s.reply f c i p).settingsView = s.settingsView := rfl

theorem settingsView_setFiring {r : Rail} {x : FiringUnit} (h : x.staged = (s.firing.get r).staged) :
    (s.setFiring r x).settingsView = s.settingsView := by
  cases r
  · exact SettingsView.ext rfl rfl rfl (congrArg (Rails.mk · s.firing.right.staged) h)
  · exact SettingsView.ext rfl rfl rfl (congrArg (Rails.mk s.firing.left.staged) h)

theorem settingsView_setRun {x : RunControl} (hi : x.image = s.run.image) (hw : x.writing = s.run.writing) :
    (s.setRun x).settingsView = s.settingsView :=
  SettingsView.ext rfl hi hw rfl

@[simp] theorem settingsView_setMotion (x : Motion) : (s.setMotion x).settingsView = s.settingsView := by
  simp [State.settingsView]
@[simp] theorem settingsView_setRunState (x : RunState) : (s.setRunState x).settingsView = s.settingsView := by
  simp [State.settingsView]
@[simp] theorem settingsView_setSpray (r : Rail) (x : Option Nat) : (s.setSpray r x).settingsView = s.settingsView := by
  simp [State.settingsView]
@[simp] theorem settingsView_setCover (r : Rail) (ch : Channel) (x : Cover) :
    (s.setCover r ch x).settingsView = s.settingsView := by
  simp [State.settingsView]

end

theorem settingsView_foldl {α : Type} {f : State → α → State} (h : ∀ s a, (f s a).settingsView = s.settingsView)
    (l : List α) (s : State) : (l.foldl f s).settingsView = s.settingsView :=
  foldl_keeps f State.settingsView h l s

section
variable (s : State)

@[simp] theorem settingsView_startGroup (r : Rail) (q : PitchRequest) : (startGroup r q s).settingsView = s.settingsView := by
  cases r <;> rfl

@[simp] theorem settingsView_takeRequestBound (r : Rail) (q : PitchRequest) :
    (takeRequestBound r q s).settingsView = s.settingsView := by
  simp only [takeRequestBound]
  split
  · simp
  · split <;> cases r <;> rfl

@[simp] theorem settingsView_bindPitch (r : Rail) (b : Int) : (bindPitch r b s).settingsView = s.settingsView := by
  simp only [bindPitch]
  split
  · rfl
  · rw [settingsView_takeRequestBound]
    cases r <;> rfl

@[simp] theorem settingsView_sendDrainNotice (r : Rail) : (sendDrainNotice r s).settingsView = s.settingsView := by
  unfold sendDrainNotice
  split <;> simp

@[simp] theorem settingsView_groupCompletion (r : Rail) (l : LaneSamples) :
    (groupCompletion r l s).settingsView = s.settingsView := by
  unfold groupCompletion
  split
  · rfl
  · dsimp only
    split
    · rw [settingsView_startGroup]
      cases r <;> rfl
    · rw [settingsView_sendDrainNotice]
      cases r <;> rfl

@[simp] theorem settingsView_startOperationFiring (r : Rail) (ch : Channel) :
    (startOperationFiring r ch s).settingsView = s.settingsView := by
  cases r <;> rfl

@[simp] theorem settingsView_setMode (r : Rail) (m : TimeMode) (e : Option TestEcho) :
    (setMode r m e s).settingsView = s.settingsView := by
  cases r <;> rfl

@[simp] theorem settingsView_endOperation (r : Rail) : (endOperation r s).settingsView = s.settingsView := by
  rw [endOperation, settingsView_setRunState]
  cases r <;> rfl

@[simp] theorem settingsView_handPitch (r : Rail) (bs : List Int) : (s.handPitch r bs).settingsView = s.settingsView := by
  cases r <;> rfl

@[simp] theorem settingsView_dropAssembler (r : Rail) : (dropAssembler r s).settingsView = s.settingsView := rfl

@[simp] theorem settingsView_classify (r : Rail) (f : Finding) : (classify r f s).1.settingsView = s.settingsView :=
  settingsView_of_touches (touches_classify r f s) (by simp) (by simp) (by simp)

@[simp] theorem settingsView_closeFinding (r : Rail) (how : ClosedBy) (x : Fin 16 × Finding) :
    (closeFinding r how s x).settingsView = s.settingsView := by
  simp only [closeFinding]
  split
  · simp only [reportFinding]
    split <;> simp
  · exact settingsView_classify s r x.2

@[simp] theorem settingsView_closeFindings (r : Rail) (how : ClosedBy) (which : Finding → Bool) :
    (closeFindings r how which s).settingsView = s.settingsView :=
  settingsView_foldl (fun s x => settingsView_closeFinding s r how x) _ s

@[simp] theorem settingsView_joinIndication (r : Rail) (i : Contribution) :
    (joinIndication r i s).settingsView = s.settingsView := by
  simp only [joinIndication, openFinding, State.setSlot]
  split
  · split
    · simp
    · split <;> simp
  · simp

@[simp] theorem settingsView_resetCoverage (r : Rail) : (s.resetCoverage r).settingsView = s.settingsView :=
  settingsView_foldl (fun s ch => settingsView_setCover s r ch _) _ s

@[simp] theorem settingsView_cancelSnapshot (r : Rail) : (cancelSnapshot r s).settingsView = s.settingsView :=
  settingsView_of_touches (touches_cancelSnapshot r s) (by simp) (by simp) (by simp)

@[simp] theorem settingsView_discardMarks (r : Rail) : (discardMarks r s).settingsView = s.settingsView := by
  rw [discardMarks, foldl_offer]
  simp

@[simp] theorem settingsView_takeCount (sign : Int) : (takeCount sign s).settingsView = s.settingsView := by
  simp only [takeCount, State.handMove, State.handFrontier]
  split <;> split <;> split <;> simp

@[simp] theorem settingsView_startRun : (startRun s).settingsView = s.settingsView := by
  rw [startRun, settingsView_setRunState]
  refine settingsView_foldl (fun s r => ?_) _ s
  rw [settingsView_resetCoverage]
  cases r <;> rfl

@[simp] theorem settingsView_stopRun : (stopRun s).settingsView = s.settingsView := by
  rw [stopRun, settingsView_foldl fun s r => ?_, settingsView_setRunState]
  · rfl
  · rw [drainFiring, settingsView_sendDrainNotice, ← settingsView_cancelSnapshot s r]
    cases r <;> rfl

@[simp] theorem settingsView_beginCal (c : CalStep) : (beginCal c s).settingsView = s.settingsView := by
  rw [beginCal, settingsView_startOperationFiring, settingsView_setMode, settingsView_setRunState, settingsView_setRun] <;> rfl

@[simp] theorem settingsView_beginVerify (r : Rail) (e : TestEcho) :
    (beginVerify r e s).settingsView = s.settingsView := by
  simp only [beginVerify]
  split
  · rw [settingsView_setMode, settingsView_setRunState, settingsView_setRun] <;> rfl
  · rw [settingsView_startOperationFiring, settingsView_setMode, settingsView_setRunState, settingsView_setRun] <;> rfl

theorem settingsView_takePosition (p : Int) : (takePosition p s).settingsView = s.settingsView := by
  rw [takePosition, settingsView_setLandmarks, settingsView_foldl fun s r => ?_]
  · rfl
  · rw [settingsView_setMarking, settingsView_discardMarks]
    cases r <;> rfl

end

/-! ### What the commands that take settings do -/

section
variable {s : State}

/-- The commit brings in a staged plan, which was lawful (R34). -/
theorem State.settingsLawful.commitPlan (h : s.settingsLawful) {r : Rail} {p : Plan}
    (hp : planLawful (s.setup.lanes r) p) : (commitPlan r p s).settingsLawful := by
  obtain ⟨⟨ht, hr, hc, hplans, hrest⟩, hi, hw, hstaged⟩ := h
  refine ⟨⟨ht, hr, hc, ?_, hrest⟩, hi, hw, ?_⟩
  · exact Rails.forall_get_set (Q := fun q p => planLawful (s.setup.lanes q) p) hplans hp
  · refine Rails.forall_get_set (p := s.firing)
      (Q := fun q (u : FiringUnit) => ∀ p, u.staged = some p → planLawful (s.setup.lanes q) p) hstaged ?_
    exact fun p hp => nomatch hp

theorem State.settingsLawful.pitchEvent (h : s.settingsLawful) (r : Rail) : (pitchEvent r s).settingsLawful := by
  unfold Machine.pitchEvent
  split
  · exact h
  · rename_i b rest hb
    have h1 : (s.setFiring r { s.firing.get r with pitchEvents := rest }).settingsLawful :=
      h.of_view (by cases r <;> rfl)
    dsimp only
    split
    · split
      · rename_i p hp
        split
        · exact (h1.commitPlan (h.2.2.2 r p hp)).of_view (by simp)
        · exact h1.of_view (by simp)
      · exact h1.of_view (by simp)
    · exact h1

theorem State.settingsLawful.endCal (h : s.settingsLawful) (c : CalStep) : (endCal c s).settingsLawful := by
  unfold Machine.endCal
  split
  · split
    · exact h.of_view (by simp)
    · rename_i p _
      dsimp only
      split
      · rename_i kd z hk
        exact State.settingsLawful.of_view
          (h.setChannelRecord_of_lane (ch := c.channel) ((h.channel c.rail c.channel).calibrated (calOutcome_ranges hk)) rfl)
          (by rw [settingsView_endOperation]; rfl)
      · exact h.of_view (by rw [settingsView_endOperation]; rfl)
  · split <;> exact h.of_view (by rw [settingsView_endOperation]; rfl)

theorem State.settingsLawful.calFiringCompletion (h : s.settingsLawful) (signal : List Nat) :
    (calFiringCompletion signal s).settingsLawful := by
  unfold Machine.calFiringCompletion
  split
  · split
    · exact h
    · dsimp only
      split
      · exact h.of_view (by rw [settingsView_setRun, settingsView_setFiring] <;> rfl)
      · split
        · refine State.settingsLawful.endCal (h.of_view ?_) _
          rw [settingsView_setFiring] <;> rfl
        · exact h
  · exact h

theorem State.settingsLawful.setupSaveComplete (h : s.settingsLawful) (matched : Bool) :
    (setupSaveComplete matched s).settingsLawful := by
  unfold Machine.setupSaveComplete
  split
  · exact h
  · rename_i image hw
    refine ⟨h.1, ?_, ?_, h.2.2.2⟩
    · intro u hu
      change (if matched = true then some image else none) = some u at hu
      split at hu
      · cases hu
        exact h.2.2.1 _ hw
      · cases hu
    · intro u hu
      cases hu

theorem State.settingsLawful.applyReporting (h : s.settingsLawful) {x : ReportingSettings} (hx : x.lawful) :
    (applyReporting x s).settingsLawful := by
  obtain ⟨ht, hr, hc, hp, hpat, hsig, -⟩ := h.1
  have h1 := h.setSetup (u := { s.setup with reporting := x }) ⟨ht, hr, hc, hp, hpat, hsig, hx⟩ rfl
  simp only [Machine.applyReporting]
  split
  · exact h1.of_view (by simp [State.settingsView])
  · exact h1.of_view (by simp)

theorem State.settingsLawful.applyTravel (h : s.settingsLawful) {x : TravelSettings} (hx : x.lawful) :
    (applyTravel x s).settingsLawful := by
  have h1 := h.setSetup (u := { s.setup with travel := x }) ⟨hx, h.1.2⟩ rfl
  simp only [Machine.applyTravel]
  split
  · exact h1
  · split
    · exact h1.of_view (by simp)
    · exact h1

theorem State.settingsLawful.applySignals (h : s.settingsLawful) {x : SignalSettings} (hx : x.lawful) :
    (applySignals x s).settingsLawful := by
  obtain ⟨ht, hr, hc, hp, hpat, -, hrep⟩ := h.1
  exact (h.setSetup (u := { s.setup with signals := x }) ⟨ht, hr, hc, hp, hpat, hx, hrep⟩ rfl).of_view (by
    simp [Machine.applySignals])

/-- The records of an image come with its plans, and nothing stays staged (R171). -/
theorem State.settingsLawful.takeImageRecords (h : s.settingsLawful) {image : Setup} (hi : image.lawful) :
    (takeImageRecords image s).settingsLawful := by
  have hview : (Machine.takeImageRecords image s).settingsView =
      ⟨{ s.setup with rails := image.rails, channels := image.channels, plans := image.plans, patterns := image.patterns },
        s.run.image, s.run.writing, ⟨none, none⟩⟩ := by
    ext1
    · simp [Machine.takeImageRecords, bothRails, State.settingsView, State.resetCoverage, foldl_keeps _ State.setup,
        foldl_keeps _ State.run, foldl_keeps _ State.firing]
    · simp [Machine.takeImageRecords, bothRails, State.settingsView, State.resetCoverage, foldl_keeps _ State.run]
    · simp [Machine.takeImageRecords, bothRails, State.settingsView, State.resetCoverage, foldl_keeps _ State.run]
    · simp [Machine.takeImageRecords, bothRails, State.settingsView, State.resetCoverage, foldl_keeps _ State.firing]
      exact ⟨rfl, rfl⟩
  rw [settingsLawful_iff, hview]
  obtain ⟨ht, -, -, -, -, hsig, hrep⟩ := h.1
  obtain ⟨-, hr, hc, hp, hpat, -, -⟩ := hi
  exact ⟨⟨ht, hr, hc, hp, hpat, hsig, hrep⟩, h.2.1, h.2.2.1, fun r p hp => by cases r <;> cases hp⟩

/-- A RESTART clears the staged plans and no other setting (R39, R164). -/
theorem settingsView_takeRestart (s : State) :
    (takeRestart s).settingsView = ⟨s.setup, s.run.image, s.run.writing, ⟨none, none⟩⟩ := by
  have hrail : ∀ s r, (restartRail s r).settingsView =
      { s.settingsView with staged := s.settingsView.staged.set r none } := by
    intro s r
    simp only [restartRail, settingsView_setAssembler, settingsView_setTracker, settingsView_setEcho,
      settingsView_resetCoverage, settingsView_cancelSnapshot]
    cases r <;> rfl
  have hmarking : ∀ s r, (restartMarking s r).settingsView = s.settingsView := by
    intro s r
    simp [restartMarking]
  have habort : ∀ s, (abortOperation s).settingsView = s.settingsView := by
    intro s
    unfold abortOperation
    split <;> rfl
  simp only [takeRestart, bothRails, List.foldl_cons, List.foldl_nil, settingsView_setRouter, hmarking,
    settingsView_setLandmarks, hrail, restartRun, settingsView_setRunState]
  rw [settingsView_setRun, habort] <;> rfl

theorem State.settingsLawful.setChannel (h : s.settingsLawful) (q : ChannelFields) (f : Frame) :
    (setChannel q f s).settingsLawful := by
  unfold Machine.setChannel
  split
  · rename_i r ch x _ _ hx
    split
    · exact h.of_view (by simp)
    · rename_i hcheck
      unfold checkChannel at hcheck
      split at hcheck
      · cases hcheck
      · split at hcheck
        · cases hcheck
        · split at hcheck
          · cases hcheck
          · rename_i hasc
            split at hcheck
            · cases hcheck
            · rename_i htaken
              have hasc : ascending x.curve = true := by simpa using hasc
              have hfits : ∀ p : Plan, (∀ g ∈ p, g ∈ s.laneGroups r) → s.setup.laneFits r ch x.lane p := by
                intro p hp
                simp only [State.laneTaken, Bool.and_eq_true, not_and_or, bne_iff_ne, ne_eq, not_not, List.any_eq_true,
                  not_exists, List.contains_iff_mem, beq_iff_eq] at htaken
                rcases htaken with hsame | hfree
                · exact .inl hsame.symm
                · refine .inr fun g hg hch other ho hne => ?_
                  have hcases := hfree g
                  have hlane : s.setup.lanes r other = (s.channel r other).lane := rfl
                  rw [hlane]
                  have hmem := hp g hg
                  grind
              have h1 := h.setChannelRecord (lawful_of_clampChannel hx hasc)
                (hfits _ fun g hg => List.mem_append_left _ hg)
                (fun p hp => hfits p fun g hg => List.mem_append_right _ (by rw [hp]; exact hg))
              simp only [takeChannel]
              split <;> exact h1.of_view rfl
  · exact h.of_view (by simp)

theorem State.settingsLawful.takePlan (h : s.settingsLawful) {r : Rail} {p : Plan} (hp : planLawful (s.setup.lanes r) p) :
    (takePlan r p s).settingsLawful := by
  obtain ⟨⟨ht, hr, hc, hplans, hrest⟩, hi, hw, hstaged⟩ := h
  unfold Machine.takePlan
  split
  · have h1 : ((s.setPlan r p).setFiring r { s.firing.get r with staged := none, pointer := 0 }).settingsLawful := by
      refine ⟨⟨ht, hr, hc, ?_, hrest⟩, hi, hw, ?_⟩
      · exact Rails.forall_get_set (Q := fun q p => planLawful (s.setup.lanes q) p) hplans hp
      · refine Rails.forall_get_set (p := s.firing)
          (Q := fun q (u : FiringUnit) => ∀ p, u.staged = some p → planLawful (s.setup.lanes q) p) hstaged ?_
        exact fun p hp => nomatch hp
    refine h1.of_view ?_
    simp only [takePlanNow]
    rw [settingsView_foldl (fun s ch => by simp), settingsView_foldl (fun s ch => by simp)]
  · refine ⟨⟨ht, hr, hc, hplans, hrest⟩, hi, hw, ?_⟩
    refine Rails.forall_get_set (p := s.firing)
      (Q := fun q (u : FiringUnit) => ∀ p, u.staged = some p → planLawful (s.setup.lanes q) p) hstaged ?_
    rintro p' ⟨⟩
    exact hp

theorem State.settingsLawful.stagePlan (h : s.settingsLawful) (q : List (List Nat)) (f : Frame) :
    (stagePlan q f s).settingsLawful := by
  unfold Machine.stagePlan
  split
  · exact h.of_view (by simp)
  · split
    · exact h.of_view (by simp)
    · rename_i hp
      split
      · exact h.of_view (by simp)
      · split
        · exact h.of_view (by simp)
        · rename_i hc
          exact (h.takePlan (planLawful_of_planOf hp hc)).of_view (by simp)

theorem State.settingsLawful.setRail (h : s.settingsLawful) (q : RailFields) (f : Frame) :
    (setRail q f s).settingsLawful := by
  unfold Machine.setRail
  split
  · exact h.of_view (by simp)
  · rename_i r _
    dsimp only
    split
    · exact h.of_view (by simp)
    · rename_i new hnew
      split
      · exact h.of_view (by simp)
      · split
        · exact h.of_view (by simp)
        · obtain ⟨ht, hr, hrest⟩ := h.1
          have h1 := h.setSetup (u := { s.setup with rails := s.setup.rails.set r new })
            ⟨ht, Rails.forall_get_set (Q := fun _ x => RailSettings.lawful x) hr (lawful_of_clampRail hnew), hrest⟩ rfl
          exact h1.of_view (by simp [State.setRailRecord])

theorem State.settingsLawful.setPattern (h : s.settingsLawful) (q : SetPatternFields) (f : Frame) :
    (setPattern q f s).settingsLawful := by
  unfold Machine.setPattern
  split
  · exact h.of_view (by simp)
  · rename_i i _
    dsimp only
    split
    · exact h.of_view (by simp)
    · rename_i new hnew
      split
      · exact h.of_view (by simp)
      · split
        · exact h.of_view (by simp)
        · rename_i hcross
          have hlawful : ∀ x, new = some x → x.lawful := by
            rintro x rfl
            have hd : x.depthMin ≤ x.depthMax := by simpa [depthsCross] using hcross
            unfold entryOf at hnew
            split at hnew
            · cases hnew
            · obtain ⟨y, hy, hxy⟩ := Option.map_eq_some_iff.mp hnew
              cases hxy
              exact lawful_of_clampPattern hy hd
          obtain ⟨ht, hr, hc, hp, hpat, hrest⟩ := h.1
          have h1 := h.setSetup (u := { s.setup with patterns := setAt s.setup.patterns i new })
            ⟨ht, hr, hc, hp, forall_setAt (Q := fun o => ∀ p : Pattern, o = some p → p.lawful) hpat hlawful, hrest⟩ rfl
          exact h1.of_view (by simp [State.setEntry])

theorem State.settingsLawful.odoCalEnd (h : s.settingsLawful) (d : Int) (f : Frame) :
    (odoCalEnd d f s).settingsLawful := by
  simp only [Machine.odoCalEnd]
  split
  · exact h.of_view (by simp)
  · split
    · exact h.of_view (by simp)
    · split
      · exact h.of_view (by simp)
      · split
        · exact h.of_view (by simp)
        · rename_i hscale
          obtain ⟨⟨-, -, t3, t4, t5, t6⟩, hrest⟩ := h.1
          generalize (roundDiv _ _).toNat = scale at hscale ⊢
          have h1 := h.setSetup (u := { s.setup with travel := { s.setup.travel with scale := scale } })
            ⟨⟨by dsimp only; omega, by dsimp only; omega, t3, t4, t5, t6⟩, hrest⟩ rfl
          exact h1.of_view rfl

end

/-- Settles O55: the commands that take settings by their lemmas, the commands that only touch a block beside the settings by
the settings they leave, and all others by their frame. -/
theorem settingsStayLawful : Obligations.SettingsStayLawful := by
  refine keptByEveryStep_of_commands settingsLawful_dependsOn (by simp) (by simp) fun c s h => ?_
  have hrequest := @dependsOn.kept_of_request _ _ settingsLawful_dependsOn (by simp)
  cases c with
  | powerOn => exact State.settingsLawful_powered h.2.1 _ _ _
  | resetInput => exact State.settingsLawful_powered h.2.1 _ _ _
  | encoderCount e =>
    refine h.of_view (show (encoderCount e s).settingsView = _ from ?_)
    unfold encoderCount
    split <;> simp
  | pitchEvent r => exact h.pitchEvent r
  | groupCompletion r l => exact h.of_view (settingsView_groupCompletion s r l)
  | indication r =>
    refine h.of_view (show (takeIndication r s).settingsView = _ from ?_)
    unfold takeIndication
    split <;> simp
  | settleCheck r =>
    refine h.of_view (show (settleCheck r s).settingsView = _ from ?_)
    unfold settleCheck
    split <;> simp
  | assemblerFlushNotice r =>
    refine h.of_view (show (assemblerFlushNotice r s).settingsView = _ from ?_)
    unfold assemblerFlushNotice
    split <;> simp
  | assemblerDrainNotice r =>
    refine h.of_view (show (assemblerDrainNotice r s).settingsView = _ from ?_)
    unfold assemblerDrainNotice
    split
    · rw [settingsView_setRun, settingsView_closeFindings, settingsView_dropAssembler] <;> rfl
    · rfl
  | railDrained r =>
    refine h.of_view (show (railDrained r s).settingsView = _ from ?_)
    simp only [railDrained]
    split
    · split
      · rw [settingsView_setRunState, settingsView_setRun] <;> rfl
      · rw [settingsView_setRun] <;> rfl
    · rfl
  | calFiringStart =>
    refine h.of_view (show (calFiringStart s).settingsView = _ from ?_)
    unfold calFiringStart
    split
    · split <;> simp
    · rfl
  | calFiringCompletion signal => exact h.calFiringCompletion signal
  | verifyFiringStart =>
    refine h.of_view (show (verifyFiringStart s).settingsView = _ from ?_)
    unfold verifyFiringStart
    split
    · split <;> simp
    · rfl
  | verifyFiringCompletion =>
    refine h.of_view (show (verifyFiringCompletion s).settingsView = _ from ?_)
    simp only [verifyFiringCompletion]
    split
    · split
      · rfl
      · split
        · rw [settingsView_setRun, settingsView_setFiring] <;> rfl
        · split
          · rw [settingsView_endOperation, settingsView_offer, settingsView_setFiring] <;> rfl
          · rfl
    · rfl
  | setupSaveComplete m => exact h.setupSaveComplete m
  | setReporting q =>
    refine hrequest (fun f s h => ?_) h
    unfold setReporting
    split
    · exact h.of_view (by simp)
    · rename_i hq
      split
      · exact h.of_view (by simp)
      · exact (h.applyReporting (lawful_of_clampReporting hq)).of_view (by simp)
  | setTravel q =>
    refine hrequest (fun f s h => ?_) h
    simp only [setTravel]
    split
    · exact h.of_view (by simp)
    · split
      · exact h.of_view (by simp)
      · split
        · exact h.of_view (by simp)
        · exact (h.applyTravel (lawful_clampTravel q _)).of_view (settingsView_reply _ _ _ _ _)
  | setPosition p =>
    refine hrequest (fun f s h => h.of_view ?_) h
    unfold setPosition
    split
    · exact settingsView_takePosition s p.toInt
    · rfl
  | odoCalEnd d => exact hrequest (fun f s h => h.odoCalEnd d f) h
  | setChannel q =>
    change State.settingsLawful (if _ then s else request _ _ s _)
    split
    · exact h
    · exact hrequest (fun f s h => h.setChannel q f) h
  | stagePlan q => exact hrequest (fun f s h => h.stagePlan q f) h
  | setRail q => exact hrequest (fun f s h => h.setRail q f) h
  | setLevels q =>
    refine hrequest (fun f s h => ?_) h
    unfold setLevels
    split
    · dsimp only
      split
      · exact h.of_view (by simp)
      · rename_i r ch _ _ _
        exact (h.setChannelRecord_of_lane ((h.channel r ch).withLevels q) rfl).of_view (settingsView_reply _ _ _ _ _)
    · exact h.of_view (by simp)
  | calChannel q =>
    refine hrequest (fun f s h => h.of_view ?_) h
    simp only [calChannel]
    split
    · split
      · split <;> simp
      · simp
    · simp
  | setPattern q => exact hrequest (fun f s h => h.setPattern q f) h
  | setSignals q =>
    refine hrequest (fun f s h => ?_) h
    unfold setSignals
    split
    · exact h.of_view (by simp)
    · rename_i hq
      split
      · exact h.of_view (by simp)
      · exact (h.applySignals (lawful_of_clampSignals hq)).of_view (by simp)
  | runStart =>
    refine hrequest (fun f s h => h.of_view ?_) h
    unfold runStart
    split
    · simp
    · split
      · simp
      · split <;> simp
  | runStop =>
    refine hrequest (fun f s h => h.of_view ?_) h
    unfold runStop
    split <;> simp
  | restart =>
    refine hrequest (fun f s h => ?_) h
    unfold restart
    split
    · exact h.of_view (by simp)
    · refine State.settingsLawful.of_view (s := takeRestart s) ?_ (settingsView_reply _ _ _ _ _)
      rw [settingsLawful_iff, settingsView_takeRestart]
      exact ⟨h.1, h.2.1, h.2.2.1, fun r p hp => by cases r <;> cases hp⟩
  | verify q =>
    refine hrequest (fun f s h => h.of_view ?_) h
    unfold verify
    split
    · simp
    · split
      · simp
      · split
        · simp
        · split <;> simp
  | setupSave =>
    refine hrequest (fun f s h => ?_) h
    unfold setupSave
    split
    · exact h.of_view (by simp)
    · split
      · exact h.of_view (by simp)
      · refine ⟨h.1, ?_, ?_, h.2.2.2⟩
        · intro u hu
          cases hu
        · intro u hu
          cases hu
          exact h.1
  | setupReload =>
    refine hrequest (fun f s h => ?_) h
    unfold setupReload
    split
    · exact h.of_view (by simp)
    · split
      · exact h.of_view (by simp)
      · split
        · exact h.of_view (by simp)
        · rename_i image hi
          have hl := h.2.1 image hi
          have h1 := (((h.applyTravel hl.1).takeImageRecords hl).applySignals hl.2.2.2.2.2.1).applyReporting hl.2.2.2.2.2.2
          exact h1.of_view rfl
  | _ => exact settingsLawful_dependsOn.kept_of_command (by simp [commandParts]) h

end Sys2Proof.Machine
end

section
/-! PROOFS. What closing findings keeps, the mark queues and the landmark list (first part of O58). -/

namespace Sys2Proof.Machine

/-! ### The parts beside those that a property reads -/

/-- Every part but these. -/
def Part.beside (qs : List Part) : List Part :=
  (Part.pending :: .between :: .now :: Part.blocks).filter (fun p => decide (p ∉ qs))

@[simp] theorem Part.mem_beside {qs : List Part} {p : Part} : p ∈ Part.beside qs ↔ p ∉ qs := by
  have hall : p ∈ Part.pending :: .between :: .now :: Part.blocks := by
    cases p <;> first | decide | (rename_i r; cases r <;> decide)
  simp only [Part.beside, List.mem_filter, decide_eq_true_eq, and_iff_right_iff_imp]
  exact fun _ => hall

theorem dependsOn.kept_beside {qs : List Part} {P : State → Prop} (hd : dependsOn qs P) {s t : State}
    (ht : TouchesOnly (Part.beside qs) s t) (hs : P s) : P t :=
  hd.kept_of_touches ht (by simp) hs

@[simp] theorem peel_abortOperation {ps : List Part} {s0 : State} (h : Part.line ∈ ps) (s : State) :
    TouchesOnly ps s0 (abortOperation s) ↔ TouchesOnly ps s0 s := by
  unfold abortOperation
  split <;> simp [h]

@[simp] theorem peel_restartLine {ps : List Part} {s0 : State} (h : Part.line ∈ ps) (s : State) :
    TouchesOnly ps s0 (restartLine s) ↔ TouchesOnly ps s0 s := by
  simp [restartLine, h]

@[simp] theorem peel_restartRun {ps : List Part} {s0 : State} (h : Part.run ∈ ps) (k : Part.line ∈ ps)
    (m : Part.router ∈ ps) (s : State) : TouchesOnly ps s0 (restartRun s) ↔ TouchesOnly ps s0 s := by
  simp [restartRun, h, k, m]

@[simp] theorem peel_restartRail {ps : List Part} {s0 : State} (r : Rail) (hf : Part.firing r ∈ ps) (he : Part.echo r ∈ ps)
    (ht : Part.tracker r ∈ ps) (ha : Part.assembler r ∈ ps) (k : Part.line ∈ ps) (m : Part.router ∈ ps) (s : State) :
    TouchesOnly ps s0 (restartRail s r) ↔ TouchesOnly ps s0 s := by
  simp [restartRail, hf, he, ht, ha, k, m]

@[simp] theorem peel_restartMarking {ps : List Part} {s0 : State} (r : Rail) (h : Part.marking r ∈ ps) (k : Part.line ∈ ps)
    (m : Part.router ∈ ps) (s : State) : TouchesOnly ps s0 (restartMarking s r) ↔ TouchesOnly ps s0 s := by
  simp [restartMarking, h, k, m]

@[simp] theorem peel_takeImageRecords {ps : List Part} {s0 : State} (h : Part.setup ∈ ps) (fl : Part.firing .left ∈ ps)
    (fr : Part.firing .right ∈ ps) (el : Part.echo .left ∈ ps) (er : Part.echo .right ∈ ps) (k : Part.line ∈ ps)
    (m : Part.router ∈ ps) (image : Setup) (s : State) :
    TouchesOnly ps s0 (takeImageRecords image s) ↔ TouchesOnly ps s0 s := by
  simp [takeImageRecords, bothRails, h, fl, fr, el, er, k, m]

/-! ### The search of a closed finding -/

/-- A search ends with some number of its queries reached. -/
theorem searchFrom_eq_seen (r : Rail) (f : Finding) (is : List (Fin 16)) (s : State) (m : Nat) :
    ∃ n, (searchFrom r f is (s.seen m)).1 = s.seen n := by
  induction is generalizing m with
  | nil => exact ⟨m, rfl⟩
  | cons i rest ih =>
    simp only [searchFrom]
    split
    · exact ih m
    · rename_i p _
      obtain ⟨k, hk⟩ : ∃ k, (if p.asks r f then reachQuery (s.seen m) else s.seen m) = s.seen k := by
        split
        · exact ⟨m + 1, reachQuery_seen s m⟩
        · exact ⟨m, rfl⟩
      rw [hk]
      split
      · exact ⟨k, rfl⟩
      · exact ih k

/-- So does a classification. -/
theorem classify_eq_seen (r : Rail) (f : Finding) (s : State) : ∃ n, (classify r f s).1 = s.seen n := by
  obtain ⟨n, hn⟩ := searchFrom_eq_seen r f (List.finRange 16) s 0
  refine ⟨n, ?_⟩
  rw [seen_zero] at hn
  unfold classify
  split <;> simp_all

/-! ### What closing findings keeps -/

/-- A property that every elementary part of closing findings of a rail keeps (R137 to R139). -/
structure KeptByClosing (P : State → Prop) (r : Rail) : Prop where
  query : ∀ s n, P s → P (s.seen n)
  assembler : ∀ s x, P s → P (s.setAssembler r x)
  offer : ∀ s x, P s → P (s.offer x)
  pulse : ∀ s x, P s → P (s.handPulse x)
  mark : ∀ s x, P s → P (s.requestMark r x)
  suppress : ∀ s, P s → P (s.setRun { s.run with suppressed := raiseCounter s.run.suppressed })
  drained : ∀ s, P s → P (s.setRun { s.run with drainNotices := s.run.drainNotices.set r true })

namespace KeptByClosing

variable {P : State → Prop} {r : Rail} (hk : KeptByClosing P r) {s : State}

include hk

theorem reportFinding (how : ClosedBy) (f : Finding) (v : Verdict) (a : ReportAction) (h : P s) :
    P (reportFinding r how f v a s) := by
  simp only [Machine.reportFinding]
  have h1 := hk.pulse _ (.finding r) (hk.offer _ (.finding ⟨r, nextNumber (s.assembler.get r).number, v.cls, v.pattern, a,
    a == .reportAndMark && (s.setup.rails.get r).markerEnable, how, f, f.peakDepth⟩)
    (hk.assembler s { s.assembler.get r with number := nextNumber (s.assembler.get r).number } h))
  split
  · exact hk.mark _ _ h1
  · exact h1

theorem closeFinding (how : ClosedBy) (x : Fin 16 × Finding) (h : P s) : P (closeFinding r how s x) := by
  have hc : P (classify r x.2 s).1 := by
    obtain ⟨n, hn⟩ := classify_eq_seen r x.2 s
    exact hn ▸ hk.query s n h
  simp only [Machine.closeFinding]
  refine hk.assembler _ _ ?_
  split
  · exact hk.reportFinding _ _ _ _ hc
  · exact hk.suppress _ hc

theorem closeFindings (how : ClosedBy) (which : Finding → Bool) (h : P s) : P (closeFindings r how which s) :=
  foldl_invariant _ P (fun _ x h => hk.closeFinding how x h) _ s h

theorem joinIndication (i : Contribution) (h : P s) : P (joinIndication r i s) := by
  simp only [Machine.joinIndication]
  split
  · unfold openFinding
    split
    · exact hk.assembler _ _ h
    · split
      · exact hk.assembler _ _ (hk.closeFinding _ _ h)
      · exact h
  · exact hk.assembler _ _ h

theorem takeIndication (h : P s) : P (takeIndication r s) := by
  unfold Machine.takeIndication
  split
  · exact hk.joinIndication _ (hk.assembler _ _ h)
  · exact h

theorem settleCheck (h : P s) : P (settleCheck r s) := by
  unfold Machine.settleCheck
  split
  · exact hk.closeFindings _ _ (hk.assembler _ _ h)
  · exact h

theorem assemblerFlushNotice (h : P s) : P (assemblerFlushNotice r s) := by
  unfold Machine.assemblerFlushNotice
  split
  · exact hk.closeFindings _ _ (hk.assembler _ _ h)
  · exact h

theorem assemblerDrainNotice (h : P s) : P (assemblerDrainNotice r s) := by
  unfold Machine.assemblerDrainNotice
  split
  · exact hk.drained _ (hk.closeFindings _ _ (hk.assembler _ _ h))
  · exact h

end KeptByClosing

/-! ### The mark queues -/

theorem insertMark_perm (m : Mark) (q : List Mark) : (insertMark m q).Perm (m :: q) := by
  induction q with
  | nil => exact .refl _
  | cons x rest ih =>
    unfold insertMark
    split
    · exact .refl _
    · exact (ih.cons x).trans (.swap m x rest)

/-- A mark whose target no queued mark has keeps the targets strictly ascending. -/
theorem insertMark_pairwise {m : Mark} {q : List Mark} (hq : (q.map Mark.target).Pairwise (· < ·))
    (hm : ∀ k ∈ q, k.target ≠ m.target) : ((insertMark m q).map Mark.target).Pairwise (· < ·) := by
  induction q with
  | nil => simp [insertMark]
  | cons x rest ih =>
    simp only [List.map_cons, List.pairwise_cons, List.mem_map, forall_exists_index, and_imp,
      forall_apply_eq_imp_iff₂] at hq
    obtain ⟨hx, hrest⟩ := hq
    unfold insertMark
    split
    · rename_i hlt
      simp only [List.map_cons, List.pairwise_cons, List.mem_cons, List.mem_map, forall_eq_or_imp, forall_exists_index, and_imp,
        forall_apply_eq_imp_iff₂]
      exact ⟨⟨hlt, fun k hk => Int.lt_trans hlt (hx k hk)⟩, hx, hrest⟩
    · rename_i hge
      have hne := hm x (by simp)
      simp only [List.map_cons, List.pairwise_cons, List.mem_map, forall_exists_index, and_imp, forall_apply_eq_imp_iff₂]
      refine ⟨fun k hk => ?_, ih hrest fun k hk => hm k (by simp [hk])⟩
      rcases List.mem_cons.mp ((insertMark_perm m rest).mem_iff.mp hk) with rfl | hk
      · omega
      · exact hx k hk

@[simp] theorem absorbAt_targets (t : Int) (q : List Mark) : (absorbAt t q).map Mark.target = q.map Mark.target := by
  simp only [absorbAt, List.map_map]
  refine List.map_congr_left fun m _ => ?_
  simp only [Function.comp]
  split <;> rfl

theorem MarkingUnit.lawful.of_sublist {u v : MarkingUnit} (h : u.lawful) (hs : v.queue.Sublist u.queue) : v.lawful := by
  obtain ⟨hlen, hasc, hmerged⟩ := h
  exact ⟨hs.length_le.trans hlen, hasc.sublist (hs.map _), fun k hk => hmerged k (hs.subset hk)⟩

theorem MarkingUnit.lawful.of_queue {u v : MarkingUnit} (h : u.lawful) (hq : v.queue = u.queue) : v.lawful :=
  h.of_sublist (hq ▸ List.Sublist.refl _)

theorem MarkingUnit.lawful_of_nil {u : MarkingUnit} (hq : u.queue = []) : u.lawful := by
  simp [MarkingUnit.lawful, hq]

/-- A request not within the merge distance of any queued mark meets no equal target: the queue stays in strict order. -/
theorem judgeRequest_lawful {u v : MarkingUnit} (h : u.lawful) (r : Rail) (q : MarkRequest) (merge : Nat)
    (hv : v.queue = (judgeRequest r q merge u).1) : v.lawful := by
  obtain ⟨hlen, hasc, hmerged⟩ := h
  unfold judgeRequest at hv
  split at hv
  · exact MarkingUnit.lawful.of_queue ⟨hlen, hasc, hmerged⟩ hv
  · split at hv
    · rename_i m _
      refine ⟨by simpa [hv, absorbAt] using hlen, by rw [hv, absorbAt_targets]; exact hasc, fun k hk => ?_⟩
      rw [hv] at hk
      obtain ⟨x, hx, rfl⟩ := List.mem_map.mp hk
      split
      · exact raise_le (hmerged x hx)
      · exact hmerged x hx
    · rename_i hnone
      split at hv
      · exact MarkingUnit.lawful.of_queue ⟨hlen, hasc, hmerged⟩ hv
      · rename_i hroom
        have hfar : ∀ k ∈ u.queue, k.target ≠ q.target := by
          intro k hk he
          rw [nearestMark_eq_argmin] at hnone
          have hmem : k ∈ u.queue.filter (fun m => decide ((m.target - q.target).natAbs ≤ merge)) := by
            simp [hk, he]
          rw [List.argmin_eq_none] at hnone
          simp [hnone] at hmem
        have hperm := insertMark_perm ⟨q.target, q.finding, 0⟩ u.queue
        rw [Config.markCapacity] at hroom
        refine ⟨?_, by rw [hv]; exact insertMark_pairwise hasc hfar, fun k hk => ?_⟩
        · rw [hv, hperm.length_eq, List.length_cons]
          omega
        · rw [hv] at hk
          rcases List.mem_cons.mp (hperm.mem_iff.mp hk) with rfl | hk
          · exact Nat.zero_le _
          · exact hmerged k hk

theorem marksLawful_dependsOn : dependsOn [.marking .left, .marking .right] State.marksLawful := by
  intro s t hst h r
  have hr : t.marking.get r = s.marking.get r := by cases r <;> exact hst (.marking _) (by simp)
  rw [hr]
  exact h r

theorem State.marksLawful.of_marking {s t : State} (h : s.marksLawful) (ht : t.marking = s.marking) : t.marksLawful := by
  intro r
  rw [ht]
  exact h r

theorem State.marksLawful.setMarking {s : State} (h : s.marksLawful) {r : Rail} {x : MarkingUnit}
    (hx : (s.marking.get r).lawful → x.lawful) : (s.setMarking r x).marksLawful :=
  Rails.forall_get_set (Q := fun _ u => MarkingUnit.lawful u) h (hx (h r))

theorem State.marksLawful.keepQueue {s : State} (h : s.marksLawful) {r : Rail} {x : MarkingUnit}
    (hx : x.queue = (s.marking.get r).queue) : (s.setMarking r x).marksLawful :=
  h.setMarking fun hu => hu.of_queue hx

theorem State.marksLawful.setMotion {s : State} (h : s.marksLawful) (m : Motion) : (s.setMotion m).marksLawful := by
  unfold Machine.State.setMotion
  dsimp only
  split
  · exact h
  · have h1 : ((s.setTravel { s.travel with motion := m }).handMotion .left m).marksLawful := h.keepQueue rfl
    exact h1.keepQueue (r := .right) rfl

theorem State.marksLawful.setSpray {s : State} (h : s.marksLawful) (r : Rail) (t : Option Nat) :
    (s.setSpray r t).marksLawful := by
  have h1 : (s.setMarking r { s.marking.get r with sprayEnd := t }).marksLawful := h.keepQueue rfl
  unfold Machine.State.setSpray
  dsimp only
  split
  · exact h1
  · exact h1.of_marking (by rfl)

theorem State.marksLawful.fireReached {r : Rail} {gun : Int} {q : List Mark} {s : State} (h : s.marksLawful)
    (hq : (s.marking.get r).queue = q) : (fireReached r gun q s).marksLawful := by
  induction q generalizing s with
  | nil => exact h
  | cons m rest ih =>
    unfold Machine.fireReached
    split
    · have h1 : (s.setMarking r { s.marking.get r with queue := rest }).marksLawful :=
        h.setMarking fun hu => hu.of_sublist (by rw [hq]; exact List.sublist_cons_self _ _)
      exact ih (State.marksLawful.setSpray (s := State.offer _ _) (h1.of_marking rfl) r _) (by simp [fireMark])
    · exact h

theorem State.marksLawful.discardMarks {s : State} (h : s.marksLawful) (r : Rail) : (discardMarks r s).marksLawful := by
  refine foldl_invariant State.offer State.marksLawful (fun _ _ h => h.of_marking (by rfl)) _ _ ?_
  exact h.setMarking fun _ => MarkingUnit.lawful_of_nil rfl

theorem State.marksLawful.handMove {s : State} (h : s.marksLawful) (r : Rail) (m : Move) : (s.handMove r m).marksLawful :=
  h.keepQueue rfl

theorem State.marksLawful.takeCount {s : State} (h : s.marksLawful) (sign : Int) : (takeCount sign s).marksLawful := by
  unfold Machine.takeCount
  extract_lets t t' events s1 s2 s3
  have h1 : s1.marksLawful := State.marksLawful.setMotion (h.of_marking (by rfl)) _
  have h2 : s2.marksLawful := iteInduction (fun _ => h1) (fun _ => (h1.handMove _ _).handMove _ _)
  have h3 : s3.marksLawful := iteInduction (fun _ => h2.of_marking (by rfl)) (fun _ => h2)
  exact iteInduction (fun _ => h3) (fun _ => h3.of_marking (by rfl))

theorem State.marksLawful.applyTravel {s : State} (h : s.marksLawful) (x : TravelSettings) :
    (applyTravel x s).marksLawful := by
  unfold Machine.applyTravel
  dsimp only
  split
  · exact h.of_marking (by rfl)
  · exact iteInduction (fun _ => State.marksLawful.setMotion (h.of_marking (by rfl)) _) (fun _ => h.of_marking (by rfl))

theorem State.marksLawful.takePosition {s : State} (h : s.marksLawful) (p : Int) : (takePosition p s).marksLawful := by
  unfold Machine.takePosition
  extract_lets t s1 s2
  have h2 : s2.marksLawful := by
    refine foldl_invariant _ State.marksLawful (fun t r ht => ?_) _ _ (h.of_marking rfl)
    exact State.marksLawful.keepQueue (State.marksLawful.discardMarks (s := t.setFiring r _) (ht.of_marking rfl) r) rfl
  exact h2.of_marking rfl

theorem State.marksLawful.takeRestart {s : State} (h : s.marksLawful) : (takeRestart s).marksLawful := by
  unfold Machine.takeRestart
  extract_lets s1 s2 l s3 s4
  have h3 : s3.marksLawful := marksLawful_dependsOn.kept_beside (by simp [s3, s2, s1, bothRails]) h
  have h4 : s4.marksLawful := foldl_invariant _ State.marksLawful
    (fun t r ht => State.marksLawful.setSpray (State.marksLawful.discardMarks ht r) r none) _ _ h3
  exact h4.of_marking (State.setRouter_marking _ _)

theorem marksLawful_powered (image : Option Setup) (now : Nat) (p : List Instr) (b : List (List LandmarkStep)) :
    (State.powered image now p b).marksLawful := fun r => by
  cases r <;> exact MarkingUnit.lawful_of_nil rfl

theorem marksLawful_keptByClosing (r : Rail) : KeptByClosing State.marksLawful r where
  query s n := marksLawful_dependsOn.kept_of_touches (touches_seen s n) (by simp)
  assembler _ _ h := h.of_marking (by rfl)
  offer _ _ h := h.of_marking (by rfl)
  pulse _ _ h := h.of_marking (by rfl)
  mark _ _ h := h.keepQueue rfl
  suppress _ h := h.of_marking (by rfl)
  drained _ h := h.of_marking (by rfl)

/-- Every step keeps the mark queues lawful. -/
theorem marksLawful_keptByEveryStep : keptByEveryStep State.marksLawful := by
  refine keptByEveryStep_of_commands marksLawful_dependsOn (by simp) (by simp) fun c s h => ?_
  have hrequest := @dependsOn.kept_of_request _ _ marksLawful_dependsOn (by simp)
  cases c with
  | powerOn => exact marksLawful_powered _ _ _ _
  | resetInput => exact marksLawful_powered _ _ _ _
  | encoderCount e =>
    show (encoderCount e s).marksLawful
    unfold encoderCount
    split
    · exact h
    · exact h.takeCount _
  | standstillExpiry =>
    show (standstillExpiry s).marksLawful
    unfold standstillExpiry
    split
    · exact h
    · split
      · exact h
      · exact State.marksLawful.setMotion (h.of_marking (by rfl)) _
  | indication r => exact (marksLawful_keptByClosing r).takeIndication h
  | settleCheck r => exact (marksLawful_keptByClosing r).settleCheck h
  | assemblerFlushNotice r => exact (marksLawful_keptByClosing r).assemblerFlushNotice h
  | assemblerDrainNotice r => exact (marksLawful_keptByClosing r).assemblerDrainNotice h
  | carPositionChange r =>
    show (carPositionChange r s).marksLawful
    unfold carPositionChange
    split
    · exact h
    · dsimp only
      split
      · exact State.marksLawful.fireReached (h.keepQueue rfl) rfl
      · exact h.keepQueue rfl
  | markRequest r =>
    show (markRequest r s).marksLawful
    unfold markRequest
    split
    · exact h
    · exact h.setMarking fun hu => judgeRequest_lawful hu r _ _ rfl
  | sprayEnd r =>
    show (sprayEnd r s).marksLawful
    unfold sprayEnd
    split
    · exact h
    · exact State.marksLawful.setSpray (h.of_marking (by rfl)) r none
  | setTravel q =>
    refine hrequest (fun f s h => ?_) h
    simp only [setTravel]
    split
    · exact h.of_marking (by rfl)
    · split
      · exact h.of_marking (by rfl)
      · split
        · exact h.of_marking (by rfl)
        · exact (h.applyTravel _).of_marking (State.reply_marking _ _ _ _ _)
  | setPosition p =>
    refine hrequest (fun f s h => ?_) h
    unfold setPosition
    split
    · exact (h.takePosition _).of_marking (State.reply_marking _ _ _ _ _)
    · exact h.of_marking (by rfl)
  | restart =>
    refine hrequest (fun f s h => ?_) h
    unfold restart
    split
    · exact h.of_marking (by rfl)
    · exact h.takeRestart.of_marking (State.reply_marking _ _ _ _ _)
  | setupReload =>
    refine hrequest (fun f s h => ?_) h
    unfold setupReload
    split
    · exact h.of_marking (by rfl)
    · split
      · exact h.of_marking (by rfl)
      · split
        · exact h.of_marking (by rfl)
        · rename_i image _
          exact marksLawful_dependsOn.kept_beside (by simp [applyImage]) (h.applyTravel image.travel)
  | _ => exact marksLawful_dependsOn.kept_of_command (by simp [commandParts]) h

end Sys2Proof.Machine
end

section
/-! PROOFS. The landmark list stays within its laws (second part of O58). -/

namespace Sys2Proof.Machine

/-- The entries of the list, as its law has them (R114). -/
def entriesLawful (es : List Landmark) : Prop :=
  es.length ≤ 64 ∧ es.Pairwise (fun a b => a.start ≤ b.start) ∧
    es.Pairwise (fun a b => ¬(a.start = b.start ∧ a.kind = b.kind ∧ a.rails = b.rails)) ∧ ∀ e ∈ es, e.length ≤ 1000000

theorem LandmarkList.lawful_iff {l : LandmarkList} : l.lawful ↔ entriesLawful l.entries ∧ l.retention ≤ 500000 := by
  unfold LandmarkList.lawful entriesLawful
  tauto

theorem entriesLawful.sublist {es fs : List Landmark} (h : entriesLawful es) (hs : fs.Sublist es) : entriesLawful fs := by
  obtain ⟨hlen, hasc, hdiff, hl⟩ := h
  exact ⟨hs.length_le.trans hlen, hasc.sublist hs, hdiff.sublist hs, fun e he => hl e (hs.subset he)⟩

theorem entriesLawful_nil : entriesLawful [] := by simp [entriesLawful]

theorem Landmark.sameAs_iff {a b : Landmark} : a.sameAs b = true ↔ a.start = b.start ∧ a.kind = b.kind ∧ a.rails = b.rails := by
  simp [Landmark.sameAs, and_assoc]

/-- In a list in order of start the last entry has the greatest. -/
theorem start_le_of_getLast? {es : List Landmark} (h : es.Pairwise (fun a b => a.start ≤ b.start)) {x : Int}
    (hl : ∀ l, es.getLast? = some l → l.start ≤ x) : ∀ a ∈ es, a.start ≤ x := by
  intro a ha
  obtain rfl | ⟨pre, l, rfl⟩ := List.eq_nil_or_concat' es
  · cases ha
  have hlx := hl l (by simp)
  rcases List.mem_append.mp ha with hp | hp
  · exact Int.le_trans ((List.pairwise_append.mp h).2.2 a hp l (by simp)) hlx
  · obtain rfl := List.mem_singleton.mp hp
    exact hlx

theorem lawful_of_clampLandmark {q : LandmarkFields} {e : Landmark} (h : q.clamp = some e) : e.length ≤ 1000000 := by
  unfold LandmarkFields.clamp at h
  split at h
  · cases h
    exact clampNat_le (by omega) _
  · cases h

/-- One more entry that passes the checks of R115. -/
theorem entriesLawful.append_one {es : List Landmark} (h : entriesLawful es) {e : Landmark} (hroom : es.length < 64)
    (horder : ∀ l, es.getLast? = some l → l.start ≤ e.start) (hdup : es.any e.sameAs = false) (hlen : e.length ≤ 1000000) :
    entriesLawful (es ++ [e]) := by
  obtain ⟨-, hasc, hdiff, hl⟩ := h
  refine ⟨by simp; omega, ?_, ?_, ?_⟩
  · rw [List.pairwise_append]
    exact ⟨hasc, List.pairwise_singleton _ _, fun a ha b hb => by
      obtain rfl := List.mem_singleton.mp hb
      exact start_le_of_getLast? hasc horder a ha⟩
  · rw [List.pairwise_append]
    refine ⟨hdiff, List.pairwise_singleton _ _, fun a ha b hb ⟨hs, hk, hr⟩ => ?_⟩
    obtain rfl := List.mem_singleton.mp hb
    have hsame : b.sameAs a = true := Landmark.sameAs_iff.mpr ⟨hs.symm, hk.symm, hr.symm⟩
    exact absurd hsame (List.any_eq_false.mp hdup a ha)
  · intro a ha
    rcases List.mem_append.mp ha with ha | ha
    · exact hl a ha
    · obtain rfl := List.mem_singleton.mp ha
      exact hlen

/-- What the checks of R115 pass joins lawful entries lawfully. -/
theorem entriesLawful_of_checkLandmarks {listed : Nat} {fs : List LandmarkFields} {known es : List Landmark} {i : Nat}
    (hk : entriesLawful known) (hi : known.length = listed + i) (h : checkLandmarks listed known i fs = .ok es) :
    entriesLawful (known ++ es) := by
  induction fs generalizing known es i with
  | nil =>
    cases h
    simpa using hk
  | cons f rest ih =>
    unfold checkLandmarks at h
    split at h
    · cases h
    · rename_i e he
      split at h
      · cases h
      · rename_i horder
        split at h
        · cases h
        · rename_i hdup
          split at h
          · cases h
          · rename_i hroom
            split at h
            · cases h
            · rename_i es' hes
              cases h
              have hfit : entriesLawful (known ++ [e]) := by
                refine hk.append_one ?_ ?_ (by simpa using hdup) (lawful_of_clampLandmark he)
                · have hle := hk.1
                  rw [Config.landmarkCapacity] at hroom
                  omega
                · intro l hl
                  simpa [hl] using horder
              have hrec := ih hfit (by simp; omega) hes
              simpa using hrec

theorem LandmarkList.lawful.retire {l : LandmarkList} (h : l.lawful) (x : Int) : (l.retire x).lawful := by
  rw [LandmarkList.lawful_iff] at h ⊢
  exact ⟨h.1.sublist List.filter_sublist, h.2⟩

theorem LandmarkList.lawful.setFrontiers {l : LandmarkList} (h : l.lawful) (xs : List Int) :
    LandmarkList.lawful { l with frontiers := xs } := h

theorem LandmarkList.lawful.cleared {l : LandmarkList} (h : l.lawful) : LandmarkList.lawful { l with entries := [] } :=
  LandmarkList.lawful_iff.mpr ⟨entriesLawful_nil, (LandmarkList.lawful_iff.mp h).2⟩

/-! ### What the commands do to the list -/

theorem listLawful_dependsOn : dependsOn [.landmarks] (fun s => s.landmarks.lawful) := by
  intro s t hst h
  have ht : t.landmarks = s.landmarks := hst .landmarks (by simp)
  show t.landmarks.lawful
  rw [ht]
  exact h

section
variable {s : State} (h : s.landmarks.lawful)
include h

theorem listLawful_frontierRetirement : (frontierRetirement s).landmarks.lawful := by
  unfold frontierRetirement
  split
  · exact h
  · exact (h.retire _).setFrontiers _

theorem listLawful_addLandmarks (fs : List LandmarkFields) (f : Frame) : (addLandmarks fs f s).landmarks.lawful := by
  unfold addLandmarks
  dsimp only
  split
  · exact h
  · split
    · exact h
    · rename_i es hes
      have hl : LandmarkList.lawful { s.landmarks with entries := s.landmarks.entries ++ es } := by
        rw [LandmarkList.lawful_iff] at h ⊢
        exact ⟨entriesLawful_of_checkLandmarks h.1 rfl hes, h.2⟩
      exact hl.retire _

end

theorem listLawful_clearLandmarks (d : Int) (f : Frame) (s : State) : (clearLandmarks d f s).landmarks.lawful :=
  LandmarkList.lawful_iff.mpr ⟨entriesLawful_nil, clampNat_le (by omega) _⟩

theorem listLawful_request {k : RequestKind} {n : Nat} {s : State} {act : Frame → State → State} (hs : s.landmarks.lawful)
    (hact : ∀ f s, s.landmarks.lawful → (act f s).landmarks.lawful) : (request k n s act).landmarks.lawful :=
  listLawful_dependsOn.kept_of_request (by simp) hact hs

theorem listLawful_landmarkStep {s : State} (h : s.landmarks.lawful) (l : LandmarkStep) :
    (landmarkStep s l).landmarks.lawful := by
  cases l with
  | retirement => exact listLawful_frontierRetirement h
  | add entries => exact listLawful_request h fun f s h => listLawful_addLandmarks h entries f
  | clear d => exact listLawful_request h fun f s _ => listLawful_clearLandmarks d f s

theorem listLawful_seen {s : State} (h : s.landmarks.lawful) (n : Nat) : (s.seen n).landmarks.lawful :=
  foldl_invariant landmarkStep (fun s => s.landmarks.lawful) (fun _ l h => listLawful_landmarkStep h l) _ s h

theorem listLawful_keptByClosing (r : Rail) : KeptByClosing (fun s => s.landmarks.lawful) r where
  query _ n h := listLawful_seen h n
  assembler _ _ h := h
  offer _ _ h := h
  pulse _ _ h := h
  mark _ _ h := h
  suppress _ h := h
  drained _ h := h

theorem listLawful_takeCount {s : State} (h : s.landmarks.lawful) (sign : Int) : (takeCount sign s).landmarks.lawful := by
  unfold takeCount
  extract_lets t t' events s1 s2 s3
  have h1 : s1.landmarks.lawful := by simpa [s1] using h
  have h2 : s2.landmarks.lawful := listLawful_dependsOn.kept_beside (s := s1) (by
    simp only [s2, State.handMove]
    split <;> simp) h1
  have h3 : s3.landmarks.lawful := iteInduction (motive := fun s : State => s.landmarks.lawful) (fun _ => h2.setFrontiers _) (fun _ => h2)
  exact listLawful_dependsOn.kept_beside (s := s3) (by
    simp only [State.handPitch]
    split <;> simp) h3

/-- Every step keeps the landmark list lawful. -/
theorem listLawful_keptByEveryStep : keptByEveryStep (fun s => s.landmarks.lawful) := by
  refine keptByEveryStep_of_commands listLawful_dependsOn (by simp) (by simp) fun c s h => ?_
  cases c with
  | powerOn => exact LandmarkList.lawful_iff.mpr ⟨entriesLawful_nil, (by decide : Config.defaultRetention ≤ 500000)⟩
  | resetInput => exact LandmarkList.lawful_iff.mpr ⟨entriesLawful_nil, (by decide : Config.defaultRetention ≤ 500000)⟩
  | encoderCount e =>
    show (encoderCount e s).landmarks.lawful
    unfold encoderCount
    split
    · exact h
    · exact listLawful_takeCount h _
  | indication r => exact (listLawful_keptByClosing r).takeIndication h
  | settleCheck r => exact (listLawful_keptByClosing r).settleCheck h
  | assemblerFlushNotice r => exact (listLawful_keptByClosing r).assemblerFlushNotice h
  | assemblerDrainNotice r => exact (listLawful_keptByClosing r).assemblerDrainNotice h
  | frontierRetirement => exact listLawful_frontierRetirement h
  | setPosition p =>
    refine listLawful_request h fun f s h => ?_
    unfold setPosition
    split
    · have hfold : ∀ (xs : List Int) (l : LandmarkList), l.lawful → (xs.foldl LandmarkList.retire l).lawful := by
        intro xs
        induction xs with
        | nil => exact fun l hl => hl
        | cons x rest ih => exact fun l hl => ih _ (hl.retire x)
      have hbefore : ∀ (t : State), t.landmarks = s.landmarks →
          (((t.landmarks.frontiers.foldl LandmarkList.retire t.landmarks).retire p.toInt)).lawful := by
        intro t ht
        rw [ht]
        exact (hfold _ _ h).retire _
      unfold takePosition
      extract_lets t s1 s2
      refine (hbefore s2 ?_).setFrontiers []
      exact (show TouchesOnly (Part.beside [.landmarks]) s s2 by simp [s2, s1, bothRails]) .landmarks (by simp)
    · exact h
  | addLandmarks entries => exact listLawful_request h fun f s h => listLawful_addLandmarks h entries f
  | clearLandmarks d => exact listLawful_request h fun f s _ => listLawful_clearLandmarks d f s
  | restart =>
    refine listLawful_request h fun f s h => ?_
    unfold restart
    split
    · exact h
    · unfold takeRestart
      extract_lets s1 s2 l s3 s4
      have hret : l = s.landmarks :=
        (show TouchesOnly (Part.beside [.landmarks]) s s2 by simp [s2, s1, bothRails]) .landmarks (by simp)
      have h3 : s3.landmarks.lawful := (hret ▸ h : l.lawful).cleared
      simp only [State.reply_landmarks, State.setRouter_landmarks]
      exact listLawful_dependsOn.kept_beside (s := s3) (t := s4) (by simp [s4, bothRails]) h3
  | _ => exact listLawful_dependsOn.kept_of_command (by simp [commandParts]) h

end Sys2Proof.Machine
end

section
/-! PROOFS. Traces, indications and findings stay within their laws (third part of O58). -/

namespace Sys2Proof.Machine

/-! ### Contributions and findings -/

theorem Contribution.lawful.combine {c i : Contribution} (hc : c.lawful) (hi : i.lawful) : (c.combine i).lawful := by
  simp only [Contribution.lawful, spanLawful, Contribution.combine, Config.counterMax] at *
  omega

@[simp] theorem Contribution.sameSource_iff {c i : Contribution} :
    c.sameSource i = true ↔ c.channel = i.channel ∧ c.gate = i.gate := by
  simp [Contribution.sameSource]

/-- Combining keeps the source of every contribution. -/
theorem sources_combine (cs : List Contribution) (i : Contribution) :
    (cs.map (fun c => if c.sameSource i then c.combine i else c)).map (fun c => (c.channel, c.gate)) =
      cs.map (fun c => (c.channel, c.gate)) := by
  rw [List.map_map]
  refine List.map_congr_left fun c _ => ?_
  simp only [Function.comp]
  split <;> rfl

/-- No two contributions of one channel and gate: the sources are pairwise different. -/
theorem distinctSources_iff {cs : List Contribution} :
    cs.Pairwise (fun a b => ¬(a.channel = b.channel ∧ a.gate = b.gate)) ↔ (cs.map (fun c => (c.channel, c.gate))).Nodup := by
  simp [List.Nodup, List.pairwise_map]

theorem Finding.lawful.place {f : Finding} (hf : f.lawful) {i : Contribution} (hi : i.lawful) : (f.place i).lawful := by
  obtain ⟨hspan, hlo, hhi, hdiff, hcs⟩ := hf
  unfold Finding.place
  split
  · refine ⟨hspan, by simpa using hlo, by simpa using hhi, ?_, ?_⟩
    · rw [distinctSources_iff] at hdiff ⊢
      rw [sources_combine]
      exact hdiff
    · intro c hc
      obtain ⟨x, hx, rfl⟩ := List.mem_map.mp hc
      split
      · exact (hcs x hx).combine hi
      · exact hcs x hx
  · rename_i hnew
    split
    · rename_i hroom
      rw [Config.contributionCapacity] at hroom
      refine ⟨hspan, by simp, by simp; omega, ?_, ?_⟩
      · rw [List.pairwise_append]
        refine ⟨hdiff, List.pairwise_singleton _ _, fun a ha b hb hsame => ?_⟩
        obtain rfl := List.mem_singleton.mp hb
        exact hnew (List.any_eq_true.mpr ⟨a, ha, Contribution.sameSource_iff.mpr hsame⟩)
      · intro c hc
        rcases List.mem_append.mp hc with hc | hc
        · exact hcs c hc
        · obtain rfl := List.mem_singleton.mp hc
          exact hi
    · exact ⟨hspan, hlo, hhi, hdiff, hcs⟩

/-- Placing changes neither span nor depths. -/
theorem Finding.place_span (f : Finding) (i : Contribution) :
    (f.place i).start = f.start ∧ (f.place i).finish = f.finish ∧ (f.place i).depthMin = f.depthMin ∧
      (f.place i).depthMax = f.depthMax := by
  unfold Finding.place
  split
  · exact ⟨rfl, rfl, rfl, rfl⟩
  · split <;> exact ⟨rfl, rfl, rfl, rfl⟩

theorem Finding.lawful.foldl_place {is : List Contribution} (hi : ∀ i ∈ is, i.lawful) {f : Finding} (hf : f.lawful) :
    (is.foldl Finding.place f).lawful := by
  induction is generalizing f with
  | nil => exact hf
  | cons i rest ih =>
    exact ih (fun j hj => hi j (List.mem_cons_of_mem i hj)) (hf.place (hi i List.mem_cons_self))

theorem Finding.lawful.add {f : Finding} (hf : f.lawful) {i : Contribution} (hi : i.lawful) : (f.add i).lawful := by
  obtain ⟨hspan, hrest⟩ := hf
  unfold Finding.add
  apply Finding.lawful.place _ hi
  refine ⟨?_, hrest⟩
  have hs := hi.1
  simp only [spanLawful] at *
  omega

theorem Finding.lawful.takeIn {f g : Finding} (hf : f.lawful) (hg : g.lawful) : (f.takeIn g).lawful := by
  obtain ⟨hspan, hrest⟩ := hf
  refine Finding.lawful.foldl_place hg.2.2.2.2 ⟨?_, hrest⟩
  have hs := hg.1
  simp only [spanLawful] at *
  omega

theorem Finding.lawful_openWith {i : Contribution} (hi : i.lawful) : (Finding.openWith i).lawful :=
  ⟨hi.1, by simp [Finding.openWith], by simp [Finding.openWith], by simp [Finding.openWith], by simpa [Finding.openWith] using hi⟩

/-! ### Traces -/

theorem Trace.lawful_openWith (h : KeptHit) : (Trace.openWith h).lawful := by
  simp [Trace.lawful, Trace.openWith]

theorem Trace.lawful.join {t : Trace} (ht : t.lawful) (h : KeptHit) : (t.join h).lawful := by
  have hle : raiseCounter t.hits ≤ 65535 := raiseCounter_le ht.2.2.2.2.2
  have hpos : 1 ≤ raiseCounter t.hits := raiseCounter_pos _
  simp only [Trace.lawful, Trace.join] at *
  omega

theorem Trace.lawful.toIndication {t : Trace} (ht : t.lawful) : t.toIndication.lawful := by
  simp only [Trace.lawful, Contribution.lawful, spanLawful, Trace.toIndication] at *
  omega

/-! ### The two tables -/

/-- The tracker's part of the law. -/
def Tracker.lawful (t : Tracker) : Prop :=
  (∀ (i : Fin 32) x, t.slots[i] = some x → x.lawful) ∧ t.overflow ≤ 65535 ∧ t.noise ≤ 65535

/-- The finding assembler's part of the law. -/
def Assembler.lawful (a : Assembler) : Prop :=
  (∀ (i : Fin 16) f, a.slots[i] = some f → f.lawful) ∧ a.number ≤ 65535 ∧ ∀ c, AssemblerItem.indication c ∈ a.inbox → c.lawful

theorem reflectorsLawful_iff {t : Tracker} {a : Assembler} : reflectorsLawful t a ↔ t.lawful ∧ a.lawful := by
  unfold reflectorsLawful Tracker.lawful Assembler.lawful
  tauto

theorem Tracker.lawful.setInbox {t : Tracker} (h : t.lawful) (xs : List TrackerItem) : Tracker.lawful { t with inbox := xs } := h

theorem Tracker.lawful.setSlot {t : Tracker} (h : t.lawful) (i : Fin 32) {o : Option Trace} (ho : ∀ x, o = some x → x.lawful) :
    Tracker.lawful { t with slots := setAt t.slots i o } :=
  ⟨forall_setAt (Q := fun o => ∀ x : Trace, o = some x → x.lawful) h.1 ho, h.2⟩

theorem Tracker.lawful_powerOn : Tracker.powerOn.lawful := by
  refine ⟨fun i x hx => ?_, by decide, by decide⟩
  simp [Tracker.powerOn] at hx

theorem Tracker.lawful.take {t : Tracker} (ht : t.lawful) (h : KeptHit) (pt dt : Nat) : (t.take h pt dt).lawful := by
  unfold Tracker.take
  split
  · rename_i i _
    refine ⟨fun j x hx => ?_, ht.2⟩
    rw [modifyAt_get] at hx
    split at hx
    · obtain ⟨y, hy, rfl⟩ := Option.map_eq_some_iff.mp hx
      exact (ht.1 j y hy).join h
    · exact ht.1 j x hx
  · split
    · refine ht.setSlot _ fun x hx => ?_
      cases hx
      exact Trace.lawful_openWith h
    · exact ⟨ht.1, raiseCounter_le ht.2.1, ht.2.2⟩

theorem Assembler.lawful.setSlot {a : Assembler} (h : a.lawful) (i : Fin 16) {o : Option Finding}
    (ho : ∀ x, o = some x → x.lawful) : Assembler.lawful { a with slots := setAt a.slots i o } :=
  ⟨forall_setAt (Q := fun o => ∀ x : Finding, o = some x → x.lawful) h.1 ho, h.2⟩

theorem Assembler.lawful.freeSlot {a : Assembler} (h : a.lawful) (i : Fin 16) :
    Assembler.lawful { a with slots := setAt a.slots i none } :=
  h.setSlot i fun _ hx => nomatch hx

theorem Assembler.lawful.foldl_free {a : Assembler} (h : a.lawful) (xs : List (Fin 16 × Finding)) :
    Assembler.lawful { a with slots := xs.foldl (fun v x => setAt v x.1 none) a.slots } := by
  induction xs generalizing a with
  | nil => exact h
  | cons x rest ih => exact ih (a := { a with slots := setAt a.slots x.1 none }) (h.freeSlot x.1)

theorem Assembler.lawful.withNumber {a : Assembler} (h : a.lawful) {n : Nat} (hn : n ≤ 65535) :
    Assembler.lawful { a with number := n } :=
  ⟨h.1, hn, h.2.2⟩

theorem Assembler.lawful.dropInput {a : Assembler} (h : a.lawful) : Assembler.lawful { a with inbox := a.inbox.tail } :=
  ⟨h.1, h.2.1, fun c hc => h.2.2 c (List.mem_of_mem_tail hc)⟩

theorem Assembler.lawful.hear {a : Assembler} (h : a.lawful) {x : AssemblerItem} (hx : ∀ c, x = .indication c → c.lawful) :
    Assembler.lawful { a with inbox := a.inbox ++ [x] } := by
  refine ⟨h.1, h.2.1, fun c hc => ?_⟩
  rcases List.mem_append.mp hc with hc | hc
  · exact h.2.2 c hc
  · exact hx c (List.mem_singleton.mp hc).symm

theorem Assembler.lawful_powerOn : Assembler.powerOn.lawful := by
  refine ⟨fun i x hx => ?_, by decide, fun c hc => ?_⟩
  · simp [Assembler.powerOn] at hx
  · cases hc

theorem nextNumber_le {n : Nat} (h : n ≤ 65535) : nextNumber n ≤ 65535 := by
  unfold nextNumber
  split <;> omega

/-! ### The open findings in order -/

theorem mem_insertFinding {x y : Fin 16 × Finding} {ys : List (Fin 16 × Finding)} :
    y ∈ insertFinding x ys ↔ y = x ∨ y ∈ ys := by
  induction ys with
  | nil => simp [insertFinding]
  | cons z rest ih =>
    unfold insertFinding
    split
    · simp
    · simp only [List.mem_cons, ih]
      tauto

/-- The findings in order are those of the table. -/
theorem mem_inOrder {a : Assembler} {i : Fin 16} {f : Finding} : (i, f) ∈ a.inOrder ↔ a.slots[i] = some f := by
  have hfold : ∀ (xs : List (Fin 16 × Finding)) y, y ∈ xs.foldr insertFinding [] ↔ y ∈ xs := by
    intro xs y
    induction xs with
    | nil => simp
    | cons x rest ih => rw [List.foldr_cons, mem_insertFinding, ih, List.mem_cons]
  rw [Assembler.inOrder, hfold, List.mem_filterMap]
  constructor
  · rintro ⟨j, -, hj⟩
    obtain ⟨g, hg, he⟩ := Option.map_eq_some_iff.mp hj
    cases he
    exact hg
  · intro hf
    exact ⟨i, List.mem_finRange i, by rw [hf]; rfl⟩

/-! ### What closing does to the assembler -/

theorem classify_assembler (r : Rail) (f : Finding) (s : State) : (classify r f s).1.assembler = s.assembler :=
  Rails.ext (touches_classify r f s (.assembler .left) (by simp)) (touches_classify r f s (.assembler .right) (by simp))

theorem reportFinding_assembler (r : Rail) (how : ClosedBy) (f : Finding) (v : Verdict) (a : ReportAction) (s : State) :
    (reportFinding r how f v a s).assembler =
      s.assembler.set r { s.assembler.get r with number := nextNumber (s.assembler.get r).number } := by
  simp only [reportFinding]
  split <;> simp

/-- Closing a finding frees its slot and may move the number on; the rest of the assembler stays (R137 to R139). -/
theorem closeFinding_assembler (r : Rail) (how : ClosedBy) (s : State) (x : Fin 16 × Finding) :
    ∃ n, (n = (s.assembler.get r).number ∨ n = nextNumber (s.assembler.get r).number) ∧
      (closeFinding r how s x).assembler =
        s.assembler.set r { s.assembler.get r with number := n, slots := setAt (s.assembler.get r).slots x.1 none } := by
  simp only [closeFinding]
  split
  · exact ⟨_, .inr rfl, by simp [reportFinding_assembler, classify_assembler]⟩
  · exact ⟨_, .inl rfl, by simp [classify_assembler]⟩

/-- Closing findings one after the other frees their slots. -/
theorem closeEach_assembler (r : Rail) (how : ClosedBy) (xs : List (Fin 16 × Finding)) (s : State) :
    ∃ n, ((s.assembler.get r).number ≤ 65535 → n ≤ 65535) ∧
      (xs.foldl (closeFinding r how) s).assembler =
        s.assembler.set r
          { s.assembler.get r with number := n, slots := xs.foldl (fun v x => setAt v x.1 none) (s.assembler.get r).slots } := by
  induction xs generalizing s with
  | nil => exact ⟨_, id, (Rails.set_get _ _).symm⟩
  | cons x rest ih =>
    obtain ⟨m, hm, hx⟩ := closeFinding_assembler r how s x
    obtain ⟨n, hn, hrest⟩ := ih (closeFinding r how s x)
    refine ⟨n, fun h => hn ?_, ?_⟩
    · rw [hx, Rails.get_set_same]
      rcases hm with rfl | rfl
      · exact h
      · exact nextNumber_le h
    · rw [List.foldl_cons, hrest, hx]
      simp

/-! ### The law of both rails -/

theorem reflectorsLawful_dependsOn :
    dependsOn [.tracker .left, .tracker .right, .assembler .left, .assembler .right] State.reflectorsLawful := by
  intro s t hst h r
  have ht : t.tracker.get r = s.tracker.get r := by cases r <;> exact hst (.tracker _) (by simp)
  have ha : t.assembler.get r = s.assembler.get r := by cases r <;> exact hst (.assembler _) (by simp)
  rw [ht, ha]
  exact h r

theorem State.reflectorsLawful.tracker {s : State} (h : s.reflectorsLawful) (r : Rail) : (s.tracker.get r).lawful :=
  (reflectorsLawful_iff.mp (h r)).1

theorem State.reflectorsLawful.assembler {s : State} (h : s.reflectorsLawful) (r : Rail) : (s.assembler.get r).lawful :=
  (reflectorsLawful_iff.mp (h r)).2

theorem State.reflectorsLawful.of_set {s t : State} (h : s.reflectorsLawful) {r : Rail} {x : Tracker} {y : Assembler}
    (hx : x.lawful) (hy : y.lawful) (ht : t.tracker = s.tracker.set r x) (ha : t.assembler = s.assembler.set r y) :
    t.reflectorsLawful := by
  intro q
  rw [ht, ha, reflectorsLawful_iff]
  exact ⟨Rails.forall_get_set (Q := fun _ x => Tracker.lawful x) h.tracker hx q,
    Rails.forall_get_set (Q := fun _ x => Assembler.lawful x) h.assembler hy q⟩

theorem State.reflectorsLawful.setTracker {s : State} (h : s.reflectorsLawful) {r : Rail} {x : Tracker} (hx : x.lawful) :
    (s.setTracker r x).reflectorsLawful :=
  h.of_set hx (h.assembler r) rfl (Rails.set_get _ _).symm

theorem State.reflectorsLawful.setAssembler {s : State} (h : s.reflectorsLawful) {r : Rail} {x : Assembler} (hx : x.lawful) :
    (s.setAssembler r x).reflectorsLawful :=
  h.of_set (h.tracker r) hx (Rails.set_get _ _).symm rfl

theorem State.reflectorsLawful.toTracker {s : State} (h : s.reflectorsLawful) (r : Rail) (x : TrackerItem) :
    (s.toTracker r x).reflectorsLawful :=
  h.setTracker ((h.tracker r).setInbox _)

theorem State.reflectorsLawful.dropTracker {s : State} (h : s.reflectorsLawful) (r : Rail) :
    (dropTracker r s).reflectorsLawful :=
  h.setTracker ((h.tracker r).setInbox _)

theorem State.reflectorsLawful.toAssembler {s : State} (h : s.reflectorsLawful) (r : Rail) {x : AssemblerItem}
    (hx : ∀ c, x = .indication c → c.lawful) : (s.toAssembler r x).reflectorsLawful :=
  h.setAssembler ((h.assembler r).hear hx)

theorem State.reflectorsLawful.dropAssembler {s : State} (h : s.reflectorsLawful) (r : Rail) :
    (dropAssembler r s).reflectorsLawful :=
  h.setAssembler (h.assembler r).dropInput

/-! ### What leaves the trackers alone -/

/-- A channel that leaves the plan changes nothing of the tracker, which has been handed it already. -/
theorem touches_leavePlan_cover (r : Rail) (s : State) (ch : Channel) :
    TouchesOnly [.echo r, .line, .router] s (leavePlan r s ch) := by
  have hcut := (touches_cutStretch r s ch).mono (qs := [.echo r, .line, .router]) (by simp)
  simp only [leavePlan]
  split <;> simpa using hcut

/-- A RESTART puts the trackers and the finding assemblers at their power-on values (R110, R144). -/
theorem restartRail_reflectors (s : State) (r : Rail) :
    (restartRail s r).tracker = s.tracker.set r Tracker.powerOn ∧
      (restartRail s r).assembler = s.assembler.set r Assembler.powerOn := by
  unfold restartRail
  extract_lets s1 s2 e s3
  have hs : TouchesOnly [.firing r, .echo r, .line, .router] s s3 := by simp [s3, s2, s1]
  have ht : s3.tracker = s.tracker := Rails.ext (hs (.tracker .left) (by simp)) (hs (.tracker .right) (by simp))
  have ha : s3.assembler = s.assembler := Rails.ext (hs (.assembler .left) (by simp)) (hs (.assembler .right) (by simp))
  simp [ht, ha]

theorem restartRails_reflectors (s : State) (r : Rail) :
    (bothRails.foldl restartRail s).tracker.get r = Tracker.powerOn ∧
      (bothRails.foldl restartRail s).assembler.get r = Assembler.powerOn := by
  cases r <;> simp [bothRails, restartRail_reflectors]

/-! ### The commands of the echo processor: they only add to the tracker's inputs -/

section
variable {s : State} (h : s.reflectorsLawful) (r : Rail)
include h

theorem State.reflectorsLawful.of_echo {t : State} (ht : TouchesOnly [.echo r, .line, .router] s t) : t.reflectorsLawful :=
  reflectorsLawful_dependsOn.kept_of_touches ht (by simp) h

theorem State.reflectorsLawful.processChannel (pf : Int) (c : CompletedChannel) : (processChannel r pf s c).reflectorsLawful := by
  unfold Machine.processChannel
  extract_lets res s1 blanked s2 fate s3
  have h2 : s2.reflectorsLawful := by
    refine State.reflectorsLawful.of_echo (h.of_echo r ((touches_captureSnapshot r pf c res.interface s).mono (by simp))) r ?_
    exact (touches_coverChannel r pf c res.pass blanked s1).mono (by simp)
  have h3 : s3.reflectorsLawful := by
    refine foldl_invariant _ State.reflectorsLawful (fun t g ht => ?_) _ _ h2
    unfold sortHit
    split
    · exact State.reflectorsLawful.toTracker (s := State.offer _ _) (ht.of_echo r (by simp)) r _
    · exact ht
  exact h3.toTracker r _

theorem State.reflectorsLawful.dropEcho : (dropEcho r s).reflectorsLawful := h.of_echo r (by simp)

theorem State.reflectorsLawful.completionProcessing : (completionProcessing r s).reflectorsLawful := by
  unfold Machine.completionProcessing
  split
  · exact State.reflectorsLawful.toTracker
      (foldl_invariant _ State.reflectorsLawful (fun t c ht => ht.processChannel r _ c) _ _ (h.dropEcho r)) r _
  · exact h

theorem State.reflectorsLawful.commitHandover : (commitHandover r s).reflectorsLawful := by
  unfold Machine.commitHandover
  split
  · rename_i leaving joining _
    have h1 := (h.dropEcho r).toTracker r (.leaving leaving)
    have h2 := foldl_invariant _ State.reflectorsLawful (fun t c ht => ht.of_echo r (touches_leavePlan_cover r t c)) leaving _ h1
    exact foldl_invariant _ State.reflectorsLawful (fun t c ht => ht.of_echo r (by simp [joinPlan])) _ _ h2
  · exact h

theorem State.reflectorsLawful.echoFlushNotice : (echoFlushNotice r s).reflectorsLawful := by
  unfold Machine.echoFlushNotice
  split
  · exact (h.dropEcho r).toTracker r _
  · exact h

theorem State.reflectorsLawful.echoDrainNotice : (echoDrainNotice r s).reflectorsLawful := by
  unfold Machine.echoDrainNotice
  split
  · refine State.reflectorsLawful.toTracker ?_ r _
    exact foldl_invariant _ State.reflectorsLawful
      (fun t ch ht => ht.of_echo r ((touches_cutStretch r t ch).mono (by simp))) _ _ (h.dropEcho r)
  · exact h

end

/-! ### The commands of the tracker -/

theorem State.reflectorsLawful.closeTraces {s : State} (h : s.reflectorsLawful) (r : Rail) (which : Trace → Bool) :
    (closeTraces r which s).reflectorsLawful := by
  refine foldl_invariant _ State.reflectorsLawful (fun s i h => ?_) _ s h
  unfold closeTrace
  dsimp only
  split
  · exact h
  · rename_i t ht
    have hfree := (h.tracker r).setSlot i (o := none) (fun _ hx => nomatch hx)
    split
    · split
      · refine State.reflectorsLawful.toAssembler (h.setTracker hfree) r fun c hc => ?_
        cases hc
        exact ((h.tracker r).1 i t ht).toIndication
      · exact h.setTracker ⟨hfree.1, hfree.2.1, raiseCounter_le hfree.2.2⟩
    · exact h

/-- The commands of the tracker keep the law: each takes its input, closes some traces and passes a notice on. -/
theorem State.reflectorsLawful.trackerHit {s : State} (h : s.reflectorsLawful) (r : Rail) :
    (trackerHit r s).reflectorsLawful := by
  unfold Machine.trackerHit
  split
  · split
    · exact h
    · exact State.reflectorsLawful.setTracker (h.dropTracker r) (((h.dropTracker r).tracker r).take _ _ _)
  · exact h

theorem State.reflectorsLawful.trackerCommitLeaving {s : State} (h : s.reflectorsLawful) (r : Rail) :
    (trackerCommitLeaving r s).reflectorsLawful := by
  unfold Machine.trackerCommitLeaving
  split
  · exact foldl_invariant _ State.reflectorsLawful (fun s ch h => State.reflectorsLawful.closeTraces h r _) _ _ (h.dropTracker r)
  · exact h

theorem State.reflectorsLawful.closeAndPass {s : State} (h : s.reflectorsLawful) (r : Rail) (which : Trace → Bool)
    {x : AssemblerItem} (hx : ∀ c, x = .indication c → c.lawful) :
    ((Machine.closeTraces r which (Machine.dropTracker r s)).toAssembler r x).reflectorsLawful :=
  State.reflectorsLawful.toAssembler (State.reflectorsLawful.closeTraces (h.dropTracker r) r which) r hx

/-! ### The commands of the finding assembler -/

theorem State.reflectorsLawful.closeFindings {s : State} (h : s.reflectorsLawful) (r : Rail) (how : ClosedBy)
    (which : Finding → Bool) : (closeFindings r how which s).reflectorsLawful := by
  obtain ⟨n, hn, ha⟩ := closeEach_assembler r how ((s.assembler.get r).inOrder.filter (fun x => which x.2)) s
  have hfree := (h.assembler r).foldl_free ((s.assembler.get r).inOrder.filter (fun x => which x.2))
  have ht : (Machine.closeFindings r how which s).tracker = s.tracker :=
    Rails.ext (touches_closeFindings r how which s (.tracker .left) (by simp [Part.closing]))
      (touches_closeFindings r how which s (.tracker .right) (by simp [Part.closing]))
  exact h.of_set (h.tracker r) (hfree.withNumber (hn hfree.2.1)) (ht.trans (Rails.set_get _ _).symm) ha

theorem State.reflectorsLawful.setSlot {s : State} (h : s.reflectorsLawful) (r : Rail) (i : Fin 16) {o : Option Finding}
    (ho : ∀ x, o = some x → x.lawful) : (s.setSlot r i o).reflectorsLawful :=
  h.setAssembler ((h.assembler r).setSlot i ho)

theorem State.reflectorsLawful.openFinding {s : State} (h : s.reflectorsLawful) (r : Rail) {i : Contribution}
    (hi : i.lawful) : (openFinding r i s).reflectorsLawful := by
  have hopen : ∀ x, some (Finding.openWith i) = some x → x.lawful := by
    rintro x ⟨⟩
    exact Finding.lawful_openWith hi
  unfold Machine.openFinding
  split
  · exact h.setSlot r _ hopen
  · split
    · rename_i x _
      obtain ⟨n, hn, ha⟩ := closeEach_assembler r .forced [x] s
      have hfree := (h.assembler r).freeSlot x.1
      have ht : (closeFinding r .forced s x).tracker = s.tracker :=
        Rails.ext (touches_closeFinding r .forced s x (.tracker .left) (by simp [Part.closing]))
          (touches_closeFinding r .forced s x (.tracker .right) (by simp [Part.closing]))
      have hclosed : (closeFinding r .forced s x).reflectorsLawful :=
        h.of_set (h.tracker r) (hfree.withNumber (hn hfree.2.1)) (ht.trans (Rails.set_get _ _).symm) ha
      exact hclosed.setSlot r _ hopen
    · exact h

/-- The merged finding of an indication and the findings it overlaps. -/
theorem Finding.lawful_merged {f : Finding} {others : List (Fin 16 × Finding)} {i : Contribution} (hf : f.lawful)
    (ho : ∀ x ∈ others, x.2.lawful) (hi : i.lawful) : ((others.foldl (fun f x => f.takeIn x.2) f).add i).lawful := by
  refine Finding.lawful.add ?_ hi
  induction others generalizing f with
  | nil => exact hf
  | cons x rest ih =>
    exact ih (hf.takeIn (ho x List.mem_cons_self)) fun y hy => ho y (List.mem_cons_of_mem x hy)

theorem State.reflectorsLawful.joinIndication {s : State} (h : s.reflectorsLawful) (r : Rail) {i : Contribution}
    (hi : i.lawful) : (joinIndication r i s).reflectorsLawful := by
  unfold Machine.joinIndication
  dsimp only
  split
  · exact h.openFinding r hi
  · rename_i k f others hover
    have hmem : ∀ x ∈ (k, f) :: others, x.2.lawful := by
      intro x hx
      rw [← hover] at hx
      exact (h.assembler r).1 x.1 x.2 (mem_inOrder.mp (List.mem_of_mem_filter hx))
    refine h.setAssembler (((h.assembler r).foldl_free others).setSlot k fun x hx => ?_)
    cases hx
    exact Finding.lawful_merged (hmem _ List.mem_cons_self) (fun x hx => hmem x (List.mem_cons_of_mem _ hx)) hi

theorem State.reflectorsLawful.takeIndication {s : State} (h : s.reflectorsLawful) (r : Rail) :
    (takeIndication r s).reflectorsLawful := by
  unfold Machine.takeIndication
  split
  · rename_i i hi
    exact (h.dropAssembler r).joinIndication r ((h.assembler r).2.2 i (List.mem_of_mem_head? hi))
  · exact h

/-! ### Every step -/

/-- Every step keeps traces, indications and findings lawful. -/
theorem reflectorsLawful_keptByEveryStep : keptByEveryStep State.reflectorsLawful := by
  refine keptByEveryStep_of_commands reflectorsLawful_dependsOn (by simp) (by simp) fun c s h => ?_
  have hpowered : (powerOn s).reflectorsLawful := fun r => by
    cases r <;> exact reflectorsLawful_iff.mpr ⟨Tracker.lawful_powerOn, Assembler.lawful_powerOn⟩
  cases c with
  | powerOn => exact hpowered
  | resetInput => exact hpowered
  | completionProcessing r => exact h.completionProcessing r
  | commitHandover r => exact h.commitHandover r
  | echoFlushNotice r => exact h.echoFlushNotice r
  | echoDrainNotice r => exact h.echoDrainNotice r
  | trackerHit r => exact h.trackerHit r
  | channelEndNotice r =>
    show (channelEndNotice r s).reflectorsLawful
    unfold channelEndNotice
    split
    · exact State.reflectorsLawful.closeTraces (h.dropTracker r) r _
    · exact h
  | trackerCompletionNotice r =>
    show (trackerCompletionNotice r s).reflectorsLawful
    unfold trackerCompletionNotice
    split
    · exact (h.dropTracker r).toAssembler r fun c hc => nomatch hc
    · exact h
  | trackerCommitLeaving r => exact h.trackerCommitLeaving r
  | trackerFlushNotice r =>
    show (trackerFlushNotice r s).reflectorsLawful
    unfold trackerFlushNotice
    split
    · exact h.closeAndPass r _ fun c hc => nomatch hc
    · exact h
  | trackerDrainNotice r =>
    show (trackerDrainNotice r s).reflectorsLawful
    unfold trackerDrainNotice
    split
    · exact h.closeAndPass r _ fun c hc => nomatch hc
    · exact h
  | indication r => exact h.takeIndication r
  | settleCheck r =>
    show (settleCheck r s).reflectorsLawful
    unfold settleCheck
    split
    · exact (h.dropAssembler r).closeFindings r _ _
    · exact h
  | assemblerFlushNotice r =>
    show (assemblerFlushNotice r s).reflectorsLawful
    unfold assemblerFlushNotice
    split
    · exact (h.dropAssembler r).closeFindings r _ _
    · exact h
  | assemblerDrainNotice r =>
    show (assemblerDrainNotice r s).reflectorsLawful
    unfold assemblerDrainNotice
    split
    · exact (h.dropAssembler r).closeFindings r _ _
    · exact h
  | restart =>
    refine reflectorsLawful_dependsOn.kept_of_request (by simp) (fun f s h => ?_) h
    unfold restart
    split
    · exact h
    · have hrails := restartRails_reflectors (restartRun (restartLine s))
      refine reflectorsLawful_dependsOn.kept_beside (s := bothRails.foldl restartRail (restartRun (restartLine s))) ?_ fun r => ?_
      · simp [takeRestart, bothRails]
      · rw [(hrails r).1, (hrails r).2]
        exact reflectorsLawful_iff.mpr ⟨Tracker.lawful_powerOn, Assembler.lawful_powerOn⟩
  | _ => exact reflectorsLawful_dependsOn.kept_of_command (by simp [commandParts]) h

end Sys2Proof.Machine
end

section
/-! PROOFS. The coverage stays within its laws (last part of O58), and O58. -/

namespace Sys2Proof.Machine

/-! ### One channel's coverage -/

theorem raise_pos {greatest : Nat} (h : 0 < greatest) (c : Nat) : 0 < raise greatest c := by
  unfold raise
  split <;> omega

/-- The counts and the first-fail position, as the law has them. -/
def Cover.countsLawful (c : Cover) : Prop :=
  c.failCount ≤ 255 ∧ c.passCount ≤ 255 ∧ (c.failCount = 0 ∨ c.passCount = 0) ∧ (c.firstFail.isSome = true ↔ 0 < c.failCount)

/-- An open stretch has a cause. -/
def Cover.causesLawful (c : Cover) : Prop :=
  ∀ x, c.stretch = some x → x.causes.coupling = true ∨ x.causes.blanked = true ∨ x.causes.spacing = true

theorem Cover.lawful_iff {c : Cover} :
    c.lawful ↔ c.countsLawful ∧ c.causesLawful ∧ (c.stretch.isSome = true → c.lastProbe.isSome = true) := by
  unfold Cover.lawful Cover.countsLawful Cover.causesLawful
  constructor
  · rintro ⟨h1, h2, h3, h4, h5⟩
    refine ⟨⟨h1, h2, h3, h4⟩, fun x hx => (h5 x hx).2, fun hs => ?_⟩
    obtain ⟨x, hx⟩ := Option.isSome_iff_exists.mp hs
    exact (h5 x hx).1
  · rintro ⟨⟨h1, h2, h3, h4⟩, h5, h6⟩
    exact ⟨h1, h2, h3, h4, fun x hx => ⟨h6 (by rw [hx]; rfl), h5 x hx⟩⟩

theorem Cover.lawful_fresh (inPlan : Bool) : (Cover.fresh inPlan).lawful := by
  simp [Cover.lawful, Cover.fresh]

theorem Cover.countsLawful.count {c : Cover} (h : c.countsLawful) (r : ChannelRecord) (pass : Bool) (pp : Int) :
    (c.count r pass pp).countsLawful := by
  obtain ⟨hf, hp, -, hfirst⟩ := h
  cases pass with
  | true => exact ⟨by simp [Cover.count], raise_le hp, .inl rfl, by simp [Cover.count]⟩
  | false =>
    refine ⟨raise_le hf, by simp [Cover.count], .inr rfl, ?_⟩
    have hpos : 0 < (c.count r false pp).failCount := raise_pos (by omega) _
    refine iff_of_true ?_ hpos
    by_cases hz : c.failCount = 0
    · simp [Cover.count, hz]
    · simpa [Cover.count, hz] using hfirst.mpr (by omega)

theorem Cover.countsLawful.moveFirstFail {c : Cover} (h : c.countsLawful) (pp : Int) : (c.moveFirstFail pp).countsLawful := by
  obtain ⟨hf, hp, hz, hfirst⟩ := h
  refine ⟨hf, hp, hz, ?_⟩
  by_cases h0 : 0 < c.failCount
  · simp [Cover.moveFirstFail, h0]
  · simpa [Cover.moveFirstFail, h0] using hfirst

/-- The counts and the causes stay lawful through steps 3 to 6 of R63. -/
def Cover.stepLawful (c : Cover) : Prop := c.countsLawful ∧ c.causesLawful

theorem Cover.stepLawful.loseCoupling {c : Cover} (h : c.stepLawful) (pp : Int) : (c.loseCoupling pp).stepLawful := by
  refine ⟨h.1, fun x hx => .inl ?_⟩
  obtain rfl := Option.some.inj hx
  split <;> rfl

theorem Cover.stepLawful.blank {c : Cover} (h : c.stepLawful) (pp : Int) : (c.blank pp).stepLawful := by
  refine ⟨h.1, fun x hx => .inr (.inl ?_)⟩
  obtain rfl := Option.some.inj hx
  split <;> rfl

theorem Cover.stepLawful.space {c : Cover} (h : c.stepLawful) (r : ChannelRecord) (pf pp : Int) :
    (c.space r pf pp).1.stepLawful := by
  unfold Cover.space
  split
  · split
    · refine ⟨h.1, fun x hx => .inr (.inr ?_)⟩
      obtain rfl := Option.some.inj hx
      rfl
    · exact ⟨h.1.moveFirstFail pp, h.2⟩
  · exact h

theorem Cover.stepLawful.close {c : Cover} (h : c.stepLawful) (pp : Int) : (c.close pp).1.stepLawful := by
  unfold Cover.close
  split
  · exact ⟨Cover.countsLawful.moveFirstFail (c := { c with stretch := none }) h.1 pp, fun x hx => nomatch hx⟩
  · exact h

theorem Cover.stepLawful.stretches {c : Cover} (h : c.stepLawful) (r : ChannelRecord) (pf : Int) (entered blanked : Bool) :
    (c.stretches r pf entered blanked).1.lawful := by
  unfold Cover.stretches
  extract_lets pp c1 c2
  have h1 : c1.stepLawful := iteInduction (fun _ => h.loseCoupling pp) (fun _ => h)
  have h2 : c2.stepLawful := iteInduction (fun _ => h1.blank pp) (fun _ => h1)
  have h3 := h2.space r pf pp
  dsimp only
  have h4 : (if blanked || (c2.space r pf pp).1.coupling == .uncoupled then ((c2.space r pf pp).1, [])
      else (c2.space r pf pp).1.close pp).1.stepLawful := by
    split
    · exact h3
    · exact h3.close pp
  exact Cover.lawful_iff.mpr ⟨h4.1, h4.2, fun _ => rfl⟩

theorem Cover.lawful.cut {c : Cover} (h : c.lawful) : Cover.lawful { c with stretch := none } := by
  obtain ⟨h1, -, -⟩ := Cover.lawful_iff.mp h
  exact Cover.lawful_iff.mpr ⟨h1, fun x hx => (nomatch hx), fun hs => nomatch hs⟩

/-! ### The coverage of the unit -/

theorem coverageLawful_dependsOn : dependsOn [.echo .left, .echo .right] State.coverageLawful := by
  intro s t hst h r
  have hr : t.echo.get r = s.echo.get r := by cases r <;> exact hst (.echo _) (by simp)
  rw [hr]
  exact h r

section
variable {s : State} (h : s.coverageLawful) (r : Rail)
include h

theorem State.coverageLawful.setEcho {x : EchoProcessor} (hx : ∀ ch : Channel, (x.cover[ch]).lawful) :
    (s.setEcho r x).coverageLawful :=
  Rails.forall_get_set (Q := fun _ (x : EchoProcessor) => ∀ ch : Channel, (x.cover[ch]).lawful) h hx

/-- Whatever leaves a rail's table of coverage alone. -/
theorem State.coverageLawful.keepCover {x : EchoProcessor} (hx : x.cover = (s.echo.get r).cover) :
    (s.setEcho r x).coverageLawful :=
  h.setEcho r fun ch => by rw [hx]; exact h r ch

theorem State.coverageLawful.of_beside {t : State} (ht : TouchesOnly (Part.beside [.echo .left, .echo .right]) s t) :
    t.coverageLawful :=
  coverageLawful_dependsOn.kept_beside ht h

theorem State.coverageLawful.toEcho (x : EchoItem) : (s.toEcho r x).coverageLawful := h.keepCover r rfl

theorem State.coverageLawful.dropEcho : (dropEcho r s).coverageLawful := h.keepCover r rfl

theorem State.coverageLawful.setCover (ch : Channel) {c : Cover} (hc : c.lawful) : (s.setCover r ch c).coverageLawful := by
  have h1 := h.setEcho r (x := { s.echo.get r with cover := setAt (s.echo.get r).cover ch c })
    (forall_setAt (Q := Cover.lawful) (h r) hc)
  unfold Machine.State.setCover
  dsimp only
  split
  · exact h1
  · exact h1.of_beside (by simp)

theorem State.coverageLawful.resetCoverage : (s.resetCoverage r).coverageLawful :=
  foldl_invariant _ State.coverageLawful (fun _ ch ht => ht.setCover r ch (Cover.lawful_fresh _)) _ s h

theorem State.coverageLawful.captureSnapshot (pf : Int) (c : CompletedChannel) (i : Option Hit) :
    (captureSnapshot r pf c i s).coverageLawful := by
  unfold Machine.captureSnapshot
  split
  · have h1 := h.keepCover r (x := { s.echo.get r with snapshot := .idle }) rfl
    exact h1.of_beside (by simp)
  · exact h

theorem State.coverageLawful.cancelSnapshot : (cancelSnapshot r s).coverageLawful := by
  unfold Machine.cancelSnapshot
  split
  · exact h
  · have h1 := h.keepCover r (x := { s.echo.get r with snapshot := .idle }) rfl
    exact h1.of_beside (by simp)

theorem State.coverageLawful.coverChannel (pf : Int) (c : CompletedChannel) (pass blanked : Bool) :
    (coverChannel r pf c pass blanked s).coverageLawful := by
  unfold Machine.coverChannel
  extract_lets old counted entered
  have hold := Cover.lawful_iff.mp (h r c.channel)
  have hstep : counted.stepLawful := ⟨hold.1.count _ _ _, hold.2.1⟩
  exact State.coverageLawful.of_beside
    (h.setCover r c.channel (hstep.stretches c.record pf entered blanked)) (by simp)

theorem State.coverageLawful.processChannel (pf : Int) (c : CompletedChannel) : (processChannel r pf s c).coverageLawful := by
  unfold Machine.processChannel
  extract_lets res s1 blanked s2 fate s3
  have h2 : s2.coverageLawful := (h.captureSnapshot r pf c res.interface).coverChannel r pf c res.pass blanked
  refine h2.of_beside ?_
  have h3 : TouchesOnly (Part.beside [.echo .left, .echo .right]) s2 s3 :=
    TouchesOnly.foldl (fun t g => (touches_sortHit r pf c fate res t g).mono (by simp)) _ _
  simpa using h3

theorem State.coverageLawful.cutStretch (ch : Channel) : (cutStretch r s ch).coverageLawful := by
  unfold Machine.cutStretch
  dsimp only
  split
  · exact h
  · exact State.coverageLawful.of_beside (h.setCover r ch (h r ch).cut) (by simp)

theorem State.coverageLawful.leavePlan (ch : Channel) : (leavePlan r s ch).coverageLawful := by
  have h1 := (h.cutStretch r ch).setCover r ch (Cover.lawful_fresh false)
  unfold Machine.leavePlan
  dsimp only
  split
  · exact h1.cancelSnapshot r
  · exact h1

theorem State.coverageLawful.startGroup (q : PitchRequest) : (startGroup r q s).coverageLawful :=
  State.coverageLawful.keepCover (s := s.setFiring r _) (h.of_beside (by simp)) r rfl

theorem State.coverageLawful.takeRequestBound (q : PitchRequest) : (takeRequestBound r q s).coverageLawful := by
  unfold Machine.takeRequestBound
  dsimp only
  split
  · exact h.startGroup r q
  · split <;> exact h.of_beside (by simp)

theorem State.coverageLawful.bindPitch (b : Int) : (bindPitch r b s).coverageLawful := by
  unfold Machine.bindPitch
  dsimp only
  split
  · exact h
  · exact State.coverageLawful.takeRequestBound (s := s.setFiring r _) (h.of_beside (by simp)) r _

theorem State.coverageLawful.sendDrainNotice : (sendDrainNotice r s).coverageLawful := by
  unfold Machine.sendDrainNotice
  split
  · exact h.toEcho r .drain
  · exact h

theorem State.coverageLawful.pitchEvent : (pitchEvent r s).coverageLawful := by
  unfold Machine.pitchEvent
  split
  · exact h
  · rename_i b rest _
    have h1 : (s.setFiring r { s.firing.get r with pitchEvents := rest }).coverageLawful := h.of_beside (by simp)
    dsimp only
    split
    · split
      · rename_i p _
        have h2 : ∀ t : State, t.coverageLawful → (commitPlan r p t).coverageLawful := fun t ht =>
          State.coverageLawful.toEcho (s := (t.setPlan r p).setFiring r _) (ht.of_beside (by simp [State.setPlan])) r _
        split
        · exact (h2 _ h1).bindPitch r b
        · exact h1.bindPitch r b
      · exact h1.bindPitch r b
    · exact h1

theorem State.coverageLawful.groupCompletion (l : LaneSamples) : (groupCompletion r l s).coverageLawful := by
  unfold Machine.groupCompletion
  split
  · exact h
  · rename_i f _
    have h1 : ((s.advanceTo f.endTime).toEcho r
        (.completion f.position f.group ((s.advanceTo f.endTime).completed r l f))).coverageLawful :=
      State.coverageLawful.toEcho (h.of_beside (by simp)) r _
    dsimp only
    split
    · exact State.coverageLawful.startGroup (h1.of_beside (by simp)) r _
    · exact State.coverageLawful.sendDrainNotice (h1.of_beside (by simp)) r

theorem State.coverageLawful.takePlan (p : Plan) : (takePlan r p s).coverageLawful := by
  unfold Machine.takePlan
  split
  · unfold takePlanNow
    dsimp only
    refine foldl_invariant _ State.coverageLawful (fun _ ch ht => ht.setCover r ch (Cover.lawful_fresh true)) _ _ ?_
    refine foldl_invariant _ State.coverageLawful (fun _ ch ht => ht.setCover r ch (Cover.lawful_fresh false)) _ _ ?_
    exact h.of_beside (by simp [State.setPlan])
  · exact h.of_beside (by simp)

theorem State.coverageLawful.restartRail : (restartRail s r).coverageLawful := by
  unfold Machine.restartRail
  extract_lets s1 s2 e s3
  have h1 : s1.coverageLawful := State.coverageLawful.cancelSnapshot (h.of_beside (by simp)) r
  have h2 : s2.coverageLawful := h1.resetCoverage r
  have h3 : s3.coverageLawful := h2.keepCover r rfl
  exact h3.of_beside (by simp)

end

/-- Every step keeps the coverage lawful. -/
theorem coverageLawful_keptByEveryStep : keptByEveryStep State.coverageLawful := by
  refine keptByEveryStep_of_commands coverageLawful_dependsOn (by simp) (by simp) fun c s h => ?_
  have hrequest := @dependsOn.kept_of_request _ _ coverageLawful_dependsOn (by simp)
  have hpowered : (powerOn s).coverageLawful := by
    have hfresh : ∀ (p : Plan) (ch : Channel), ((EchoProcessor.powerOn p).cover[ch]).lawful := fun p ch => by
      simpa [EchoProcessor.powerOn] using Cover.lawful_fresh _
    intro r ch
    cases r <;> exact hfresh _ ch
  have hreply : ∀ {t : State}, t.coverageLawful → ∀ f c i p, (t.reply f c i p).coverageLawful :=
    fun ht f c i p => ht.of_beside (by simp)
  cases c with
  | powerOn => exact hpowered
  | resetInput => exact hpowered
  | pitchEvent r => exact h.pitchEvent r
  | groupCompletion r l => exact h.groupCompletion r l
  | completionProcessing r =>
    show (completionProcessing r s).coverageLawful
    unfold completionProcessing
    split
    · refine State.coverageLawful.of_beside ?_ (peel_toTracker r (by simp) _ _ |>.mpr (.refl _ _))
      exact foldl_invariant _ State.coverageLawful (fun t c ht => ht.processChannel r _ c) _ _ (h.dropEcho r)
    · exact h
  | commitHandover r =>
    show (commitHandover r s).coverageLawful
    unfold commitHandover
    split
    · refine foldl_invariant _ State.coverageLawful (fun t ch ht => ht.setCover r ch (Cover.lawful_fresh true)) _ _ ?_
      refine foldl_invariant _ State.coverageLawful (fun t ch ht => ht.leavePlan r ch) _ _ ?_
      exact (h.dropEcho r).of_beside (by simp)
    · exact h
  | echoFlushNotice r =>
    show (echoFlushNotice r s).coverageLawful
    unfold echoFlushNotice
    split
    · exact (h.dropEcho r).of_beside (by simp)
    · exact h
  | echoDrainNotice r =>
    show (echoDrainNotice r s).coverageLawful
    unfold echoDrainNotice
    split
    · refine State.coverageLawful.of_beside ?_ (peel_toTracker r (by simp) _ _ |>.mpr (.refl _ _))
      exact foldl_invariant _ State.coverageLawful (fun t ch ht => ht.cutStretch r ch) _ _ (h.dropEcho r)
    · exact h
  | stagePlan q =>
    refine hrequest (fun f s h => ?_) h
    unfold stagePlan
    split
    · exact hreply h _ _ _ _
    · split
      · exact hreply h _ _ _ _
      · split
        · exact hreply h _ _ _ _
        · split
          · exact hreply h _ _ _ _
          · exact hreply (h.takePlan _ _) _ _ _ _
  | snapshot =>
    refine hrequest (fun f s h => ?_) h
    unfold snapshot
    split
    · split
      · exact hreply h _ _ _ _
      · split
        · exact hreply h _ _ _ _
        · exact hreply (h.keepCover _ (by rfl)) _ _ _ _
    · exact hreply h _ _ _ _
  | runStart =>
    refine hrequest (fun f s h => ?_) h
    unfold runStart
    split
    · exact hreply h _ _ _ _
    · split
      · exact hreply h _ _ _ _
      · split
        · exact hreply h _ _ _ _
        · refine hreply ?_ _ _ _ _
          unfold startRun
          refine State.coverageLawful.of_beside ?_ (peel_setRunState (by simp) (by simp) (by simp) _ _ |>.mpr (.refl _ _))
          exact foldl_invariant _ State.coverageLawful
            (fun t r ht => State.coverageLawful.resetCoverage (s := t.setFiring r _) (ht.of_beside (by simp)) r) _ _ h
  | runStop =>
    refine hrequest (fun f s h => ?_) h
    unfold runStop
    split
    · refine hreply ?_ _ _ _ _
      unfold stopRun
      refine foldl_invariant _ State.coverageLawful (fun t r ht => ?_) _ _ (h.of_beside (by simp))
      exact State.coverageLawful.sendDrainNotice ((ht.cancelSnapshot r).of_beside (by simp)) r
    · exact hreply h _ _ _ _
  | flush =>
    refine hrequest (fun f s h => ?_) h
    unfold flush
    split
    · exact hreply ((h.toEcho .left .flush).toEcho .right .flush) _ _ _ _
    · exact hreply h _ _ _ _
  | restart =>
    refine hrequest (fun f s h => ?_) h
    unfold restart
    split
    · exact hreply h _ _ _ _
    · have h1 : (restartRun (restartLine s)).coverageLawful := h.of_beside (by simp)
      have h2 := foldl_invariant _ State.coverageLawful (fun t r ht => ht.restartRail r) bothRails _ h1
      exact h2.of_beside (by simp [takeRestart, bothRails])
  | setupReload =>
    refine hrequest (fun f s h => ?_) h
    unfold setupReload
    split
    · exact hreply h _ _ _ _
    · split
      · exact hreply h _ _ _ _
      · split
        · exact hreply h _ _ _ _
        · rename_i image _
          refine hreply ?_ _ _ _ _
          have h1 : (takeImageRecords image (applyTravel image.travel s)).coverageLawful := by
            refine foldl_invariant _ State.coverageLawful (fun t r ht => ?_) _ _ (h.of_beside (by simp))
            exact State.coverageLawful.resetCoverage (s := t.setFiring r _) (ht.of_beside (by simp)) r
          exact h1.of_beside (by simp [applyImage])
  | _ => exact coverageLawful_dependsOn.kept_of_command (by simp [commandParts, Part.closing]) h

/-- Settles O58: each block's law is kept by every step. -/
theorem queuesAndTablesStayLawful : Obligations.QueuesAndTablesStayLawful :=
  ⟨⟨marksLawful_keptByEveryStep, listLawful_keptByEveryStep⟩, reflectorsLawful_keptByEveryStep, coverageLawful_keptByEveryStep⟩

end Sys2Proof.Machine
end

section
/-! PROOFS. The line interface: what handovers leave of it, and its own operations against its laws (first part of O57). -/

namespace Sys2Proof.Machine

/-! ### What handovers leave of the line -/

/-- The line but for what blocks hand to it: the waiting items and the silence state. -/
def State.lineCore (s : State) : Line := { s.line with inbox := [], silence := false }

theorem lineCore_of_touches {ps : List Part} {s t : State} (h : TouchesOnly ps s t) (hl : Part.line ∉ ps) :
    t.lineCore = s.lineCore := by
  have ht : t.line = s.line := h .line hl
  rw [State.lineCore, State.lineCore, ht]

/-- Whatever touches no line, as the side condition of the lemmas on touched parts. -/
theorem lineCore_of_beside {s t : State} (h : TouchesOnly (Part.beside [.line]) s t) : t.lineCore = s.lineCore :=
  lineCore_of_touches h (by simp)

theorem lineCore_foldl {α : Type} {f : State → α → State} (h : ∀ s a, (f s a).lineCore = s.lineCore) (l : List α) (s : State) :
    (l.foldl f s).lineCore = s.lineCore :=
  foldl_keeps f State.lineCore h l s

section
variable (s : State)

@[simp] theorem lineCore_advanceTo (t : Nat) : (s.advanceTo t).lineCore = s.lineCore := rfl
@[simp] theorem lineCore_setSetup (x : Setup) : (s.setSetup x).lineCore = s.lineCore := rfl
@[simp] theorem lineCore_setTravel (x : Travel) : (s.setTravel x).lineCore = s.lineCore := rfl
@[simp] theorem lineCore_setFiring (r : Rail) (x : FiringUnit) : (s.setFiring r x).lineCore = s.lineCore := rfl
@[simp] theorem lineCore_setEcho (r : Rail) (x : EchoProcessor) : (s.setEcho r x).lineCore = s.lineCore := rfl
@[simp] theorem lineCore_setTracker (r : Rail) (x : Tracker) : (s.setTracker r x).lineCore = s.lineCore := rfl
@[simp] theorem lineCore_setAssembler (r : Rail) (x : Assembler) : (s.setAssembler r x).lineCore = s.lineCore := rfl
@[simp] theorem lineCore_setLandmarks (x : LandmarkList) : (s.setLandmarks x).lineCore = s.lineCore := rfl
@[simp] theorem lineCore_setMarking (r : Rail) (x : MarkingUnit) : (s.setMarking r x).lineCore = s.lineCore := rfl
@[simp] theorem lineCore_setRouter (x : Router) : (s.setRouter x).lineCore = s.lineCore := rfl
@[simp] theorem lineCore_setRun (x : RunControl) : (s.setRun x).lineCore = s.lineCore := rfl
@[simp] theorem lineCore_offer (x : Record) : (s.offer x).lineCore = s.lineCore := rfl
@[simp] theorem lineCore_handChange (x : Change) : (s.handChange x).lineCore = s.lineCore := rfl
@[simp] theorem lineCore_handLevel (x : LevelHandover) : (s.handLevel x).lineCore = s.lineCore := rfl
@[simp] theorem lineCore_handPulse (x : Pulse) : (s.handPulse x).lineCore = s.lineCore := rfl
@[simp] theorem lineCore_toEcho (r : Rail) (x : EchoItem) : (s.toEcho r x).lineCore = s.lineCore := rfl
@[simp] theorem lineCore_toTracker (r : Rail) (x : TrackerItem) : (s.toTracker r x).lineCore = s.lineCore := rfl
@[simp] theorem lineCore_handMotion (r : Rail) (x : Motion) : (s.handMotion r x).lineCore = s.lineCore := rfl
@[simp] theorem lineCore_handMove (r : Rail) (x : Move) : (s.handMove r x).lineCore = s.lineCore := rfl
@[simp] theorem lineCore_handPitch (r : Rail) (x : List Int) : (s.handPitch r x).lineCore = s.lineCore := rfl
@[simp] theorem lineCore_handFrontier (x : Int) : (s.handFrontier x).lineCore = s.lineCore := rfl
@[simp] theorem lineCore_requestMark (r : Rail) (x : MarkRequest) : (s.requestMark r x).lineCore = s.lineCore := rfl
@[simp] theorem lineCore_dropEcho (r : Rail) : (dropEcho r s).lineCore = s.lineCore := rfl

@[simp] theorem lineCore_setMotion (x : Motion) : (s.setMotion x).lineCore = s.lineCore := by
  unfold State.setMotion
  dsimp only
  split <;> simp

@[simp] theorem lineCore_setRunState (x : RunState) : (s.setRunState x).lineCore = s.lineCore := by
  unfold State.setRunState
  dsimp only
  split <;> simp

@[simp] theorem lineCore_setCover (r : Rail) (ch : Channel) (x : Cover) : (s.setCover r ch x).lineCore = s.lineCore := by
  unfold State.setCover
  dsimp only
  split <;> simp

@[simp] theorem lineCore_setSpray (r : Rail) (x : Option Nat) : (s.setSpray r x).lineCore = s.lineCore := by
  unfold State.setSpray
  dsimp only
  split <;> simp

@[simp] theorem lineCore_setSilence (x : Bool) : (s.setSilence x).lineCore = s.lineCore := by
  unfold State.setSilence
  dsimp only
  split <;> rfl

@[simp] theorem lineCore_resetCoverage (r : Rail) : (s.resetCoverage r).lineCore = s.lineCore :=
  lineCore_foldl (fun t ch => lineCore_setCover t r ch _) _ s

@[simp] theorem lineCore_offers (xs : List Record) : (xs.foldl State.offer s).lineCore = s.lineCore :=
  lineCore_foldl lineCore_offer xs s

@[simp] theorem lineCore_discardMarks (r : Rail) : (discardMarks r s).lineCore = s.lineCore := by
  simp [discardMarks]

@[simp] theorem lineCore_takeCount (sign : Int) : (takeCount sign s).lineCore = s.lineCore := by
  simp only [takeCount]
  split <;> split <;> split <;> simp

@[simp] theorem lineCore_cancelSnapshot (r : Rail) : (cancelSnapshot r s).lineCore = s.lineCore := by
  unfold cancelSnapshot
  split <;> simp

@[simp] theorem lineCore_captureSnapshot (r : Rail) (pf : Int) (c : CompletedChannel) (i : Option Hit) :
    (captureSnapshot r pf c i s).lineCore = s.lineCore := by
  unfold captureSnapshot
  split <;> simp

@[simp] theorem lineCore_coverChannel (r : Rail) (pf : Int) (c : CompletedChannel) (pass blanked : Bool) :
    (coverChannel r pf c pass blanked s).lineCore = s.lineCore := by
  simp [coverChannel]

theorem lineCore_sortHit (r : Rail) (pf : Int) (c : CompletedChannel) (fate : Option Bool) (res : GateResult) (g : Gate) :
    (sortHit r pf c fate res s g).lineCore = s.lineCore := by
  unfold sortHit keepHit
  split <;> simp

theorem lineCore_processChannel (r : Rail) (pf : Int) (c : CompletedChannel) : (processChannel r pf s c).lineCore = s.lineCore := by
  simp only [processChannel]
  rw [lineCore_toTracker, lineCore_foldl fun t g => lineCore_sortHit t r pf c _ _ g]
  simp

theorem lineCore_completionProcessing (r : Rail) : (completionProcessing r s).lineCore = s.lineCore := by
  unfold completionProcessing
  split
  · rw [lineCore_toTracker, lineCore_foldl fun t c => lineCore_processChannel t r _ c]
    simp
  · rfl

@[simp] theorem lineCore_cutStretch (r : Rail) (ch : Channel) : (cutStretch r s ch).lineCore = s.lineCore := by
  unfold cutStretch
  dsimp only
  split <;> simp

theorem lineCore_leavePlan (r : Rail) (ch : Channel) : (leavePlan r s ch).lineCore = s.lineCore := by
  simp only [leavePlan]
  split <;> simp

theorem lineCore_commitHandover (r : Rail) : (commitHandover r s).lineCore = s.lineCore := by
  unfold commitHandover
  split
  · rw [lineCore_foldl (f := joinPlan r) fun t ch => lineCore_setCover t r ch _,
      lineCore_foldl fun t ch => lineCore_leavePlan t r ch]
    simp
  · rfl

theorem lineCore_echoDrainNotice (r : Rail) : (echoDrainNotice r s).lineCore = s.lineCore := by
  unfold echoDrainNotice
  split
  · rw [lineCore_toTracker, lineCore_foldl fun t ch => lineCore_cutStretch t r ch]
    simp
  · rfl

theorem lineCore_railDrained (r : Rail) : (railDrained r s).lineCore = s.lineCore := by
  simp only [railDrained]
  split
  · split <;> simp
  · rfl

theorem lineCore_fireReached (r : Rail) (gun : Int) (q : List Mark) : (fireReached r gun q s).lineCore = s.lineCore := by
  induction q generalizing s with
  | nil => rfl
  | cons m rest ih =>
    unfold fireReached
    split
    · rw [ih]
      simp [fireMark]
    · rfl

theorem lineCore_carPositionChange (r : Rail) : (carPositionChange r s).lineCore = s.lineCore := by
  unfold carPositionChange
  split
  · rfl
  · dsimp only
    split
    · rw [lineCore_fireReached]
      simp
    · simp

theorem lineCore_markRequest (r : Rail) : (markRequest r s).lineCore = s.lineCore := by
  unfold markRequest
  split <;> simp

@[simp] theorem lineCore_startOperationFiring (r : Rail) (ch : Channel) : (startOperationFiring r ch s).lineCore = s.lineCore := by
  simp [startOperationFiring]

@[simp] theorem lineCore_setMode (r : Rail) (m : TimeMode) (e : Option TestEcho) : (setMode r m e s).lineCore = s.lineCore := by
  simp [setMode]

@[simp] theorem lineCore_endOperation (r : Rail) : (endOperation r s).lineCore = s.lineCore := by
  simp [endOperation]

@[simp] theorem lineCore_setChannelRecord (r : Rail) (ch : Channel) (x : ChannelRecord) :
    (s.setChannelRecord r ch x).lineCore = s.lineCore := rfl

theorem lineCore_endCal (c : CalStep) : (endCal c s).lineCore = s.lineCore := by
  unfold endCal
  split
  · split
    · simp
    · dsimp only
      split <;> simp
  · split <;> simp

theorem lineCore_calFiringCompletion (signal : List Nat) : (calFiringCompletion signal s).lineCore = s.lineCore := by
  unfold calFiringCompletion
  split
  · split
    · rfl
    · dsimp only
      split
      · simp
      · split
        · rw [lineCore_endCal]
          simp
        · rfl
  · rfl

theorem lineCore_verifyFiringCompletion : (verifyFiringCompletion s).lineCore = s.lineCore := by
  unfold verifyFiringCompletion
  split
  · split
    · rfl
    · dsimp only
      split
      · simp
      · split
        · simp
        · rfl
  · rfl

theorem lineCore_setupSaveComplete (m : Bool) : (setupSaveComplete m s).lineCore = s.lineCore := by
  unfold setupSaveComplete
  split
  · rfl
  · simp

@[simp] theorem lineCore_applyTravel (x : TravelSettings) : (applyTravel x s).lineCore = s.lineCore := by
  unfold applyTravel
  dsimp only
  split
  · simp
  · split <;> simp

theorem lineCore_standstillExpiry : (standstillExpiry s).lineCore = s.lineCore := by
  unfold standstillExpiry
  split
  · rfl
  · split
    · rfl
    · simp

@[simp] theorem lineCore_takePosition (p : Int) : (takePosition p s).lineCore = s.lineCore := by
  simp [takePosition, bothRails]

@[simp] theorem lineCore_startRun : (startRun s).lineCore = s.lineCore := by
  simp [startRun, bothRails]

@[simp] theorem lineCore_drainFiring (r : Rail) : (drainFiring r s).lineCore = s.lineCore := by
  unfold drainFiring sendDrainNotice
  split <;> simp

@[simp] theorem lineCore_stopRun : (stopRun s).lineCore = s.lineCore := by
  simp [stopRun, bothRails]

@[simp] theorem lineCore_beginCal (c : CalStep) : (beginCal c s).lineCore = s.lineCore := by
  simp [beginCal]

@[simp] theorem lineCore_beginVerify (r : Rail) (e : TestEcho) : (beginVerify r e s).lineCore = s.lineCore := by
  simp only [beginVerify]
  split <;> simp

@[simp] theorem lineCore_takePlan (r : Rail) (p : Plan) : (takePlan r p s).lineCore = s.lineCore := by
  unfold takePlan
  split
  · simp only [takePlanNow]
    rw [lineCore_foldl fun t ch => lineCore_setCover t r ch _, lineCore_foldl fun t ch => lineCore_setCover t r ch _]
    simp [State.setPlan]
  · simp

@[simp] theorem lineCore_takeImageRecords (image : Setup) : (takeImageRecords image s).lineCore = s.lineCore := by
  simp [takeImageRecords, bothRails]

@[simp] theorem lineCore_applySignals (x : SignalSettings) : (applySignals x s).lineCore = s.lineCore := by
  simp [applySignals]

@[simp] theorem lineCore_takeChannel (r : Rail) (ch : Channel) (x : ChannelRecord) :
    (takeChannel r ch x s).lineCore = s.lineCore := by
  simp only [takeChannel]
  split <;> simp

end

/-! ### The bundle -/

theorem joinFurther_fst_le (cap body : Nat) (rs : List Record) : (joinFurther cap body rs).1 ≤ rs.length := by
  induction rs generalizing body with
  | nil => exact Nat.le_refl 0
  | cons r rest ih =>
    unfold joinFurther
    split
    · exact Nat.succ_le_succ (ih _)
    · exact Nat.zero_le _

/-- Where none is stopped, all join. -/
theorem joinFurther_fst_eq {cap body : Nat} {rs : List Record} (h : (joinFurther cap body rs).2 = false) :
    (joinFurther cap body rs).1 = rs.length := by
  induction rs generalizing body with
  | nil => rfl
  | cons r rest ih =>
    unfold joinFurther at h ⊢
    split at h
    · rename_i hfit
      rw [if_pos hfit]
      exact congrArg (· + 1) (ih h)
    · cases h

theorem Bundle.lawful_initial : Bundle.initial.lawful [] := ⟨rfl, rfl, rfl⟩

theorem lawful_openBundle (cap flushEnd : Nat) (queue : List Record) : (openBundle cap flushEnd queue).lawful queue := by
  unfold openBundle
  split
  · exact Bundle.lawful_initial
  · rename_i r rest
    split
    · exact ⟨Nat.le_refl 1, by simp, rfl⟩
    · have hle := joinFurther_fst_le cap (bundleBody [r]) rest
      have heq := @joinFurther_fst_eq cap (bundleBody [r]) rest
      dsimp only
      split
      · exact ⟨by simp, by simpa using hle, rfl⟩
      · rename_i hstop
        exact ⟨by simp, by simpa using heq (by simpa using hstop), rfl⟩

/-- The law of a bundle that an EMPTY one may still refill. -/
def Bundle.refills (b : Bundle) (queue : List Record) : Prop := b.state = .empty ∨ b.lawful queue

/-- One record taken out of a bundle and its queue. -/
theorem Bundle.lawful.erase {b : Bundle} {queue : List Record} (h : b.lawful queue) (k : Nat) :
    (if k < b.held then b.without else b).refills (queue.eraseIdx k) := by
  unfold Bundle.lawful at h
  split
  · rename_i hk
    unfold Bundle.without
    split
    · exact .inl rfl
    · right
      split at h
      · omega
      · rename_i hstate
        obtain ⟨h1, h2, h3⟩ := h
        simp only [Bundle.lawful, hstate, List.length_eraseIdx]
        rw [if_pos (by omega)]
        exact ⟨by omega, by omega, h3⟩
      · rename_i hstate
        obtain ⟨h1, h2, h3⟩ := h
        simp only [Bundle.lawful, hstate, List.length_eraseIdx]
        rw [if_pos (by omega)]
        exact ⟨by omega, by omega, h3⟩
  · rename_i hk
    split at h
    · rename_i hstate
      exact .inl hstate
    · rename_i hstate
      obtain ⟨h1, h2, h3⟩ := h
      right
      simp only [Bundle.lawful, hstate, List.length_eraseIdx]
      rw [if_neg (by omega)]
      exact ⟨h1, h2, h3⟩
    · rename_i hstate
      obtain ⟨h1, h2, h3⟩ := h
      right
      simp only [Bundle.lawful, hstate, List.length_eraseIdx]
      refine ⟨h1, ?_, h3⟩
      split <;> omega

/-! ### The line's law, the queue and its bundle apart -/

/-- What the law says of the line beside the report queue and its bundle. -/
def Line.restLawful (l : Line) : Prop :=
  l.receiver.lawful ∧ l.input.length ≤ 4 ∧ (∀ f ∈ l.input, lengthInRange f.body.length = true) ∧ l.replies.length ≤ 4 ∧
    l.frameErrors ≤ 65535 ∧ l.overruns ≤ 65535 ∧ l.dropped ≤ 65535 ∧ l.lost ≤ 65535 ∧ (l.loss = true ↔ 0 < l.lost)

theorem Line.lawful_iff {l : Line} : l.lawful ↔ l.restLawful ∧ l.queue.length ≤ 256 ∧ l.bundle.lawful l.queue := by
  unfold Line.lawful Line.restLawful
  tauto

theorem Line.restLawful.drop {l : Line} (h : l.restLawful) : Line.restLawful { l with dropped := raiseCounter l.dropped } := by
  obtain ⟨h1, h2, h3, h4, h5, h6, h7, h8, h9⟩ := h
  exact ⟨h1, h2, h3, h4, h5, h6, raiseCounter_le h7, h8, h9⟩

theorem lawful_refill {s : State} (h : s.line.restLawful) (hq : s.line.queue.length ≤ 256)
    (hb : s.line.bundle.refills s.line.queue) : (refill s).line.lawful := by
  unfold refill
  split
  · exact Line.lawful_iff.mpr ⟨h, hq, lawful_openBundle _ _ _⟩
  · rename_i hstate
    exact Line.lawful_iff.mpr ⟨h, hq, hb.resolve_left hstate⟩

theorem lawful_joinAppended {s : State} {before : List Record} {r x : Record} (h : s.line.restLawful)
    (hq : s.line.queue = before ++ [x]) (hroom : before.length < 256) (hb : s.line.bundle.lawful before) :
    (joinAppended before r s).line.lawful := by
  have hlen : s.line.queue.length ≤ 256 := by
    rw [hq]
    simp
    omega
  unfold joinAppended
  unfold Bundle.lawful at hb
  split
  · rename_i hstate
    exact lawful_refill h hlen (.inl hstate)
  · rename_i hstate
    simp only [hstate] at hb
    refine Line.lawful_iff.mpr ⟨h, hlen, ?_⟩
    simp only [Bundle.lawful, hstate, hq, List.length_append, List.length_singleton]
    exact ⟨hb.1, by omega, hb.2.2⟩
  · rename_i hstate
    simp only [hstate] at hb
    split
    · refine Line.lawful_iff.mpr ⟨h, hlen, ?_⟩
      simp only [State.setLine_line, Bundle.lawful, hstate, hq, List.length_append, List.length_singleton]
      exact ⟨by omega, by omega, hb.2.2⟩
    · refine Line.lawful_iff.mpr ⟨h, hlen, ?_⟩
      simp only [State.setLine_line, Bundle.lawful, hq, List.length_append, List.length_singleton]
      exact ⟨hb.1, by omega, trivial⟩

theorem lawful_appendRecord {s : State} (h : s.line.lawful) (hroom : s.line.queue.length < 256) (r : Record) :
    (appendRecord r s).line.lawful := by
  obtain ⟨hrest, -, hb⟩ := Line.lawful_iff.mp h
  exact lawful_joinAppended (s := s.setLine _) hrest rfl hroom hb

theorem lawful_displace {s : State} (h : s.line.lawful) (k : Nat) : (displace k s).line.lawful := by
  obtain ⟨hrest, hq, hb⟩ := Line.lawful_iff.mp h
  refine lawful_refill (s := s.setLine _) hrest.drop ?_ (hb.erase k)
  exact (List.length_eraseIdx_le _ _).trans hq

theorem refill_queue (s : State) : (refill s).line.queue = s.line.queue := by
  unfold refill
  split <;> rfl

theorem displace_queue (k : Nat) (s : State) : (displace k s).line.queue = s.line.queue.eraseIdx k := by
  simp [displace, refill_queue]

theorem newestLow_lt {q : List Record} {k : Nat} (h : newestLow q = some k) : k < q.length := by
  unfold newestLow at h
  obtain ⟨j, hj, rfl⟩ := Option.map_eq_some_iff.mp h
  have hlt := (List.findIdx?_eq_some_iff_getElem.mp hj).1
  simp at hlt
  omega

theorem lawful_loseRecord {s : State} (h : s.line.lawful) : (loseRecord s).line.lawful := by
  obtain ⟨⟨h1, h2, h3, h4, h5, h6, h7, h8, h9⟩, hq, hb⟩ := Line.lawful_iff.mp h
  have hlost : Line.restLawful { s.line with lost := raiseCounter s.line.lost, loss := true } :=
    ⟨h1, h2, h3, h4, h5, h6, h7, raiseCounter_le h8, iff_of_true rfl (raiseCounter_pos _)⟩
  unfold loseRecord
  dsimp only
  split
  · exact Line.lawful_iff.mpr ⟨hlost, hq, hb⟩
  · exact Line.lawful_iff.mpr ⟨hlost, hq, hb⟩

/-- An offer is taken, dropped or lost (R178). -/
theorem lawful_takeOffer {s : State} (h : s.line.lawful) (hw : s.setup.reporting.highWater ≤ 256) (r : Record) :
    (takeOffer r s).line.lawful := by
  obtain ⟨hrest, hq, hb⟩ := Line.lawful_iff.mp h
  unfold takeOffer
  split
  · split
    · exact Line.lawful_iff.mpr ⟨hrest.drop, hq, hb⟩
    · exact lawful_appendRecord h (by omega) r
  · split
    · rename_i hroom
      exact lawful_appendRecord h hroom r
    · split
      · rename_i k hk
        refine lawful_appendRecord (lawful_displace h k) ?_ r
        rw [displace_queue, List.length_eraseIdx, if_pos (newestLow_lt hk)]
        have := newestLow_lt hk
        omega
      · exact lawful_loseRecord h

theorem lawful_offerStatus {s : State} (h : s.line.lawful) (hw : s.setup.reporting.highWater ≤ 256) (cause : StatusCause) :
    (offerStatus cause s).line.lawful :=
  lawful_takeOffer (s := s.setLine { s.line with changes := ChangeSet.empty }) h hw _

/-! ### The receiver -/

theorem lengthInRange_iff {n : Nat} : lengthInRange n = true ↔ 4 ≤ n ∧ n ≤ 2040 := by
  simp [lengthInRange]

theorem Receiver.lawful.moved {r x : Receiver} {b : Byte} {stop : Bool} (h : r.lawful) (hm : r.receive b stop = .moved x) :
    x.lawful := by
  unfold Receiver.receive at hm
  split at hm
  · unfold Receiver.takeByte at hm
    split at hm
    · cases hm
      split <;> trivial
    · cases hm
      split
      · trivial
      · split <;> trivial
    · cases hm
      trivial
    · split at hm
      · rename_i hrange
        cases hm
        exact ⟨hrange, by have := (lengthInRange_iff.mp hrange).1; simp; omega⟩
      · cases hm
    · obtain ⟨hrange, hlt⟩ := h
      split at hm
      · rename_i hmore
        cases hm
        exact ⟨hrange, hmore⟩
      · rename_i hfull
        cases hm
        simp only [List.length_append, List.length_singleton] at hfull
        exact ⟨hrange, by simp; omega⟩
    · cases hm
      exact h
    · split at hm <;> cases hm
  · split at hm
    · cases hm
    · cases hm
      trivial

theorem Receiver.lawful.valid {r : Receiver} {b : Byte} {stop : Bool} {body : List Byte} (h : r.lawful)
    (hv : r.receive b stop = .valid body) : lengthInRange body.length = true := by
  unfold Receiver.receive at hv
  split at hv
  · unfold Receiver.takeByte at hv
    split at hv
    · cases hv
    · cases hv
    · cases hv
    · split at hv <;> cases hv
    · split at hv <;> cases hv
    · cases hv
    · obtain ⟨hrange, hlen⟩ := h
      split at hv
      · cases hv
        rw [hlen]
        exact hrange
      · cases hv
  · split at hv <;> cases hv

theorem lawful_discardFrame {s : State} (h : s.line.lawful) : (discardFrame s).line.lawful := by
  obtain ⟨⟨-, h2, h3, h4, h5, h6, h7, h8, h9⟩, hq, hb⟩ := Line.lawful_iff.mp h
  exact Line.lawful_iff.mpr ⟨⟨trivial, h2, h3, h4, raiseCounter_le h5, h6, h7, h8, h9⟩, hq, hb⟩

/-- The law reads nothing of what handovers change. -/
theorem lineLawful_of_core {s t : State} (h : s.line.lawful) (ht : t.lineCore = s.lineCore) : t.line.lawful := by
  have hcore : ∀ u : State, u.line.lawful ↔ u.lineCore.lawful := fun _ => Iff.rfl
  rw [hcore] at h ⊢
  rw [ht]
  exact h

theorem lawful_acceptFrame {s : State} (h : s.line.lawful) {body : List Byte} (hbody : lengthInRange body.length = true) :
    (acceptFrame body s).line.lawful := by
  have h1 : ∀ t : State, t.line.lawful → (if t.line.input.length < Config.inputCapacity then
      t.setLine { t.line with input := t.line.input ++ [⟨body⟩] }
      else t.setLine { t.line with overruns := raiseCounter t.line.overruns }).line.lawful := by
    intro t ht
    obtain ⟨⟨h1, h2, h3, h4, h5, h6, h7, h8, h9⟩, hq, hb⟩ := Line.lawful_iff.mp ht
    split
    · rename_i hroom
      rw [Config.inputCapacity] at hroom
      refine Line.lawful_iff.mpr ⟨⟨h1, ?_, ?_, h4, h5, h6, h7, h8, h9⟩, hq, hb⟩
      · simp
        omega
      · intro f hf
        rcases List.mem_append.mp hf with hf | hf
        · exact h3 f hf
        · obtain rfl := List.mem_singleton.mp hf
          exact hbody
    · exact Line.lawful_iff.mpr ⟨⟨h1, h2, h3, h4, h5, raiseCounter_le h6, h7, h8, h9⟩, hq, hb⟩
  refine h1 _ (lineLawful_of_core (s := s.setLine _) ?_ (lineCore_setSilence _ _))
  obtain ⟨⟨-, hrest⟩, hqb⟩ := Line.lawful_iff.mp h
  exact Line.lawful_iff.mpr ⟨⟨trivial, hrest⟩, hqb⟩

theorem lawful_applyByte {s : State} (h : s.line.lawful) {b : Byte} {stop : Bool} :
    (applyByte (s.line.receiver.receive b stop) s).line.lawful := by
  have hr := (Line.lawful_iff.mp h).1.1
  unfold applyByte
  split
  · rename_i x hx
    obtain ⟨⟨-, hrest⟩, hqb⟩ := Line.lawful_iff.mp h
    exact Line.lawful_iff.mpr ⟨⟨hr.moved hx, hrest⟩, hqb⟩
  · rename_i body hx
    exact lawful_acceptFrame h (hr.valid hx)
  · exact lawful_discardFrame h

end Sys2Proof.Machine
end

section
/-! PROOFS. Every step keeps the line interface lawful and every reply within one body (O57). -/

namespace Sys2Proof.Machine

/-! ### Replies -/

/-- The replies that wait and the frame being sent. -/
def State.outbox (s : State) : List Reply × Option Outgoing := (s.line.replies, s.line.sending)

/-- Every reply that waits or is being sent fits in one body. -/
def State.repliesFit (s : State) : Prop :=
  (∀ p ∈ s.outbox.1, p.fitsABody) ∧ ∀ p, s.outbox.2 = some (.reply p) → p.fitsABody

theorem fitsABody_iff {p : Reply} : p.fitsABody ↔ p.payload.bytes.length ≤ 2036 := by
  rw [Reply.fitsABody, reply_body_length]
  omega

/-- A payload that carries no list of the unit's. -/
def ReplyPayload.isSmall : ReplyPayload → Bool
  | .identity _ _ _ _ l => decide (l = Config.capacities)
  | .channel _ _ => false
  | .plan _ _ _ _ => false
  | .landmarksAdded _ _ => false
  | .landmarks _ _ => false
  | _ => true

theorem ReplyPayload.fits_of_isSmall {p : ReplyPayload} (h : p.isSmall = true) : p.bytes.length ≤ 2036 := by
  refine ReplyPayload.bytes_length_le p ?_ ?_ ?_ ?_ ?_
  · rintro a b c d l rfl
    simpa [ReplyPayload.isSmall] using h
  all_goals
    intros
    subst_vars
    cases h

theorem outbox_of_core {s t : State} (h : t.lineCore = s.lineCore) : t.outbox = s.outbox :=
  Prod.ext (congrArg Line.replies h :) (congrArg Line.sending h :)

section
variable (s : State)

@[simp] theorem outbox_refill : (refill s).outbox = s.outbox := by
  unfold refill
  split <;> rfl

theorem outbox_joinAppended (before : List Record) (r : Record) : (joinAppended before r s).outbox = s.outbox := by
  unfold joinAppended
  split
  · exact outbox_refill s
  · rfl
  · split <;> rfl

@[simp] theorem outbox_appendRecord (r : Record) : (appendRecord r s).outbox = s.outbox :=
  outbox_joinAppended _ _ _

@[simp] theorem outbox_displace (k : Nat) : (displace k s).outbox = s.outbox := by
  rw [displace, outbox_refill]
  rfl

@[simp] theorem outbox_loseRecord : (loseRecord s).outbox = s.outbox := by
  unfold loseRecord
  dsimp only
  split <;> rfl

@[simp] theorem outbox_takeOffer (r : Record) : (takeOffer r s).outbox = s.outbox := by
  unfold takeOffer
  split
  · split
    · rfl
    · simp
  · split
    · simp
    · split <;> simp

@[simp] theorem outbox_offerStatus (cause : StatusCause) : (offerStatus cause s).outbox = s.outbox := by
  rw [offerStatus, outbox_takeOffer]
  rfl

@[simp] theorem outbox_discardFrame : (discardFrame s).outbox = s.outbox := rfl

@[simp] theorem outbox_acceptFrame (body : List Byte) : (acceptFrame body s).outbox = s.outbox := by
  have h := outbox_of_core (lineCore_setSilence (s.setLine
    { s.line with receiver := .hunt
                  silenceEnd := timerFrom s.now s.setup.reporting.silenceLimit Config.ticksPerSecond }) false)
  unfold acceptFrame
  dsimp only
  split <;> exact h

@[simp] theorem outbox_applyByte (o : ByteOutcome) : (applyByte o s).outbox = s.outbox := by
  unfold applyByte
  split
  · rfl
  · simp
  · simp

@[simp] theorem outbox_applyReporting (x : ReportingSettings) : (applyReporting x s).outbox = s.outbox := by
  unfold applyReporting
  dsimp only
  split
  · rw [outbox_of_core (lineCore_setSilence _ _)]
    rfl
  · rfl

end

/-- An OPEN bundle above the new cap becomes READY; nothing else of the law is touched (R182). -/
theorem lawful_applyReporting {s : State} (h : s.line.lawful) (x : ReportingSettings) : (applyReporting x s).line.lawful := by
  obtain ⟨hrest, hq, hb⟩ := Line.lawful_iff.mp h
  have hbundle : (if s.line.bundle.state = .open ∧ x.cap < bundleBody (s.line.queue.take s.line.bundle.held) then
      { s.line.bundle with state := .ready, flushEnd := none } else s.line.bundle : Bundle).lawful s.line.queue := by
    split
    · rename_i ho
      simp only [Bundle.lawful, ho.1] at hb
      exact ⟨hb.1, Nat.le_of_eq hb.2.1, rfl⟩
    · exact hb
  have h1 : ∀ e1 e2 : Option Nat, Line.lawful
      { s.line with
        bundle :=
          if s.line.bundle.state = .open ∧ x.cap < bundleBody (s.line.queue.take s.line.bundle.held) then
            { s.line.bundle with state := .ready, flushEnd := none } else s.line.bundle
        statusEnd := e1
        silenceEnd := e2 } := fun _ _ => Line.lawful_iff.mpr ⟨hrest, hq, hbundle⟩
  unfold applyReporting
  dsimp only
  split
  · exact lineLawful_of_core (s := State.setLine _ _) (h1 _ _) (lineCore_setSilence _ _)
  · exact h1 _ _

/-! ### One step of the line -/

/-- With lawful settings a step keeps the line lawful, and with a lawful landmark list it keeps the replies within a body. -/
def lineStep (s t : State) : Prop :=
  (s.settingsLawful → s.line.lawful → t.line.lawful) ∧ (s.settingsLawful → s.landmarks.lawful → s.repliesFit → t.repliesFit)

theorem repliesFit_of_outbox {s t : State} (h : s.repliesFit) (ht : t.outbox = s.outbox) : t.repliesFit := by
  unfold State.repliesFit at h ⊢
  rwa [ht]

theorem lineStep_of_outbox {s t : State} (hl : s.settingsLawful → s.line.lawful → t.line.lawful) (ho : t.outbox = s.outbox) :
    lineStep s t :=
  ⟨hl, fun _ _ hr => repliesFit_of_outbox hr ho⟩

theorem lineStep_of_core {s t : State} (h : t.lineCore = s.lineCore) : lineStep s t :=
  lineStep_of_outbox (fun _ hl => lineLawful_of_core hl h) (outbox_of_core h)

/-- One more reply, which fits. -/
theorem repliesFit_reply {s : State} (h : s.repliesFit) (f : Frame) (c : ReplyCode) (i : Nat) {p : ReplyPayload}
    (hp : p.bytes.length ≤ 2036) : (s.reply f c i p).repliesFit := by
  refine ⟨fun x hx => ?_, h.2⟩
  rcases List.mem_append.mp hx with hx | hx
  · exact h.1 x hx
  · obtain rfl := List.mem_singleton.mp hx
    exact fitsABody_iff.mpr hp

theorem lawful_reply {s : State} (h : s.line.lawful) (hroom : s.line.replies.length < 4) (f : Frame) (c : ReplyCode) (i : Nat)
    (p : ReplyPayload) : (s.reply f c i p).line.lawful := by
  obtain ⟨⟨h1, h2, h3, -, h5⟩, hqb⟩ := Line.lawful_iff.mp h
  refine Line.lawful_iff.mpr ⟨⟨h1, h2, h3, ?_, h5⟩, hqb⟩
  simp
  omega

/-- A request's effect on the line: one reply, which fits, behind those that wait. -/
def answersOne (s t : State) : Prop :=
  ∃ u f c i p, t = State.reply u f c i p ∧ u.outbox = s.outbox ∧ (s.settingsLawful → s.line.lawful → u.line.lawful) ∧
    (s.settingsLawful → s.landmarks.lawful → p.bytes.length ≤ 2036)

theorem answersOne_of_core {s u : State} (hu : u.lineCore = s.lineCore) {p : ReplyPayload}
    (hp : s.settingsLawful → s.landmarks.lawful → p.bytes.length ≤ 2036) (f : Frame) (c : ReplyCode) (i : Nat) :
    answersOne s (u.reply f c i p) :=
  ⟨u, f, c, i, p, rfl, outbox_of_core hu, fun _ h => lineLawful_of_core h hu, hp⟩

theorem answersOne_small {s u : State} (hu : u.lineCore = s.lineCore) {p : ReplyPayload} (hp : p.isSmall = true) (f : Frame)
    (c : ReplyCode) (i : Nat) : answersOne s (u.reply f c i p) :=
  answersOne_of_core hu (fun _ _ => ReplyPayload.fits_of_isSmall hp) f c i

/-- The request taken out of the input buffer. -/
theorem lawful_dropInput {s : State} {f : Frame} {rest : List Frame} (h : s.line.lawful) (hi : s.line.input = f :: rest) :
    (s.setLine { s.line with input := rest }).line.lawful := by
  obtain ⟨⟨h1, h2, h3, h4⟩, hqb⟩ := Line.lawful_iff.mp h
  rw [hi] at h2 h3
  refine Line.lawful_iff.mpr ⟨⟨h1, ?_, fun g hg => h3 g (List.mem_cons_of_mem f hg), h4⟩, hqb⟩
  simp at h2 ⊢
  omega

theorem lineStep_request {k : RequestKind} {n : Nat} {s : State} {act : Frame → State → State}
    (hact : ∀ f s, answersOne s (act f s)) : lineStep s (request k n s act) := by
  unfold request
  split
  · exact lineStep_of_core rfl
  · rename_i f s1 h1
    unfold takeRequest at h1
    split at h1
    · cases h1
    · rename_i hi
      split at h1
      · rename_i hfits
        cases h1
        split
        · obtain ⟨u, g, c, i, p, hu, ho, hl, hp⟩ := hact f (s.setLine { s.line with input := _ })
          rw [hu]
          refine ⟨fun hs h => ?_, fun hs hm hr => ?_⟩
          · refine lawful_reply (hl hs (lawful_dropInput h hi)) ?_ g c i p
            have hreplies : u.line.replies = s.line.replies := congrArg Prod.fst ho
            rw [hreplies]
            exact hfits.1
          · exact repliesFit_reply (repliesFit_of_outbox hr (ho.trans rfl)) g c i (hp hs hm)
        · refine ⟨fun hs h => lawful_reply (lawful_dropInput h hi) hfits.1 _ _ _ _, fun hs hm hr => ?_⟩
          exact repliesFit_reply (repliesFit_of_outbox hr rfl) _ _ _ (ReplyPayload.fits_of_isSmall rfl)
      · cases h1

/-! ### The requests -/

theorem ChannelRecord.lawful.curve {x : ChannelRecord} (h : x.lawful) : curveLawful x.curve := by
  obtain ⟨-, -, -, -, -, -, -, -, -, -, -, -, -, -, hcurve, -⟩ := h
  exact hcurve

theorem State.settingsLawful.highWater_le {s : State} (h : s.settingsLawful) : s.setup.reporting.highWater ≤ 256 := by
  obtain ⟨⟨-, -, -, -, -, -, hreporting⟩, -⟩ := h
  exact hreporting.2.1

theorem payload_fits {x : ChannelRecord} (h : x.curve.length ≤ 8) : x.payload.bytes.length ≤ 2036 := by
  refine ReplyPayload.bytes_length_le _ ?_ ?_ ?_ ?_ ?_
  · exact fun _ _ _ _ _ he => nomatch he
  · intro f ka he
    cases he
    simpa [ChannelRecord.shown] using h
  · exact fun _ _ _ _ he => nomatch he
  · exact fun _ _ he => nomatch he
  · exact fun _ _ he => nomatch he

theorem landmarks_fit {es : List Landmark} (h : es.length ≤ 64) (n d : Nat) :
    (ReplyPayload.landmarksAdded n es).bytes.length ≤ 2036 ∧ (ReplyPayload.landmarks d es).bytes.length ≤ 2036 := by
  constructor
  all_goals
    refine ReplyPayload.bytes_length_le _ ?_ ?_ ?_ ?_ ?_
    · exact fun _ _ _ _ _ he => nomatch he
    · exact fun _ _ he => nomatch he
    · exact fun _ _ _ _ he => nomatch he
  · intro _ _ he
    cases he
    exact h
  · exact fun _ _ he => nomatch he
  · exact fun _ _ he => nomatch he
  · intro _ _ he
    cases he
    exact h

section
variable (f : Frame) (s : State)

theorem answers_setReporting (q : ReportingFields) : answersOne s (setReporting q f s) := by
  unfold setReporting
  split
  · exact answersOne_small rfl rfl _ _ _
  · split
    · exact answersOne_small rfl rfl _ _ _
    · exact ⟨_, _, _, _, _, rfl, outbox_applyReporting s _, fun _ h => lawful_applyReporting h _,
        fun _ _ => ReplyPayload.fits_of_isSmall rfl⟩

theorem answers_setTravel (q : TravelFields) : answersOne s (setTravel q f s) := by
  unfold setTravel
  dsimp only
  split
  · exact answersOne_small rfl rfl _ _ _
  · split
    · exact answersOne_small rfl rfl _ _ _
    · split
      · exact answersOne_small rfl rfl _ _ _
      · exact answersOne_small (lineCore_applyTravel s _) rfl _ _ _

theorem answers_setPosition (p : Word32) : answersOne s (setPosition p f s) := by
  unfold setPosition
  split
  · exact answersOne_small (lineCore_takePosition s _) rfl _ _ _
  · exact answersOne_small rfl rfl _ _ _

theorem answers_odoCalEnd (d : Int) : answersOne s (odoCalEnd d f s) := by
  unfold odoCalEnd
  dsimp only
  split
  · exact answersOne_small rfl rfl _ _ _
  · split
    · exact answersOne_small rfl rfl _ _ _
    · split
      · exact answersOne_small rfl rfl _ _ _
      · split
        · exact answersOne_small (lineCore_setTravel s _) rfl _ _ _
        · exact answersOne_small (by simp) rfl _ _ _

theorem curve_le_of_clampChannel {q : ChannelFields} {x : ChannelRecord} (h : q.clamp = some x) : x.curve.length ≤ 8 := by
  unfold ChannelFields.clamp at h
  split at h
  · rename_i hlen _ _ _
    cases h
    simpa using hlen
  · cases h

theorem answers_setChannel (q : ChannelFields) : answersOne s (setChannel q f s) := by
  unfold setChannel
  split
  · rename_i hq
    split
    · exact answersOne_small rfl rfl _ _ _
    · exact answersOne_of_core (lineCore_takeChannel s _ _ _) (fun _ _ => payload_fits (curve_le_of_clampChannel hq)) _ _ _
  · exact answersOne_small rfl rfl _ _ _

theorem answers_readChannel : answersOne s (readChannel f s) := by
  unfold readChannel
  split
  · exact answersOne_of_core rfl (fun hs _ => payload_fits (hs.channel _ _).curve.1) _ _ _
  · exact answersOne_small rfl rfl _ _ _

theorem answers_stagePlan (q : List (List Nat)) : answersOne s (stagePlan q f s) := by
  unfold stagePlan
  split
  · exact answersOne_small rfl rfl _ _ _
  · split
    · exact answersOne_small rfl rfl _ _ _
    · split
      · exact answersOne_small rfl rfl _ _ _
      · split
        · exact answersOne_small rfl rfl _ _ _
        · exact answersOne_small (lineCore_takePlan s _ _) rfl _ _ _

theorem answers_readPlan : answersOne s (readPlan f s) := by
  unfold readPlan
  split
  · exact answersOne_small rfl rfl _ _ _
  · rename_i r _
    refine answersOne_of_core rfl (fun hs _ => ?_) _ _ _
    have hplan : ∀ {lane : Channel → Lane} {p : Plan}, planLawful lane p → p.length ≤ 16 ∧ ∀ g ∈ p, g.length ≤ 4 :=
      fun h => ⟨h.1, fun g hg => (h.2 g hg).2.1⟩
    obtain ⟨⟨-, -, -, hplans, -⟩, -, -, hstaged⟩ := hs
    refine ReplyPayload.bytes_length_le _ ?_ ?_ ?_ ?_ ?_
    · exact fun _ _ _ _ _ he => nomatch he
    · exact fun _ _ he => nomatch he
    · intro a b i w he p hp
      cases he
      rcases List.mem_cons.mp hp with rfl | hp
      · exact hplan (hplans r)
      · exact hplan (hstaged r p (Option.mem_toList.mp hp))
    · exact fun _ _ he => nomatch he
    · exact fun _ _ he => nomatch he

theorem answers_setRail (q : RailFields) : answersOne s (setRail q f s) := by
  unfold setRail
  split
  · exact answersOne_small rfl rfl _ _ _
  · dsimp only
    split
    · exact answersOne_small rfl rfl _ _ _
    · split
      · exact answersOne_small rfl rfl _ _ _
      · split
        · exact answersOne_small rfl rfl _ _ _
        · exact answersOne_small (lineCore_setSetup s _) rfl _ _ _

theorem answers_setLevels (q : LevelFields) : answersOne s (setLevels q f s) := by
  unfold setLevels
  split
  · dsimp only
    split
    · exact answersOne_small rfl rfl _ _ _
    · exact answersOne_small (lineCore_setChannelRecord s _ _ _) rfl _ _ _
  · exact answersOne_small rfl rfl _ _ _

theorem answers_snapshot : answersOne s (snapshot f s) := by
  unfold snapshot
  split
  · split
    · exact answersOne_small rfl rfl _ _ _
    · split
      · exact answersOne_small rfl rfl _ _ _
      · exact answersOne_small (lineCore_setEcho s _ _) rfl _ _ _
  · exact answersOne_small rfl rfl _ _ _

theorem answers_calChannel (q : CalFields) : answersOne s (calChannel q f s) := by
  unfold calChannel
  dsimp only
  split
  · split
    · split
      · exact answersOne_small rfl rfl _ _ _
      · exact answersOne_small (lineCore_beginCal s _) rfl _ _ _
    · exact answersOne_small rfl rfl _ _ _
  · exact answersOne_small rfl rfl _ _ _

theorem answers_addLandmarks (es : List LandmarkFields) : answersOne s (addLandmarks es f s) := by
  unfold addLandmarks
  dsimp only
  split
  · exact answersOne_small rfl rfl _ _ _
  · split
    · exact answersOne_small rfl rfl _ _ _
    · rename_i new hnew
      refine answersOne_of_core (lineCore_setLandmarks s _) (fun _ hm => ?_) _ _ _
      have hlen := (entriesLawful_of_checkLandmarks (LandmarkList.lawful_iff.mp hm).1 rfl hnew).1
      rw [List.length_append] at hlen
      exact (landmarks_fit (by omega) _ 0).1

theorem answers_readLandmarks : answersOne s (readLandmarks f s) :=
  answersOne_of_core rfl (fun _ hm => (landmarks_fit hm.1 0 _).2) _ _ _

theorem answers_setPattern (q : SetPatternFields) : answersOne s (setPattern q f s) := by
  unfold setPattern
  split
  · exact answersOne_small rfl rfl _ _ _
  · dsimp only
    split
    · exact answersOne_small rfl rfl _ _ _
    · split
      · exact answersOne_small rfl rfl _ _ _
      · split
        · exact answersOne_small rfl rfl _ _ _
        · exact answersOne_small (lineCore_setSetup s _) rfl _ _ _

theorem answers_readPattern (i : Nat) : answersOne s (readPattern i f s) := by
  unfold readPattern
  split <;> exact answersOne_small rfl rfl _ _ _

theorem answers_setSignals (q : SignalFields) : answersOne s (setSignals q f s) := by
  unfold setSignals
  split
  · exact answersOne_small rfl rfl _ _ _
  · split
    · exact answersOne_small rfl rfl _ _ _
    · exact answersOne_small (lineCore_applySignals s _) rfl _ _ _

theorem answers_runStart : answersOne s (runStart f s) := by
  unfold runStart
  split
  · exact answersOne_small rfl rfl _ _ _
  · split
    · exact answersOne_small rfl rfl _ _ _
    · split
      · exact answersOne_small rfl rfl _ _ _
      · exact answersOne_small (lineCore_startRun s) rfl _ _ _

theorem answers_runStop : answersOne s (runStop f s) := by
  unfold runStop
  split
  · exact answersOne_small (lineCore_stopRun s) rfl _ _ _
  · exact answersOne_small rfl rfl _ _ _

theorem answers_flush : answersOne s (flush f s) := by
  unfold flush
  split
  · exact answersOne_small (by simp) rfl _ _ _
  · exact answersOne_small rfl rfl _ _ _

theorem answers_verify (q : VerifyFields) : answersOne s (verify q f s) := by
  unfold verify
  split
  · exact answersOne_small rfl rfl _ _ _
  · split
    · exact answersOne_small rfl rfl _ _ _
    · split
      · exact answersOne_small rfl rfl _ _ _
      · split
        · exact answersOne_small rfl rfl _ _ _
        · exact answersOne_small (lineCore_beginVerify s _ _) rfl _ _ _

theorem answers_setupSave : answersOne s (setupSave f s) := by
  unfold setupSave
  split
  · exact answersOne_small rfl rfl _ _ _
  · split
    · exact answersOne_small rfl rfl _ _ _
    · exact answersOne_small (lineCore_setRun s _) rfl _ _ _

theorem answers_setupReload : answersOne s (setupReload f s) := by
  unfold setupReload
  split
  · exact answersOne_small rfl rfl _ _ _
  · split
    · exact answersOne_small rfl rfl _ _ _
    · split
      · exact answersOne_small rfl rfl _ _ _
      · rename_i image _
        have hcore : (applySignals image.signals (takeImageRecords image (applyTravel image.travel s))).lineCore = s.lineCore := by
          simp
        refine ⟨_, _, _, _, _, rfl, ?_, fun _ h => ?_, fun _ _ => ReplyPayload.fits_of_isSmall rfl⟩
        · exact (outbox_applyReporting _ image.reporting).trans (outbox_of_core hcore)
        · exact lawful_applyReporting (lineLawful_of_core h hcore) image.reporting

/-- A RESTART empties the report queue and its counters; the frames that wait stay (R184). -/
theorem answers_restart : answersOne s (restart f s) := by
  unfold restart
  split
  · exact answersOne_small rfl rfl _ _ _
  · have hcore : (takeRestart s).lineCore = (restartLine s).lineCore := by
      have habort : ∀ t, (abortOperation t).lineCore = t.lineCore := by
        intro t
        unfold abortOperation
        split <;> simp
      simp [takeRestart, bothRails, restartRail, restartMarking, restartRun, habort]
    have hline : s.line.lawful → (restartLine s).line.lawful := by
      intro h
      obtain ⟨⟨h1, h2, h3, h4, -⟩, -⟩ := Line.lawful_iff.mp h
      refine Line.lawful_iff.mpr ⟨⟨h1, h2, h3, h4, ?_⟩, by simp [restartLine], Bundle.lawful_initial⟩
      simp [restartLine]
    exact ⟨_, _, _, _, _, rfl, (outbox_of_core hcore).trans rfl, fun _ h => lineLawful_of_core (hline h) hcore,
      fun _ _ => ReplyPayload.fits_of_isSmall rfl⟩

end

/-! ### What befalls the landmark list between queries -/

theorem lineStep_landmarkStep (s : State) (l : LandmarkStep) : lineStep s (landmarkStep s l) := by
  cases l with
  | retirement =>
    refine lineStep_of_core ?_
    show (frontierRetirement s).lineCore = _
    unfold frontierRetirement
    split <;> simp
  | add entries => exact lineStep_request fun f s => answers_addLandmarks f s entries
  | clear d => exact lineStep_request fun f s => answersOne_small (lineCore_setLandmarks s _) rfl _ _ _

theorem settingsLawful_landmarkStep {s : State} (h : s.settingsLawful) (l : LandmarkStep) : (landmarkStep s l).settingsLawful :=
  settingsLawful_dependsOn.kept_of_touches (touches_landmarkStep s l) (by simp) h

theorem settingsLawful_setRun {s : State} (h : s.settingsLawful) {x : RunControl} (hi : x.image = s.run.image)
    (hw : x.writing = s.run.writing) : (s.setRun x).settingsLawful :=
  h.of_view (settingsView_setRun _ hi hw)

theorem lineLawful_keptByClosing (r : Rail) : KeptByClosing State.lineLawful r where
  query s _ h := foldl_invariant landmarkStep State.lineLawful
    (fun _ l h => ⟨settingsLawful_landmarkStep h.1 l, (lineStep_landmarkStep _ l).1 h.1 h.2⟩) _ s h
  assembler _ _ h := ⟨h.1.of_view (settingsView_setAssembler _ _ _), h.2⟩
  offer _ _ h := ⟨h.1.of_view (settingsView_offer _ _), lineLawful_of_core h.2 (lineCore_offer _ _)⟩
  pulse _ _ h := ⟨h.1.of_view (settingsView_handPulse _ _), h.2⟩
  mark _ _ h := ⟨h.1.of_view (settingsView_requestMark _ _ _), h.2⟩
  suppress _ h := ⟨settingsLawful_setRun h.1 rfl rfl, h.2⟩
  drained _ h := ⟨settingsLawful_setRun h.1 rfl rfl, h.2⟩

/-- The law of the replies, in the outbox alone. -/
theorem repliesLawful_iff {s : State} : s.repliesLawful ↔ s.settingsLawful ∧ s.landmarks.lawful ∧ s.repliesFit := Iff.rfl

theorem repliesLawful_keptByClosing (r : Rail) : KeptByClosing State.repliesLawful r where
  query s _ h := foldl_invariant landmarkStep State.repliesLawful
    (fun _ l h => ⟨settingsLawful_landmarkStep h.1 l, listLawful_landmarkStep h.2.1 l, (lineStep_landmarkStep _ l).2 h.1 h.2.1 h.2.2⟩) _ s h
  assembler _ _ h := ⟨h.1.of_view (settingsView_setAssembler _ _ _), h.2⟩
  offer _ _ h := ⟨h.1.of_view (settingsView_offer _ _), h.2⟩
  pulse _ _ h := ⟨h.1.of_view (settingsView_handPulse _ _), h.2⟩
  mark _ _ h := ⟨h.1.of_view (settingsView_requestMark _ _ _), h.2⟩
  suppress _ h := ⟨settingsLawful_setRun h.1 rfl rfl, h.2⟩
  drained _ h := ⟨settingsLawful_setRun h.1 rfl rfl, h.2⟩

/-- What closing keeps of both laws is a step of the line. -/
theorem lineStep_of_closing {s t : State} (hl : s.lineLawful → t.lineLawful) (hr : s.repliesLawful → t.repliesLawful) :
    lineStep s t :=
  ⟨fun hs h => (hl ⟨hs, h⟩).2, fun hs hm h => (hr ⟨hs, hm, h⟩).2.2⟩

/-! ### Every command -/

section
variable (s : State)

theorem lineStep_recordOffer : lineStep s (recordOffer s) := by
  unfold recordOffer
  split
  · rename_i r rest _
    dsimp only
    split
    · refine lineStep_of_outbox (fun hs h => lawful_takeOffer (s := s.setLine { s.line with inbox := rest }) h ?_ r) ?_
      · exact hs.highWater_le
      · rw [outbox_takeOffer]
        rfl
    · exact lineStep_of_core rfl
  · exact lineStep_of_core rfl

theorem lineStep_changeHandover : lineStep s (changeHandover s) := by
  unfold changeHandover
  split
  · rename_i c rest _
    dsimp only
    split
    · refine lineStep_of_outbox (fun hs h => ?_) ?_
      · exact lawful_offerStatus (s := s.setLine { s.line with inbox := rest, changes := s.line.changes.enter c }) h
          hs.highWater_le _
      · rw [outbox_offerStatus]
        rfl
    · exact lineStep_of_outbox (fun _ h => h) rfl
  · exact lineStep_of_core rfl

theorem lineStep_statusTimerExpiry : lineStep s (statusTimerExpiry s) := by
  unfold statusTimerExpiry
  split
  · exact lineStep_of_core rfl
  · exact lineStep_of_core rfl
  · rename_i t _ _
    refine lineStep_of_outbox (fun hs h => ?_) (outbox_offerStatus _ _)
    exact lawful_offerStatus (s := s.advanceTo t) h hs.highWater_le .periodic

theorem lineStep_bundleFlushExpiry : lineStep s (bundleFlushExpiry s) := by
  unfold bundleFlushExpiry
  split
  · rename_i t ho _
    refine lineStep_of_outbox (fun _ h => ?_) rfl
    obtain ⟨hrest, hq, hb⟩ := Line.lawful_iff.mp h
    simp only [Bundle.lawful, ho] at hb
    exact Line.lawful_iff.mpr ⟨hrest, hq, hb.1, Nat.le_of_eq hb.2.1, rfl⟩
  · exact lineStep_of_core rfl

theorem lineStep_sendReply : lineStep s (sendReply s) := by
  unfold sendReply
  split
  · rename_i r rest _ hr
    refine ⟨fun _ h => ?_, fun _ _ h => ?_⟩
    · obtain ⟨⟨h1, h2, h3, h4, h5⟩, hqb⟩ := Line.lawful_iff.mp h
      refine Line.lawful_iff.mpr ⟨⟨h1, h2, h3, ?_, h5⟩, hqb⟩
      rw [hr] at h4
      simp at h4 ⊢
      omega
    · have hall : ∀ p ∈ r :: rest, p.fitsABody := hr ▸ h.1
      refine ⟨fun p hp => hall p (List.mem_cons_of_mem r hp), ?_⟩
      rintro p ⟨⟩
      exact hall _ List.mem_cons_self
  · exact lineStep_of_core rfl

theorem lineStep_sendBundle : lineStep s (sendBundle s) := by
  unfold sendBundle
  split
  · refine ⟨fun _ h => ?_, fun _ _ h => ?_⟩
    · obtain ⟨hrest, hq, -⟩ := Line.lawful_iff.mp h
      refine lawful_refill (s := s.setLine _) hrest ?_ (.inl rfl)
      simp
      omega
    · refine repliesFit_of_outbox (s := s.setLine _) ?_ (outbox_refill _)
      exact ⟨h.1, fun p hp => nomatch hp⟩
  · exact lineStep_of_core rfl

theorem lineStep_unknownRequest : lineStep s (unknownRequest s) := by
  unfold unknownRequest
  split
  · exact lineStep_of_core rfl
  · rename_i hi
    split
    · rename_i hfits
      refine ⟨fun _ h => lawful_reply (lawful_dropInput h hi) hfits.1 _ _ _ _, fun _ _ h => ?_⟩
      exact repliesFit_reply (repliesFit_of_outbox h rfl) _ _ _ (ReplyPayload.fits_of_isSmall rfl)
    · exact lineStep_of_core rfl

theorem lineStep_discardFrame : lineStep s (discardFrame s) := lineStep_of_outbox (fun _ h => lawful_discardFrame h) rfl

theorem lineStep_applyByte (b : Byte) (stop : Bool) : lineStep s (applyByte (s.line.receiver.receive b stop) s) :=
  lineStep_of_outbox (fun _ h => lawful_applyByte h) (outbox_applyByte s _)

theorem lineStep_frameReceived (b : Byte) : lineStep s (frameReceived b s) := by
  unfold frameReceived
  split
  · rename_i body hx
    exact lineStep_of_outbox (fun _ h => lawful_acceptFrame h ((Line.lawful_iff.mp h).1.1.valid hx)) (outbox_acceptFrame s body)
  · exact lineStep_of_core rfl
  · exact lineStep_of_core rfl

theorem lineStep_frameError (b : Byte) (stop : Bool) : lineStep s (frameError b stop s) := by
  unfold frameError
  split
  · exact lineStep_discardFrame s
  · exact lineStep_of_core rfl
  · exact lineStep_of_core rfl

theorem lineStep_silenceExpiry : lineStep s (silenceExpiry s) := by
  unfold silenceExpiry
  split
  · exact lineStep_of_core rfl
  · refine lineStep_of_outbox (fun _ h => lineLawful_of_core (s := State.setLine _ _) ?_ (lineCore_setSilence _ _)) ?_
    · exact Line.lawful_iff.mpr (Line.lawful_iff.mp h)
    · exact (outbox_of_core (lineCore_setSilence _ _)).trans rfl

theorem lineStep_powerOn : lineStep s (powerOn s) := by
  have hfit : (powerOn s).repliesFit := ⟨fun _ hp => (nomatch hp), fun _ hp => (nomatch hp)⟩
  refine ⟨fun _ _ => ?_, fun _ _ _ => hfit⟩
  refine Line.lawful_iff.mpr ⟨⟨trivial, ?_⟩, Nat.zero_le _, Bundle.lawful_initial⟩
  simp [powerOn, State.powered, Line.powerOn]

end

/-- Every command keeps the line's laws. -/
theorem lineStep_nextState (c : Instr) (s : State) : lineStep s (nextState c s) := by
  have hclosing : ∀ r, KeptByClosing State.lineLawful r ∧ KeptByClosing State.repliesLawful r := fun r =>
    ⟨lineLawful_keptByClosing r, repliesLawful_keptByClosing r⟩
  cases c with
  | powerOn => exact lineStep_powerOn s
  | resetInput => exact lineStep_powerOn s
  | encoderCount e =>
    refine lineStep_of_core (show (encoderCount e s).lineCore = _ from ?_)
    unfold encoderCount
    split
    · rfl
    · simp
  | standstillExpiry => exact lineStep_of_core (lineCore_standstillExpiry s)
  | completionProcessing r => exact lineStep_of_core (lineCore_completionProcessing s r)
  | commitHandover r => exact lineStep_of_core (lineCore_commitHandover s r)
  | echoDrainNotice r => exact lineStep_of_core (lineCore_echoDrainNotice s r)
  | indication r => exact lineStep_of_closing (hclosing r).1.takeIndication (hclosing r).2.takeIndication
  | settleCheck r => exact lineStep_of_closing (hclosing r).1.settleCheck (hclosing r).2.settleCheck
  | assemblerFlushNotice r => exact lineStep_of_closing (hclosing r).1.assemblerFlushNotice (hclosing r).2.assemblerFlushNotice
  | assemblerDrainNotice r => exact lineStep_of_closing (hclosing r).1.assemblerDrainNotice (hclosing r).2.assemblerDrainNotice
  | railDrained r => exact lineStep_of_core (lineCore_railDrained s r)
  | carPositionChange r => exact lineStep_of_core (lineCore_carPositionChange s r)
  | markRequest r => exact lineStep_of_core (lineCore_markRequest s r)
  | calFiringCompletion signal => exact lineStep_of_core (lineCore_calFiringCompletion s signal)
  | verifyFiringCompletion => exact lineStep_of_core (lineCore_verifyFiringCompletion s)
  | setupSaveComplete m => exact lineStep_of_core (lineCore_setupSaveComplete s m)
  | frameReceived b => exact lineStep_frameReceived s b
  | frameError b stop => exact lineStep_frameError s b stop
  | interByteTimeout =>
    show lineStep s (interByteTimeout s)
    unfold interByteTimeout
    split
    · exact lineStep_discardFrame s
    · exact lineStep_of_core rfl
  | unknownRequest => exact lineStep_unknownRequest s
  | sendReply => exact lineStep_sendReply s
  | sendBundle => exact lineStep_sendBundle s
  | recordOffer => exact lineStep_recordOffer s
  | bundleFlushExpiry => exact lineStep_bundleFlushExpiry s
  | changeHandover => exact lineStep_changeHandover s
  | statusTimerExpiry => exact lineStep_statusTimerExpiry s
  | silenceExpiry => exact lineStep_silenceExpiry s
  | identify => exact lineStep_request fun f s => answersOne_small rfl rfl _ _ _
  | readStatus => exact lineStep_request fun f s => answersOne_small rfl rfl _ _ _
  | setReporting q => exact lineStep_request fun f s => answers_setReporting f s q
  | setTravel q => exact lineStep_request fun f s => answers_setTravel f s q
  | setPosition p => exact lineStep_request fun f s => answers_setPosition f s p
  | odoCalBegin => exact lineStep_request fun f s => answersOne_small (lineCore_setTravel s _) rfl _ _ _
  | odoCalEnd d => exact lineStep_request fun f s => answers_odoCalEnd f s d
  | setChannel q =>
    change lineStep s (if _ then s else request _ _ s _)
    split
    · exact lineStep_of_core rfl
    · exact lineStep_request fun f s => answers_setChannel f s q
  | readChannel => exact lineStep_request answers_readChannel
  | stagePlan q => exact lineStep_request fun f s => answers_stagePlan f s q
  | readPlan => exact lineStep_request answers_readPlan
  | setRail q => exact lineStep_request fun f s => answers_setRail f s q
  | setLevels q => exact lineStep_request fun f s => answers_setLevels f s q
  | snapshot => exact lineStep_request answers_snapshot
  | calChannel q => exact lineStep_request fun f s => answers_calChannel f s q
  | addLandmarks entries => exact lineStep_landmarkStep s (.add entries)
  | clearLandmarks d => exact lineStep_landmarkStep s (.clear d)
  | readLandmarks => exact lineStep_request answers_readLandmarks
  | setPattern q => exact lineStep_request fun f s => answers_setPattern f s q
  | readPattern i => exact lineStep_request fun f s => answers_readPattern f s i
  | setSignals q => exact lineStep_request fun f s => answers_setSignals f s q
  | runStart => exact lineStep_request answers_runStart
  | runStop => exact lineStep_request answers_runStop
  | flush => exact lineStep_request answers_flush
  | restart => exact lineStep_request answers_restart
  | verify q => exact lineStep_request fun f s => answers_verify f s q
  | setupSave => exact lineStep_request answers_setupSave
  | setupReload => exact lineStep_request answers_setupReload
  | lineByteReceived b stop => exact lineStep_applyByte s b stop
  | frameSendEnd => exact ⟨fun _ h => h, fun _ _ h => ⟨h.1, fun p hp => nomatch hp⟩⟩
  | _ => exact lineStep_of_core (lineCore_of_touches (touches_nextState _ s) (by simp [commandParts]))

/-- A step is a tick, or a command on the state without it. -/
theorem lineStep_step {s t : State} (h : step s = .next t) : lineStep s t := by
  unfold step at h
  split at h
  · obtain rfl : tick s = t := Host.Outcome.next.inj h
    exact lineStep_of_core rfl
  · rename_i c rest _
    obtain rfl := nextState_eq h
    obtain ⟨hl, hr⟩ := lineStep_nextState c { s with pending := rest }
    exact ⟨hl, hr⟩

/-- Settles O57: every command is a step of the line, on settings and a landmark list that stay lawful (O55, O58). -/
theorem theLineStaysLawful : Obligations.TheLineStaysLawful :=
  ⟨fun s t h hst => ⟨settingsStayLawful s t h.1 hst, (lineStep_step hst).1 h.1 h.2⟩,
    fun s t h hst => ⟨settingsStayLawful s t h.1 hst, listLawful_keptByEveryStep s t h.2.1 hst,
      (lineStep_step hst).2 h.1 h.2.1 h.2.2⟩⟩

end Sys2Proof.Machine
end

section
/-! PROOFS. The travel unit and the run controller stay lawful (O56). -/

namespace Sys2Proof.Machine

/-! ### A law that rests on another -/

/-- What taking a request can come to: nothing, the request's effect, or the reply LENGTH. -/
theorem request_cases (k : RequestKind) (n : Nat) (s : State) (act : Frame → State → State) :
    request k n s act = s ∨ (∃ f x, request k n s act = act f (s.setLine x)) ∨ ∃ x, request k n s act = s.setLine x := by
  unfold request takeRequest
  split
  · exact .inl rfl
  · rename_i f s1 h1
    split at h1
    · cases h1
    · split at h1
      · cases h1
        split
        · exact .inr (.inl ⟨_, _, rfl⟩)
        · exact .inr (.inr ⟨_, rfl⟩)
      · cases h1

/-- A request keeps what its effect keeps on states that meet another law, where neither law reads the line. -/
theorem dependsOn.kept_of_request_with {qs as : List Part} {A P : State → Prop} (ha : dependsOn as A) (hal : Part.line ∉ as)
    (hd : dependsOn qs P) (hl : Part.line ∉ qs) {k : RequestKind} {n : Nat} {s : State} {act : Frame → State → State}
    (hact : ∀ f s, A s → P s → P (act f s)) (hA : A s) (hP : P s) : P (request k n s act) := by
  have hline : ∀ {bs : List Part} {Q : State → Prop}, dependsOn bs Q → Part.line ∉ bs → Q s → ∀ x, Q (s.setLine x) :=
    fun hq hb h x => hq.kept_of_touches (touches_setLine s x) (fun p hp hm => hb (List.mem_singleton.mp hm ▸ hp)) h
  rcases request_cases k n s act with h | ⟨f, x, h⟩ | ⟨x, h⟩
  · rwa [h]
  · rw [h]
    exact hact f _ (hline ha hal hA x) (hline hd hl hP x)
  · rw [h]
    exact hline hd hl hP x

/-- Every step keeps a law that rests on another, where it keeps that one. -/
theorem keptByEveryStep_with {qs as : List Part} {A P : State → Prop} (hA : keptByEveryStep A) (ha : dependsOn as A)
    (hap : Part.pending ∉ as) (hd : dependsOn qs P) (hp : Part.pending ∉ qs) (htick : ∀ s, P s → P (tick s))
    (hc : ∀ c s, A s → P s → P (nextState c s)) : keptByEveryStep (fun s => A s ∧ P s) := by
  have hrest : ∀ {bs : List Part} {Q : State → Prop} {s : State}, dependsOn bs Q → Part.pending ∉ bs → Q s →
      ∀ rest, Q { s with pending := rest } := fun hq hb h rest =>
    hq _ _ (fun p hp => by cases p <;> first | rfl | exact absurd hp hb) h
  intro s t hs hst
  refine ⟨hA s t hs.1 hst, ?_⟩
  unfold step at hst
  split at hst
  · obtain rfl : tick s = t := Host.Outcome.next.inj hst
    exact htick s hs.2
  · obtain rfl := nextState_eq hst
    exact hc _ _ (hrest ha hap hs.1 _) (hrest hd hp hs.2 _)

/-! ### The clock never goes back -/

theorem now_le_of_touches {ps : List Part} {s t : State} (h : TouchesOnly ps s t) (hn : Part.now ∉ ps) : s.now ≤ t.now :=
  Nat.le_of_eq (h .now hn).symm

@[simp] theorem startGroup_now (r : Rail) (q : PitchRequest) (s : State) : (startGroup r q s).now = s.now := rfl

@[simp] theorem sendDrainNotice_now (r : Rail) (s : State) : (sendDrainNotice r s).now = s.now := by
  unfold sendDrainNotice
  split <;> simp

@[simp] theorem startOperationFiring_now (r : Rail) (ch : Channel) (s : State) : (startOperationFiring r ch s).now = s.now := rfl

@[simp] theorem endOperation_now (r : Rail) (s : State) : (endOperation r s).now = s.now := by
  simp [endOperation]

@[simp] theorem endCal_now (c : CalStep) (s : State) : (endCal c s).now = s.now := by
  unfold endCal
  split
  · split
    · simp
    · dsimp only
      split <;> simp [State.setChannelRecord]
  · split <;> simp

@[simp] theorem offerStatus_now (cause : StatusCause) (s : State) : (offerStatus cause s).now = s.now :=
  (peel_offerStatus (ps := [.line]) (by simp) cause s |>.mpr (.refl _ s)) .now (by simp)

theorem now_le_nextState (c : Instr) (s : State) : s.now ≤ (nextState c s).now := by
  have hsame : s.now ≤ s.now := Nat.le_refl _
  cases c with
  | standstillExpiry =>
    show s.now ≤ (standstillExpiry s).now
    unfold standstillExpiry
    split
    · exact hsame
    · split <;> simp
  | speedWindowEnd => exact Nat.le_max_left _ _
  | groupCompletion r l =>
    show s.now ≤ (groupCompletion r l s).now
    unfold groupCompletion
    split
    · exact hsame
    · dsimp only
      split <;> simp
  | sprayEnd r =>
    show s.now ≤ (sprayEnd r s).now
    unfold sprayEnd
    split <;> simp
  | stretchEnd l =>
    show s.now ≤ (stretchEnd l s).now
    unfold stretchEnd
    split <;> simp
  | calFiringStart =>
    show s.now ≤ (calFiringStart s).now
    unfold calFiringStart
    split
    · split <;> simp
    · exact hsame
  | calFiringCompletion signal =>
    show s.now ≤ (calFiringCompletion signal s).now
    unfold calFiringCompletion
    split
    · split
      · exact hsame
      · dsimp only
        split
        · simp
        · split <;> simp
    · exact hsame
  | verifyFiringStart =>
    show s.now ≤ (verifyFiringStart s).now
    unfold verifyFiringStart
    split
    · split <;> simp
    · exact hsame
  | verifyFiringCompletion =>
    show s.now ≤ (verifyFiringCompletion s).now
    unfold verifyFiringCompletion
    split
    · split
      · exact hsame
      · dsimp only
        split
        · simp
        · split <;> simp
    · exact hsame
  | bundleFlushExpiry =>
    show s.now ≤ (bundleFlushExpiry s).now
    unfold bundleFlushExpiry
    split <;> simp
  | statusTimerExpiry =>
    show s.now ≤ (statusTimerExpiry s).now
    unfold statusTimerExpiry
    split <;> simp
  | silenceExpiry =>
    show s.now ≤ (silenceExpiry s).now
    unfold silenceExpiry
    split <;> simp
  | powerOn => exact now_le_of_touches (touches_nextState .powerOn s) (by simp [commandParts, Part.blocks])
  | resetInput => exact now_le_of_touches (touches_nextState .resetInput s) (by simp [commandParts, Part.blocks])
  | _ => exact now_le_of_touches (touches_nextState _ s) (by simp [commandParts, Part.closing])

/-! ### The travel unit -/

/-- The travel unit's own part of the law. -/
def State.travelOk (s : State) : Prop := s.travel.lawful s.now ∧ ∀ r, (s.marking.get r).motion = s.travel.motion

theorem travelLawful_iff {s : State} : s.travelLawful ↔ s.settingsLawful ∧ s.travelOk := Iff.rfl

theorem Travel.lawful.later {t : Travel} {a b : Nat} (h : t.lawful a) (hab : a ≤ b) : t.lawful b := by
  obtain ⟨h1, h2, h3, h4, h5, h6, h7, h8, h9, h10, h11, h12, h13⟩ := h
  exact ⟨h1, h2, h3, h4, h5, h6, h7, h8, h9, h10, h11, h12, fun m hm => (h13 m hm).trans hab⟩

/-- The motion both marking units hold. -/
def State.heldMotion (s : State) (r : Rail) : Motion := (s.marking.get r).motion

/-- A step that leaves the travel unit and the motions alone. -/
theorem State.travelOk.of_same {s t : State} (h : s.travelOk) (ht : t.travel = s.travel) (hn : s.now ≤ t.now)
    (hm : t.heldMotion = s.heldMotion) : t.travelOk := by
  refine ⟨ht ▸ h.1.later hn, fun r => ?_⟩
  rw [ht]
  exact (congrFun hm r).trans (h.2 r)

theorem travelOk_dependsOn : dependsOn [.travel, .now, .marking .left, .marking .right] State.travelOk := by
  intro s t hst h
  refine h.of_same (hst .travel (by simp)) (Nat.le_of_eq (hst .now (by simp)).symm) (funext fun r => ?_)
  have hr : t.marking.get r = s.marking.get r := by cases r <;> exact hst (.marking _) (by simp)
  rw [State.heldMotion, hr]
  rfl

/-- A new travel unit with the motion it had. -/
theorem State.travelOk.setTravel {s : State} (h : s.travelOk) {x : Travel} (hx : x.lawful s.now) (hm : x.motion = s.travel.motion) :
    (s.setTravel x).travelOk :=
  ⟨hx, fun r => (h.2 r).trans hm.symm⟩

theorem Travel.lawful.standstill {t : Travel} {n : Nat} (h : t.lawful n) :
    Travel.lawful { t with motion := .standstill } n := by
  obtain ⟨h1, h2, h3, h4, h5, h6, h7, h8, h9, h10, h11, -, h13⟩ := h
  exact ⟨h1, h2, h3, h4, h5, h6, h7, h8, h9, h10, h11, fun _ => rfl, h13⟩

/-- Setting the motion state keeps both marking units at it (R9). -/
theorem State.travelOk.setMotion {s : State} {m : Motion} (hm : Travel.lawful { s.travel with motion := m } s.now)
    (hs : ∀ r, s.heldMotion r = s.travel.motion) : (s.setMotion m).travelOk := by
  unfold Machine.State.setMotion
  dsimp only
  split
  · rename_i heq
    exact ⟨hm, fun r => (hs r).trans heq⟩
  · refine ⟨hm, fun r => ?_⟩
    cases r <;> rfl

section
variable (s : State)

@[simp] theorem heldMotion_setMarking {r : Rail} {x : MarkingUnit} (h : x.motion = s.heldMotion r) :
    (s.setMarking r x).heldMotion = s.heldMotion :=
  funext fun q => Rails.get_set_field MarkingUnit.motion s.marking h q

@[simp] theorem heldMotion_offer (x : Record) : (s.offer x).heldMotion = s.heldMotion := rfl
@[simp] theorem heldMotion_setLine (x : Line) : (s.setLine x).heldMotion = s.heldMotion := rfl
@[simp] theorem heldMotion_reply (f : Frame) (c : ReplyCode) (i : Nat) (p : ReplyPayload) :
    (s.reply f c i p).heldMotion = s.heldMotion := rfl
@[simp] theorem heldMotion_setRouter (x : Router) : (s.setRouter x).heldMotion = s.heldMotion := rfl
@[simp] theorem heldMotion_setFiring (r : Rail) (x : FiringUnit) : (s.setFiring r x).heldMotion = s.heldMotion := rfl
@[simp] theorem heldMotion_setTravel (x : Travel) : (s.setTravel x).heldMotion = s.heldMotion := rfl
@[simp] theorem heldMotion_setLandmarks (x : LandmarkList) : (s.setLandmarks x).heldMotion = s.heldMotion := rfl
@[simp] theorem heldMotion_handLevel (x : LevelHandover) : (s.handLevel x).heldMotion = s.heldMotion := rfl

@[simp] theorem heldMotion_requestMark (r : Rail) (x : MarkRequest) : (s.requestMark r x).heldMotion = s.heldMotion :=
  heldMotion_setMarking s rfl

@[simp] theorem heldMotion_handMove (r : Rail) (x : Move) : (s.handMove r x).heldMotion = s.heldMotion :=
  heldMotion_setMarking s rfl

@[simp] theorem heldMotion_setSpray (r : Rail) (x : Option Nat) : (s.setSpray r x).heldMotion = s.heldMotion := by
  have h : (s.setMarking r { s.marking.get r with sprayEnd := x }).heldMotion = s.heldMotion := heldMotion_setMarking s rfl
  unfold State.setSpray
  dsimp only
  split
  · exact h
  · exact h

theorem heldMotion_of_beside {s t : State} (h : TouchesOnly (Part.beside [.marking .left, .marking .right]) s t) :
    t.heldMotion = s.heldMotion := by
  funext r
  have hr : t.marking.get r = s.marking.get r := by cases r <;> exact h (.marking _) (by simp)
  rw [State.heldMotion, hr]
  rfl

@[simp] theorem heldMotion_discardMarks (r : Rail) : (discardMarks r s).heldMotion = s.heldMotion := by
  have h : ∀ (xs : List Record) (t : State), (xs.foldl State.offer t).heldMotion = t.heldMotion :=
    foldl_keeps State.offer State.heldMotion heldMotion_offer
  rw [discardMarks, h]
  exact heldMotion_setMarking s rfl

theorem heldMotion_fireReached (r : Rail) (gun : Int) (q : List Mark) : (fireReached r gun q s).heldMotion = s.heldMotion := by
  induction q generalizing s with
  | nil => rfl
  | cons m rest ih =>
    unfold fireReached
    split
    · rw [ih, fireMark, heldMotion_setSpray, heldMotion_offer]
      exact heldMotion_setMarking s rfl
    · rfl

theorem heldMotion_carPositionChange (r : Rail) : (carPositionChange r s).heldMotion = s.heldMotion := by
  have h : ∀ gun moves, (s.setMarking r { s.marking.get r with gun := gun, moves := moves }).heldMotion = s.heldMotion :=
    fun _ _ => heldMotion_setMarking s rfl
  unfold carPositionChange
  split
  · rfl
  · dsimp only
    split
    · rw [heldMotion_fireReached, h]
    · exact h _ _

theorem heldMotion_markRequest (r : Rail) : (markRequest r s).heldMotion = s.heldMotion := by
  unfold markRequest
  split
  · rfl
  · exact heldMotion_setMarking s rfl

theorem heldMotion_sprayEnd (r : Rail) : (sprayEnd r s).heldMotion = s.heldMotion := by
  unfold sprayEnd
  split
  · rfl
  · exact heldMotion_setSpray _ r none

theorem heldMotion_takeRestart : (takeRestart s).heldMotion = s.heldMotion := by
  have hmarking : ∀ t r, (restartMarking t r).heldMotion = t.heldMotion := fun t r => by simp [restartMarking]
  unfold takeRestart
  extract_lets s1 s2 l s3 s4
  have h3 : s3.heldMotion = s.heldMotion := heldMotion_of_beside (by simp [s3, s2, s1, bothRails])
  have h4 : s4.heldMotion = s3.heldMotion := foldl_keeps _ State.heldMotion hmarking bothRails s3
  rw [heldMotion_setRouter, h4, h3]

theorem heldMotion_takePosition (p : Int) : (takePosition p s).heldMotion = s.heldMotion := by
  have hrail : ∀ (t : State) (r : Rail) (x : FiringUnit) (gun : Int),
      ((discardMarks r (t.setFiring r x)).setMarking r
        { (discardMarks r (t.setFiring r x)).marking.get r with gun := gun, moves := [] }).heldMotion = t.heldMotion := by
    intro t r x gun
    refine (heldMotion_setMarking _ ?_).trans ?_
    · rfl
    · rw [heldMotion_discardMarks, heldMotion_setFiring]
  unfold takePosition
  extract_lets t s1 s2
  have h2 : s2.heldMotion = s1.heldMotion := by
    refine foldl_keeps _ State.heldMotion ?_ bothRails s1
    exact fun t r => hrail t r _ _
  rw [heldMotion_setLandmarks, h2, heldMotion_setTravel]

theorem heldMotion_keptByClosing (m : Rail → Motion) (r : Rail) : KeptByClosing (fun t => t.heldMotion = m) r where
  query s n h := (heldMotion_of_beside ((touches_seen s n).mono (by simp))).trans h
  assembler _ _ h := h
  offer _ _ h := h
  pulse _ _ h := h
  mark s x h := (heldMotion_requestMark s r x).trans h
  suppress _ h := h
  drained _ h := h

end

/-- What leaves the travel unit alone, by its frame. -/
theorem State.travelOk.of_command {c : Instr} {s : State} (h : s.travelOk) (ht : Part.travel ∉ commandParts c)
    (hm : (nextState c s).heldMotion = s.heldMotion) : (nextState c s).travelOk :=
  h.of_same (touches_nextState c s .travel ht) (now_le_nextState c s) hm

/-- The boundaries reached by a count bring the next boundary just above the car position (R7). -/
theorem boundary_after_count {car b : Int} {pitch : Nat} (hp : 1 ≤ pitch) :
    car < b + (boundariesReached car b pitch * pitch : Nat) ∧
      (boundariesReached car b pitch = 0 ∨ b + (boundariesReached car b pitch * pitch : Nat) ≤ car + pitch) := by
  unfold boundariesReached
  split
  · rename_i hlt
    exact ⟨by simpa using hlt, .inl rfl⟩
  · rename_i hge
    have hpos : (0 : Int) < pitch := by omega
    have hdiv := Int.mul_ediv_add_emod (car - b) pitch
    have hmod := Int.emod_lt_of_pos (car - b) hpos
    have hmod0 := Int.emod_nonneg (car - b) (by omega : (pitch : Int) ≠ 0)
    have hq : 0 ≤ (car - b) / (pitch : Int) := Int.ediv_nonneg (by omega) (by omega)
    have hn : ((((car - b) / (pitch : Int) + 1).toNat * pitch : Nat) : Int) = (car - b) / pitch * pitch + pitch := by
      rw [Nat.cast_mul, Int.toNat_of_nonneg (by omega), Int.add_mul, Int.one_mul]
    rw [hn]
    rw [Int.mul_comm] at hdiv
    exact ⟨by omega, .inr (by omega)⟩

theorem Travel.lawful.count {t : Travel} {now : Nat} (h : t.lawful now) {set : TravelSettings} (hset : set.lawful) (sign : Int) :
    Travel.lawful { t.count set now sign with motion := motionOf sign } now := by
  obtain ⟨h1, h2, h3, h4, h5, h6, h7, h8, h9, h10, h11, h12, h13⟩ := h
  obtain ⟨-, -, hp, hp', -, -⟩ := hset
  have hacc := clampInt_ge Config.accumulatorMin Config.accumulatorMax (t.accumulator + sign * set.scale)
  have hacc' := clampInt_le (lo := Config.accumulatorMin) (hi := Config.accumulatorMax) (by decide)
    (t.accumulator + sign * set.scale)
  have hcal := clampInt_ge Config.calCountMin Config.calCountMax (t.calCount + sign)
  have hcal' := clampInt_le (lo := Config.calCountMin) (hi := Config.calCountMax) (by decide) (t.calCount + sign)
  unfold Travel.count
  generalize clampInt Config.accumulatorMin Config.accumulatorMax (t.accumulator + sign * set.scale) = acc at hacc hacc' ⊢
  generalize clampInt Config.calCountMin Config.calCountMax (t.calCount + sign) = cal at hcal hcal' ⊢
  dsimp only
  obtain ⟨hb, hb'⟩ := boundary_after_count (car := acc / 65536) (b := t.boundary) (pitch := set.pitch) (by omega)
  generalize boundariesReached (acc / 65536) t.boundary set.pitch = n at hb hb' ⊢
  have hzero : n = 0 → ((n * set.pitch : Nat) : Int) = 0 := fun hn => by simp [hn]
  have hstep : 0 ≤ ((n * set.pitch : Nat) : Int) := Int.natCast_nonneg _
  generalize ((n * set.pitch : Nat) : Int) = step at hb hb' hzero hstep ⊢
  simp only [Travel.lawful, Travel.carPosition, Config.accumulatorMin, Config.accumulatorMax, Config.positionMax,
    Config.positionMin, Config.calCountMin, Config.calCountMax] at *
  refine ⟨hacc, hacc', by omega, by omega, by omega, by omega, h7, h8, h9, ?_, ?_, by simp, ?_⟩
  · split <;> omega
  · split <;> omega
  · simp

theorem State.travelOk.takeCount {s : State} (h : s.travelOk) (hset : s.setup.travel.lawful) (sign : Int) :
    (takeCount sign s).travelOk := by
  unfold Machine.takeCount
  extract_lets t t' events s1 s2 s3
  have h1 : s1.travelOk := State.travelOk.setMotion (s := s.setTravel t') (h.1.count hset sign) fun r => (h.2 r)
  have h2 : s2.travelOk := iteInduction (fun _ => h1) fun _ =>
    h1.of_same rfl (Nat.le_refl _) (by rw [heldMotion_handMove, heldMotion_handMove])
  have h3 : s3.travelOk := iteInduction (fun _ => h2.of_same rfl (Nat.le_refl _) rfl) fun _ => h2
  exact iteInduction (fun _ => h3) fun _ => h3.of_same rfl (Nat.le_refl _) rfl

theorem State.travelOk.applyTravel {s : State} (h : s.travelOk) (x : TravelSettings) : (applyTravel x s).travelOk := by
  have h1 : (s.setSetup { s.setup with travel := x }).travelOk := h.of_same rfl (Nat.le_refl _) rfl
  unfold Machine.applyTravel
  dsimp only
  split
  · exact h1
  · exact iteInduction (fun _ => State.travelOk.setMotion h1.1.standstill h1.2) fun _ => h1

/-- A position set stands for accumulator, frontier and speed reference; the boundary lies one pitch above (R12). -/
theorem Travel.lawful.set {t : Travel} {now : Nat} (h : t.lawful now) {set : TravelSettings} (hset : set.lawful) (p : Word32) :
    Travel.lawful { t with
      accumulator := p.toInt * 65536, frontier := p.toInt, boundary := p.toInt + set.pitch, speedReference := p.toInt } now := by
  obtain ⟨-, -, -, -, -, -, h7, -, -, h10, h11, h12, h13⟩ := h
  obtain ⟨-, -, hp, hp', -, -⟩ := hset
  have hlo := BitVec.le_toInt p
  have hhi : p.toInt < 2 ^ (32 - 1) := BitVec.toInt_lt
  refine ⟨?_, ?_, ?_, ?_, ?_, ?_, h7, ?_, ?_, h10, h11, h12, h13⟩
  all_goals
    simp only [Travel.carPosition, Config.accumulatorMin, Config.accumulatorMax, Config.positionMax, Config.positionMin]
    omega

theorem State.travelOk.setPosition {s : State} (h : s.travelOk) (hset : s.setup.travel.lawful) (p : Word32) (f : Frame) :
    (setPosition p f s).travelOk := by
  unfold Machine.setPosition
  split
  · have htouch : TouchesOnly [.landmarks, .firing .left, .firing .right, .marking .left, .marking .right, .line]
        (s.setTravel { s.travel with
          accumulator := p.toInt * 65536, frontier := p.toInt, boundary := p.toInt + s.setup.travel.pitch
          speedReference := p.toInt })
        ((takePosition p.toInt s).reply f .ok 0 .headOnly) := by
      simp [takePosition, bothRails]
    refine State.travelOk.of_same (h.setTravel (h.1.set hset p) rfl) (htouch .travel (by simp))
      (Nat.le_of_eq (htouch .now (by simp)).symm) ?_
    exact (heldMotion_takePosition s p.toInt)
  · exact h.of_same rfl (Nat.le_refl _) rfl

theorem State.travelOk.odoCalEnd {s : State} (h : s.travelOk) (d : Int) (f : Frame) : (odoCalEnd d f s).travelOk := by
  have hreply : ∀ c i p, (s.reply f c i p).travelOk := fun _ _ _ => h.of_same rfl (Nat.le_refl _) rfl
  have hclosed : (s.setTravel { s.travel with calOpen := false }).travelOk := h.setTravel h.1 rfl
  unfold Machine.odoCalEnd
  dsimp only
  split
  · exact hreply _ _ _
  · split
    · exact hreply _ _ _
    · split
      · exact hreply _ _ _
      · split <;> exact hclosed.of_same rfl (Nat.le_refl _) rfl

theorem Travel.lawful_powerOn {pitch : Nat} (hp : 10 ≤ pitch) (hp' : pitch ≤ 200) (now : Nat) :
    (Travel.powerOn pitch now).lawful now := by
  refine ⟨?_, ?_, ?_, ?_, ?_, ?_, ?_, ?_, ?_, ?_, ?_, fun _ => rfl, fun m hm => nomatch hm⟩
  all_goals
    simp only [Travel.powerOn, Travel.carPosition, Config.accumulatorMin, Config.accumulatorMax, Config.positionMax,
      Config.positionMin, Config.calCountMin, Config.calCountMax]
    omega

theorem travelOk_powerOn {s : State} (h : s.settingsLawful) : (powerOn s).travelOk := by
  have hsetup : (s.run.image.getD Setup.defaults).travel.lawful := by
    cases hi : s.run.image with
    | none => exact defaults_lawful.1
    | some u => exact (h.2.1 u hi).1
  obtain ⟨-, -, hp, hp', -, -⟩ := hsetup
  exact ⟨Travel.lawful_powerOn hp hp' s.now, fun r => by cases r <;> rfl⟩

theorem State.travelOk.odoCalBegin {s : State} (h : s.travelOk) (f : Frame) : (odoCalBegin f s).travelOk := by
  obtain ⟨⟨k1, k2, k3, k4, k5, k6, k7, k8, k9, -, -, k12, k13⟩, hm⟩ := h
  exact ⟨⟨k1, k2, k3, k4, k5, k6, k7, k8, k9, (by decide : Config.calCountMin ≤ 0), (by decide : 0 ≤ Config.calCountMax), k12,
    k13⟩, hm⟩

theorem State.travelOk.speedWindowEnd {s : State} (h : s.travelOk) : (speedWindowEnd s).travelOk := by
  have h1 : (s.advanceTo s.travel.windowEnd).travelOk := h.of_same rfl (Nat.le_max_left _ _) rfl
  obtain ⟨⟨k1, k2, k3, k4, k5, k6, -, -, -, k10, k11, k12, k13⟩, hm⟩ := h1
  refine ⟨⟨k1, k2, k3, k4, k5, k6, Nat.min_le_left _ _, ?_, k3.trans k4, k10, k11, k12, k13⟩, hm⟩
  have hlo : Config.accumulatorMin ≤ s.travel.accumulator := k1
  show Config.positionMin ≤ s.travel.accumulator / 65536
  rw [Config.accumulatorMin] at hlo
  rw [Config.positionMin]
  omega

theorem State.travelOk.standstillExpiry {s : State} (h : s.travelOk) : (standstillExpiry s).travelOk := by
  unfold Machine.standstillExpiry
  split
  · exact h
  · rename_i t _
    have h1 : (s.advanceTo (t + s.setup.travel.standstill * Config.ticksPerMs)).travelOk :=
      h.of_same rfl (Nat.le_max_left _ _) rfl
    exact iteInduction (fun _ => h) fun _ => State.travelOk.setMotion h1.1.standstill h1.2

/-- With lawful settings every command keeps the travel unit lawful. -/
theorem travelOk_nextState (c : Instr) (s : State) (hs : s.settingsLawful) (h : s.travelOk) : (nextState c s).travelOk := by
  have hrequest := @dependsOn.kept_of_request_with _ _ _ _ settingsLawful_dependsOn (by simp) travelOk_dependsOn (by simp)
  have hreply : ∀ {t : State}, t.travelOk → ∀ f c i p, (t.reply f c i p).travelOk :=
    fun ht _ _ _ _ => ht.of_same rfl (Nat.le_refl _) rfl
  have hclosing : ∀ r, KeptByClosing (fun t => t.heldMotion = s.heldMotion) r := heldMotion_keptByClosing s.heldMotion
  cases c with
  | powerOn => exact travelOk_powerOn hs
  | resetInput => exact travelOk_powerOn hs
  | encoderCount e =>
    show (encoderCount e s).travelOk
    unfold encoderCount
    split
    · exact h
    · exact h.takeCount hs.1.1 _
  | standstillExpiry => exact h.standstillExpiry
  | speedWindowEnd => exact h.speedWindowEnd
  | indication r => exact h.of_command (by simp [commandParts, Part.closing]) ((hclosing r).takeIndication rfl)
  | settleCheck r => exact h.of_command (by simp [commandParts, Part.closing]) ((hclosing r).settleCheck rfl)
  | assemblerFlushNotice r => exact h.of_command (by simp [commandParts, Part.closing]) ((hclosing r).assemblerFlushNotice rfl)
  | assemblerDrainNotice r => exact h.of_command (by simp [commandParts, Part.closing]) ((hclosing r).assemblerDrainNotice rfl)
  | carPositionChange r => exact h.of_command (by simp [commandParts]) (heldMotion_carPositionChange s r)
  | markRequest r => exact h.of_command (by simp [commandParts]) (heldMotion_markRequest s r)
  | sprayEnd r => exact h.of_command (by simp [commandParts]) (heldMotion_sprayEnd s r)
  | setTravel q =>
    refine hrequest (fun f s _ h => ?_) hs h
    unfold setTravel
    dsimp only
    split
    · exact hreply h _ _ _ _
    · split
      · exact hreply h _ _ _ _
      · split
        · exact hreply h _ _ _ _
        · exact hreply (h.applyTravel _) _ _ _ _
  | setPosition p => exact hrequest (fun f s hs h => h.setPosition hs.1.1 p f) hs h
  | odoCalBegin => exact hrequest (fun f s _ h => h.odoCalBegin f) hs h
  | odoCalEnd d => exact hrequest (fun f s _ h => h.odoCalEnd d f) hs h
  | restart =>
    refine h.of_command (by simp [commandParts]) ?_
    have hrestart : ∀ (f : Frame) (t : State), (restart f t).heldMotion = t.heldMotion := by
      intro f t
      unfold restart
      split
      · simp
      · rw [heldMotion_reply, heldMotion_takeRestart]
    show (request .restart 0 s restart).heldMotion = s.heldMotion
    rcases request_cases .restart 0 s restart with hx | ⟨f, x, hx⟩ | ⟨x, hx⟩
    · rw [hx]
    · rw [hx, hrestart, heldMotion_setLine]
    · rw [hx, heldMotion_setLine]
  | setupReload =>
    refine hrequest (fun f s _ h => ?_) hs h
    unfold setupReload
    split
    · exact hreply h _ _ _ _
    · split
      · exact hreply h _ _ _ _
      · split
        · exact hreply h _ _ _ _
        · rename_i image _
          exact travelOk_dependsOn.kept_beside (s := applyTravel image.travel s) (by simp [applyImage]) (h.applyTravel _)
  | _ => exact h.of_command (by simp [commandParts]) (heldMotion_of_beside ((touches_nextState _ s).mono (by simp [commandParts])))

/-- Every step keeps the travel unit lawful, on settings that stay lawful (O55). -/
theorem travelLawful_keptByEveryStep : keptByEveryStep State.travelLawful :=
  keptByEveryStep_with settingsStayLawful settingsLawful_dependsOn (by simp) travelOk_dependsOn (by simp)
    (fun _ h => State.travelOk.of_same h rfl (Nat.le_succ _) rfl) travelOk_nextState

end Sys2Proof.Machine
end

section
/-! PROOFS. The run controller stays lawful (second part of O56), and O56. -/

namespace Sys2Proof.Machine

/-! ### The law -/

/-- The law reads the run state, the operation, the store and the suppressed counter alone. -/
theorem RunControl.lawful.of_same {c d : RunControl} (h : c.lawful) (hs : d.state = c.state) (ho : d.operation = c.operation)
    (hw : d.writing = c.writing) (hi : d.image = c.image) (hn : d.suppressed = c.suppressed) : d.lawful := by
  unfold RunControl.lawful at h ⊢
  rwa [hs, ho, hw, hi, hn]

/-- With no operation in flight, outside CALIBRATING and VERIFYING, and with nothing being written. -/
theorem RunControl.lawful_of_idle {c : RunControl} (hw : c.writing = none) (ho : c.operation = none)
    (hc : c.state ≠ .calibrating) (hv : c.state ≠ .verifying) (hn : c.suppressed ≤ 65535) : c.lawful := by
  refine ⟨?_, iff_of_false hc ?_, iff_of_false hv ?_, hn⟩
  · rw [hw]
    exact fun h => nomatch h
  · rintro ⟨k, hk⟩
    cases ho.symm.trans hk
  · rintro ⟨k, hk⟩
    cases ho.symm.trans hk

theorem RunControl.lawful.writing_eq_none {c : RunControl} (h : c.lawful) (hs : c.state ≠ .stopped) : c.writing = none := by
  cases hw : c.writing with
  | none => rfl
  | some u => exact absurd (h.1 (by rw [hw]; rfl)).1 hs

theorem RunControl.lawful.operation_eq_none {c : RunControl} (h : c.lawful) (hc : c.state ≠ .calibrating)
    (hv : c.state ≠ .verifying) : c.operation = none := by
  cases ho : c.operation with
  | none => rfl
  | some o =>
    cases o with
    | calibration k => exact absurd (h.2.1.mpr ⟨k, ho⟩) hc
    | verification v => exact absurd (h.2.2.1.mpr ⟨v, ho⟩) hv

/-- The state moves between run states without an operation, nothing being written. -/
theorem RunControl.lawful.moveState {c : RunControl} (h : c.lawful) (hw : c.writing = none) (hc : c.state ≠ .calibrating)
    (hv : c.state ≠ .verifying) {st : RunState} (hc' : st ≠ .calibrating) (hv' : st ≠ .verifying) :
    RunControl.lawful { c with state := st } :=
  RunControl.lawful_of_idle hw (h.operation_eq_none hc hv) hc' hv' h.2.2.2

/-- An operation ends: the run state becomes STOPPED with none in flight. -/
theorem RunControl.lawful.endOperation {c : RunControl} (h : c.lawful) (hs : c.state ≠ .stopped) :
    RunControl.lawful { c with operation := none, state := .stopped } :=
  RunControl.lawful_of_idle (h.writing_eq_none hs) rfl (by simp) (by simp) h.2.2.2

theorem RunControl.lawful.beginCal {c : RunControl} (h : c.lawful) (hw : c.writing = none) (k : CalStep) :
    RunControl.lawful { c with operation := some (.calibration k), state := .calibrating } := by
  refine ⟨?_, iff_of_true rfl ⟨k, rfl⟩, iff_of_false (by simp) ?_, h.2.2.2⟩
  · rw [hw]
    exact fun h => nomatch h
  · rintro ⟨v, hv⟩
    cases hv

theorem RunControl.lawful.beginVerify {c : RunControl} (h : c.lawful) (hw : c.writing = none) (v : Verification) :
    RunControl.lawful { c with operation := some (.verification v), state := .verifying } := by
  refine ⟨?_, iff_of_false (by simp) ?_, iff_of_true rfl ⟨v, rfl⟩, h.2.2.2⟩
  · rw [hw]
    exact fun h => nomatch h
  · rintro ⟨k, hk⟩
    cases hk

/-- A further firing of the operation in flight. -/
theorem RunControl.lawful.nextCal {c : RunControl} (h : c.lawful) {k : CalStep} (ho : c.operation = some (.calibration k))
    (k' : CalStep) : RunControl.lawful { c with operation := some (.calibration k') } := by
  have hs := h.2.1.mpr ⟨k, ho⟩
  refine ⟨h.1, iff_of_true hs ⟨k', rfl⟩, iff_of_false (by simp [hs]) ?_, h.2.2.2⟩
  rintro ⟨v, hv⟩
  cases hv

theorem RunControl.lawful.nextVerify {c : RunControl} (h : c.lawful) {v : Verification}
    (ho : c.operation = some (.verification v)) (v' : Verification) :
    RunControl.lawful { c with operation := some (.verification v') } := by
  have hs := h.2.2.1.mpr ⟨v, ho⟩
  refine ⟨h.1, iff_of_false (by simp [hs]) ?_, iff_of_true hs ⟨v', rfl⟩, h.2.2.2⟩
  rintro ⟨k, hk⟩
  cases hk

/-! ### The commands -/

theorem runLawful_dependsOn : dependsOn [.run] (fun s => s.run.lawful) := by
  intro s t hst h
  have ht : t.run = s.run := hst .run (by simp)
  show t.run.lawful
  rw [ht]
  exact h

theorem runLawful_keptByClosing (r : Rail) : KeptByClosing (fun s => s.run.lawful) r where
  query s n := runLawful_dependsOn.kept_of_touches (touches_seen s n) (by simp)
  assembler _ _ h := h
  offer _ _ h := h
  pulse _ _ h := h
  mark _ _ h := h
  suppress _ h := ⟨h.1, h.2.1, h.2.2.1, raiseCounter_le h.2.2.2⟩
  drained _ h := h.of_same rfl rfl rfl rfl rfl

theorem notWriting_iff {s : State} : ¬ s.writing = true ↔ s.run.writing = none := by
  simp [State.writing]

theorem stopped_iff {s : State} : s.stopped = true ↔ s.run.state = .stopped := by
  simp [State.stopped]

theorem runLawful_setRunState {s : State} {st : RunState} (hst : RunControl.lawful { s.run with state := st }) :
    (s.setRunState st).run.lawful := by
  rw [State.setRunState_run]
  exact hst

section
variable {s : State} (h : s.run.lawful)
include h

theorem runLawful_startOperationFiring (r : Rail) (ch : Channel) : (startOperationFiring r ch s).run.lawful :=
  RunControl.lawful.of_same h rfl rfl rfl rfl rfl

theorem runLawful_endOperation (hs : s.run.state ≠ .stopped) (r : Rail) : (endOperation r s).run.lawful := by
  simp only [endOperation, State.setRunState_run, State.setRun_run, State.setFiring_run]
  exact h.endOperation hs

theorem runLawful_railDrained (r : Rail) : (railDrained r s).run.lawful := by
  simp only [railDrained]
  split
  · rename_i hdrain
    have h1 : ∀ a b, RunControl.lawful { s.run with drained := a, drainNotices := b } := fun _ _ =>
      h.of_same rfl rfl rfl rfl rfl
    split
    · refine runLawful_setRunState (RunControl.lawful.moveState (st := .stopped) (h1 _ _) ?_ ?_ ?_ (by decide) (by decide))
      · exact h.writing_eq_none (by simp [hdrain.1])
      · simp [hdrain.1]
      · simp [hdrain.1]
    · exact h1 _ _
  · exact h

theorem runLawful_endCal (hs : s.run.state ≠ .stopped) (c : CalStep) : (endCal c s).run.lawful := by
  have hend : ∀ (t : State) (r : Rail), t.run.lawful → t.run.state ≠ .stopped → (endOperation r t).run.lawful := fun _ r ht hts =>
    runLawful_endOperation ht hts r
  have hpoint : ∀ p, RunControl.lawful { s.run with pendingPoint := p } := fun _ => h.of_same rfl rfl rfl rfl rfl
  unfold endCal
  split
  · split
    · exact hend _ _ h hs
    · dsimp only
      split
      · exact hend _ _ (hpoint _) hs
      · exact hend _ _ (hpoint _) hs
  · split
    · exact hend _ _ (hpoint _) hs
    · exact hend _ _ h hs

theorem runLawful_calFiringCompletion (signal : List Nat) : (calFiringCompletion signal s).run.lawful := by
  unfold calFiringCompletion
  split
  · rename_i c hc
    have hstate : s.run.state ≠ .stopped := by
      rw [h.2.1.mpr ⟨c, hc⟩]
      decide
    split
    · exact h
    · dsimp only
      split
      · simp only [State.setRun_run, State.setFiring_run, State.advanceTo_run]
        exact h.nextCal hc _
      · split
        · exact runLawful_endCal (s := State.setFiring (s.advanceTo _) _ _) h hstate _
        · exact h
  · exact h

theorem runLawful_verifyFiringCompletion : (verifyFiringCompletion s).run.lawful := by
  unfold verifyFiringCompletion
  split
  · rename_i v hv
    have hstate : s.run.state ≠ .stopped := by
      rw [h.2.2.1.mpr ⟨v, hv⟩]
      decide
    split
    · exact h
    · dsimp only
      split
      · simp only [State.setRun_run, State.setFiring_run, State.advanceTo_run]
        exact h.nextVerify hv _
      · split
        · exact runLawful_endOperation (s := State.offer (State.setFiring (s.advanceTo _) _ _) _) h hstate _
        · exact h
  · exact h

theorem runLawful_beginCal (hw : s.run.writing = none) (c : CalStep) : (beginCal c s).run.lawful := by
  refine runLawful_startOperationFiring ?_ _ _
  simp only [setMode, State.setFiring_run, State.setRunState_run, State.setRun_run]
  exact h.beginCal hw c

theorem runLawful_beginVerify (hw : s.run.writing = none) (r : Rail) (e : TestEcho) : (beginVerify r e s).run.lawful := by
  have h1 : ∀ v, (setMode r .verify (some e)
      ((s.setRun { s.run with operation := some (.verification v) }).setRunState .verifying)).run.lawful := by
    intro v
    simp only [setMode, State.setFiring_run, State.setRunState_run, State.setRun_run]
    exact h.beginVerify hw v
  simp only [beginVerify]
  split
  · exact h1 _
  · exact runLawful_startOperationFiring (h1 _) _ _

theorem runLawful_setupSaveComplete (m : Bool) : (setupSaveComplete m s).run.lawful := by
  unfold setupSaveComplete
  split
  · exact h
  · exact ⟨fun hw => (nomatch hw), h.2.1, h.2.2.1, h.2.2.2⟩

end

theorem runLawful_restart {s : State} (hw : s.run.writing = none) : (takeRestart s).run.lawful := by
  have hkeep : TouchesOnly (Part.beside [.run]) (restartRun (restartLine s)) (takeRestart s) := by
    simp [takeRestart, bothRails, restartMarking]
  refine runLawful_dependsOn.kept_beside hkeep ?_
  have hwriting : (abortOperation (restartLine s)).run.writing = none := by
    unfold abortOperation
    split <;> exact hw
  simp only [restartRun, State.setRunState_run, State.setRun_run]
  exact RunControl.lawful_of_idle hwriting rfl (by simp) (by simp) (Nat.zero_le _)

/-- Of the run controller a taken RUN_START changes the run state alone (R159). -/
theorem startRun_run (s : State) : (startRun s).run = { s.run with state := .running } := by
  unfold startRun
  extract_lets s1
  have hrun : s1.run = s.run :=
    (show TouchesOnly (Part.beside [.run]) s s1 by simp [s1, bothRails]) .run (by simp)
  rw [State.setRunState_run, hrun]

theorem checkCal_writing {r : Rail} {ch : Channel} {g : Gate} {second : Bool} {depth : Nat} {f : FlawGate} {s : State}
    (h : checkCal r ch g second depth f s = none) : s.run.writing = none := by
  unfold checkCal at h
  split at h
  · cases h
  · rename_i hw
    exact notWriting_iff.mp hw

theorem runLawful_nextState (c : Instr) (s : State) (h : s.run.lawful) : (nextState c s).run.lawful := by
  have hrequest := @dependsOn.kept_of_request _ _ runLawful_dependsOn (by simp)
  have hpowered : (powerOn s).run.lawful :=
    RunControl.lawful_of_idle rfl rfl (fun h => nomatch h) (fun h => nomatch h) (Nat.zero_le _)
  have hbeside : ∀ {a b : State}, a.run.lawful → TouchesOnly (Part.beside [.run]) a b → b.run.lawful :=
    fun ha hab => runLawful_dependsOn.kept_beside hab ha
  cases c with
  | powerOn => exact hpowered
  | resetInput => exact hpowered
  | indication r => exact (runLawful_keptByClosing r).takeIndication h
  | settleCheck r => exact (runLawful_keptByClosing r).settleCheck h
  | assemblerFlushNotice r => exact (runLawful_keptByClosing r).assemblerFlushNotice h
  | assemblerDrainNotice r => exact (runLawful_keptByClosing r).assemblerDrainNotice h
  | railDrained r => exact runLawful_railDrained h r
  | calFiringStart =>
    show (calFiringStart s).run.lawful
    unfold calFiringStart
    split
    · split
      · exact runLawful_startOperationFiring (s := s.advanceTo _) h _ _
      · exact h
    · exact h
  | calFiringCompletion signal => exact runLawful_calFiringCompletion h signal
  | verifyFiringStart =>
    show (verifyFiringStart s).run.lawful
    unfold verifyFiringStart
    split
    · split
      · exact runLawful_startOperationFiring (s := s.advanceTo _) h _ _
      · exact h
    · exact h
  | verifyFiringCompletion => exact runLawful_verifyFiringCompletion h
  | setupSaveComplete m => exact runLawful_setupSaveComplete h m
  | setChannel q =>
    change (if _ then s else request _ _ s _).run.lawful
    split
    · exact h
    · refine hrequest (fun f s h => ?_) h
      unfold setChannel
      split
      · split
        · exact h
        · simp only [takeChannel]
          split
          · exact RunControl.lawful.of_same h rfl rfl rfl rfl rfl
          · exact h
      · exact h
  | calChannel q =>
    refine hrequest (fun f s h => ?_) h
    unfold calChannel
    dsimp only
    split
    · split
      · split
        · exact h
        · rename_i hcheck
          exact runLawful_beginCal h (checkCal_writing hcheck) _
      · exact h
    · exact h
  | runStart =>
    refine hrequest (fun f s h => ?_) h
    unfold runStart
    split
    · exact h
    · rename_i hs
      split
      · exact h
      · rename_i hw
        split
        · exact h
        · have hstate : s.run.state = .stopped := by simpa [stopped_iff] using hs
          rw [State.reply_run, startRun_run]
          exact h.moveState (notWriting_iff.mp hw) (by simp [hstate]) (by simp [hstate]) (by decide) (by decide)
  | runStop =>
    refine hrequest (fun f s h => ?_) h
    unfold runStop
    split
    · rename_i hs
      have h1 : ((s.setRun { s.run with drained := ⟨false, false⟩ }).setRunState .draining).run.lawful := by
        rw [State.setRunState_run]
        exact RunControl.lawful.moveState (c := { s.run with drained := ⟨false, false⟩ }) (h.of_same rfl rfl rfl rfl rfl)
          (h.writing_eq_none (by simp [hs])) (by simp [hs]) (by simp [hs]) (by decide) (by decide)
      exact hbeside h1 (by simp [stopRun, bothRails, drainFiring])
    · exact h
  | restart =>
    refine hrequest (fun f s h => ?_) h
    unfold restart
    split
    · exact h
    · rename_i hw
      exact hbeside (runLawful_restart (notWriting_iff.mp hw)) (by simp)
  | verify q =>
    refine hrequest (fun f s h => ?_) h
    unfold verify
    split
    · exact h
    · split
      · exact h
      · rename_i hw
        split
        · exact h
        · split
          · exact h
          · exact runLawful_beginVerify h (notWriting_iff.mp hw) _ _
  | setupSave =>
    refine hrequest (fun f s h => ?_) h
    unfold setupSave
    split
    · exact h
    · rename_i hs
      split
      · exact h
      · have hstate : s.run.state = .stopped := by simpa [stopped_iff] using hs
        exact ⟨fun _ => ⟨hstate, rfl⟩, h.2.1, h.2.2.1, h.2.2.2⟩
  | setupReload =>
    refine hrequest (fun f s h => ?_) h
    unfold setupReload
    split
    · exact h
    · split
      · exact h
      · split
        · exact h
        · rename_i image _
          have hrun : (applyReporting image.reporting (applySignals image.signals (takeImageRecords image
              (applyTravel image.travel s)))).run.lawful := hbeside h (by simp)
          exact RunControl.lawful.of_same hrun rfl rfl rfl rfl rfl
  | _ => exact runLawful_dependsOn.kept_of_command (by simp [commandParts]) h

theorem runLawful_keptByEveryStep : keptByEveryStep (fun s => s.run.lawful) :=
  keptByEveryStep_of_commands runLawful_dependsOn (by simp) (by simp) runLawful_nextState

/-- Settles O56: the travel unit on lawful settings, and the run controller. -/
theorem travelAndTheRunStateStayLawful : Obligations.TravelAndTheRunStateStayLawful :=
  ⟨travelLawful_keptByEveryStep, runLawful_keptByEveryStep⟩

end Sys2Proof.Machine
end

section
/-! PROOFS. The unit at power-on (O5, O6, O60) and the sign of a count (O7). -/

namespace Sys2Proof.Machine

/-! ### The blocks of a powered unit -/

section
variable (image : Option Setup) (now : Nat) (pending : List Instr) (between : List (List LandmarkStep)) (r : Rail)

theorem powered_firing : (State.powered image now pending between).firing.get r = .powerOn := by
  cases r <;> rfl

theorem powered_echo :
    (State.powered image now pending between).echo.get r = .powerOn ((image.getD Setup.defaults).plans.get r) := by
  cases r <;> rfl

theorem powered_tracker : (State.powered image now pending between).tracker.get r = .powerOn := by
  cases r <;> rfl

theorem powered_assembler : (State.powered image now pending between).assembler.get r = .powerOn := by
  cases r <;> rfl

theorem powered_marking : (State.powered image now pending between).marking.get r =
    .powerOn ((image.getD Setup.defaults).rails.get r).gunOffset := by
  cases r <;> rfl

theorem powered_coupling (ch : Channel) :
    ((State.powered image now pending between).router.view.coupling.get r)[ch] =
      if (State.powered image now pending between).inPlan r ch then .unknown else .inactive := by
  cases r <;> simp [State.powered, Router.powerOn, Plan.couplingStates, Cover.fresh, State.inPlan, Rails.get] <;> rfl

theorem powered_cover (ch : Channel) : ((State.powered image now pending between).echo.get r).cover[ch] =
    .fresh ((State.powered image now pending between).inPlan r ch) := by
  cases r <;> simp [State.powered, EchoProcessor.powerOn, State.inPlan, Rails.get]

end

/-- No channel is in plan after reset (R172). -/
theorem reset_inPlan (r : Rail) (ch : Channel) : State.reset.inPlan r ch = false := by
  cases r <;> rfl

/-! ### O7: the sign of a count -/

/-- Settles O7: the sign is a table of the edges, and no count is taken without one. -/
theorem theSignOfACount : Obligations.TheSignOfACount :=
  ⟨rfl, rfl, rfl, rfl, rfl, rfl, rfl, rfl, fun _ => rfl, fun s => by
    have hsign : countSign s.setup.travel.sense .bothTogether = none := by
      cases s.setup.travel.sense <;> rfl
    have hexec : exec (.encoderCount .bothTogether) s = .next (encoderCount .bothTogether s) := rfl
    rw [hexec, encoderCount, hsign]⟩

/-! ### O5 and O6: power-on -/

/-- Settles O6: POWER_ON and RESET_INPUT both make the powered unit of the store's image. -/
theorem powerOnLoadsTheSetupAndClearsEveryBlock : Obligations.PowerOnLoadsTheSetupAndClearsEveryBlock := by
  intro s
  refine ⟨State.powered s.run.image s.now s.pending s.between, rfl, rfl, rfl, rfl, rfl, rfl, rfl, fun r => ?_, rfl, rfl, rfl, rfl,
    rfl, fun l => ?_, rfl, rfl, rfl, rfl⟩
  · exact ⟨powered_firing _ _ _ _ r, powered_echo _ _ _ _ r, powered_tracker _ _ _ _ r, powered_assembler _ _ _ _ r,
      powered_marking _ _ _ _ r, powered_coupling _ _ _ _ r⟩
  · simp [State.powered, Router.powerOn]

/-- Settles O5: the unit after reset is the powered unit of an empty store, at its defaults. -/
theorem resetHoldsThePowerOnValues : Obligations.ResetHoldsThePowerOnValues := by
  refine ⟨rfl, rfl, rfl, rfl, rfl, fun r => by cases r <;> rfl, fun r ch => ?_, fun r => by cases r <;> rfl, fun i => ?_,
    fun l => ?_, rfl, rfl, rfl, fun r => ⟨powered_firing _ _ _ _ r, fun ch => ?_, ?_, ?_, fun i => ?_, ?_, ?_, ?_, fun i => ?_, ?_, ?_, ?_⟩,
    rfl, fun r ch => ?_, rfl, rfl, rfl, rfl, fun l => ?_, rfl, rfl, rfl, rfl⟩
  case refine_1 =>
    have hrecord : State.reset.channel r ch = ChannelRecord.defaults ch := by
      cases r <;> simp [State.reset, State.powered, State.channel, Setup.defaults, Rails.get]
    rw [hrecord]
    exact ⟨defaults_record_lawful ch, ch.defaultLane, rfl, rfl⟩
  case refine_2 => simp [State.reset, State.powered, Setup.defaults]
  case refine_3 => simp [State.reset, State.powered, Setup.defaults, SignalSettings.defaults, Route.defaults]
  case refine_4 =>
    rw [State.reset, powered_cover, ← State.reset, reset_inPlan]; rfl
  case refine_7 => cases r <;> simp [State.reset, powered_tracker, Tracker.powerOn]
  case refine_11 => cases r <;> simp [State.reset, powered_assembler, Assembler.powerOn]
  case refine_15 =>
    rw [State.reset, powered_coupling, ← State.reset, reset_inPlan]; rfl
  case refine_16 => simp [State.reset, State.powered, Router.powerOn]
  all_goals cases r <;> rfl

/-! ### O60: the laws after reset -/

theorem reset_settingsLawful : State.reset.settingsLawful :=
  ⟨defaults_lawful, (fun _ h => nomatch h), (fun _ h => nomatch h), fun r _ h => by cases r <;> cases h⟩

theorem reset_travelLawful : State.reset.travelLawful := by
  refine ⟨reset_settingsLawful, ?_, fun r => by cases r <;> rfl⟩
  refine ⟨?_, ?_, ?_, ?_, ?_, ?_, ?_, ?_, ?_, ?_, ?_, fun _ => rfl, fun m h => nomatch h⟩ <;> decide

theorem reset_lineLawful : State.reset.line.lawful := by
  refine ⟨trivial, Nat.zero_le _, fun _ h => (nomatch h), Nat.zero_le _, Nat.zero_le _, ⟨rfl, rfl, rfl⟩, Nat.zero_le _,
    Nat.zero_le _, Nat.zero_le _, Nat.zero_le _, ?_⟩
  decide

theorem reset_reflectorsLawful : State.reset.reflectorsLawful := by
  intro r
  rw [State.reset, powered_tracker, powered_assembler]
  refine ⟨fun i x h => ?_, Nat.zero_le _, Nat.zero_le _, fun i f h => ?_, Nat.zero_le _, fun c h => (nomatch h)⟩
  · simp [Tracker.powerOn] at h
  · simp [Assembler.powerOn] at h

theorem fresh_lawful (b : Bool) : (Cover.fresh b).lawful := by
  simp [Cover.lawful, Cover.fresh]

/-- In STOPPED nothing of a run is left on the data path after reset. -/
theorem reset_drainLawful (r : Rail) : State.reset.drainLawful r := by
  change State.reset.drainsAt r .drained
  unfold State.drainsAt
  rw [State.reset, powered_firing, powered_echo, powered_tracker, powered_assembler]
  refine ⟨rfl, ⟨fun _ => nofun, fun _ => rfl⟩, rfl, ⟨rfl, fun i => ?_⟩, ⟨rfl, fun i => ?_⟩, by cases r <;> rfl, fun h => nomatch h⟩
  · simp [Tracker.powerOn]
  · simp [Assembler.powerOn]

/-- Settles O60: the laws of the blocks hold of the defaults and of the power-on values. -/
theorem resetMeetsTheLaws : Obligations.ResetMeetsTheLaws := by
  have hrun : State.reset.run.lawful := by
    refine ⟨fun h => (nomatch h), ⟨fun h => (nomatch h), ?_⟩, ⟨fun h => (nomatch h), ?_⟩, Nat.zero_le _⟩
    · rintro ⟨k, hk⟩; cases hk
    · rintro ⟨k, hk⟩; cases hk
  have hlandmarks : State.reset.landmarks.lawful :=
    ⟨Nat.zero_le _, .nil, .nil, by decide, fun e h => nomatch h⟩
  refine ⟨reset_settingsLawful, reset_travelLawful, hrun, ⟨reset_settingsLawful, reset_lineLawful⟩,
    ⟨reset_settingsLawful, hlandmarks, fun p h => (nomatch h), fun p h => (nomatch h)⟩, fun r => ?_, hlandmarks,
    reset_reflectorsLawful, fun r ch => ?_, hrun, reset_reflectorsLawful, reset_drainLawful, fun r i j f g _ hf _ => ?_⟩
  case refine_1 =>
    rw [State.reset, powered_marking]
    exact ⟨Nat.zero_le _, .nil, fun k h => (nomatch h)⟩
  case refine_2 =>
    rw [State.reset, powered_cover]
    exact fresh_lawful _
  case refine_3 =>
    rw [State.reset, powered_assembler] at hf
    simp [Assembler.powerOn] at hf

end Sys2Proof.Machine
end

section
/-! PROOFS. The whole state after a change that is handed on, and after a request has been taken: each as the statements write it. -/

namespace Sys2Proof.Machine

/-! ### Changes that are handed on -/

theorem changeItems_eq_onChange {α : Type} [DecidableEq α] (a b : α) (c : Change) (m : Bool) (h : m = true ↔ a ≠ b) :
    changeItems m c = onChange a b (.change c) := by
  by_cases hab : a = b <;> cases m <;> simp_all [changeItems, onChange]

theorem onChange_self {α β : Type} [DecidableEq α] (a : α) (x : β) : onChange a a x = [] := if_pos rfl

theorem onChange_ne {α β : Type} [DecidableEq α] {a b : α} (h : a ≠ b) (x : β) : onChange a b x = [x] := if_neg h

@[simp] theorem hear_nil (l : Line) : l.hear [] = l := by simp [Line.hear]

@[simp] theorem hear_hear (l : Line) (xs ys : List LineItem) : (l.hear xs).hear ys = l.hear (xs ++ ys) := by
  simp [Line.hear]

@[simp] theorem Router.hear_nil (x : Router) : x.hear [] = x := by simp [Router.hear]

@[simp] theorem Router.hear_hear (x : Router) (xs ys : List LevelHandover) : (x.hear xs).hear ys = x.hear (xs ++ ys) := by
  simp [Router.hear]

theorem setMotion_eq (s : State) (m : Motion) : s.setMotion m =
    { s with
      travel := { s.travel with motion := m }
      marking := s.markingAt m
      line := s.line.hear (onChange s.travel.motion m (.change .motion)) } := by
  unfold State.setMotion State.markingAt
  by_cases h : s.travel.motion = m
  · simp only [if_pos h, onChange, hear_nil]; rfl
  · simp only [if_neg h, onChange]; rfl

theorem setRunState_eq (s : State) (st : RunState) : s.setRunState st =
    { s with
      run := { s.run with state := st }
      line := s.line.hear (onChange s.run.state st (.change .runState))
      router := s.router.hear (onChange s.run.state st (.runState st)) } := by
  unfold State.setRunState
  by_cases h : s.run.state = st
  · simp only [if_pos h, onChange, hear_nil, Router.hear_nil]; rfl
  · simp only [if_neg h, onChange]; rfl

theorem setCover_eq (s : State) (r : Rail) (ch : Channel) (c : Cover) : s.setCover r ch c =
    { s with
      echo := s.echo.set r { s.echo.get r with cover := setAt (s.echo.get r).cover ch c }
      line := s.line.hear (onChange (s.echo.get r).cover[ch].coupling c.coupling (.change (.coupling r ch)))
      router := s.router.hear (onChange (s.echo.get r).cover[ch].coupling c.coupling (.coupling r ch c.coupling)) } := by
  unfold State.setCover
  by_cases h : (s.echo.get r).cover[ch].coupling = c.coupling
  · simp only [if_pos h, onChange, hear_nil, Router.hear_nil]; rfl
  · simp only [if_neg h, onChange]; rfl

theorem setSilence_eq (s : State) (b : Bool) : s.setSilence b =
    { s with
      line := { s.line.hear (onChange s.line.silence b (.change .silence)) with silence := b }
      router := s.router.hear (onChange s.line.silence b (.silence b)) } := by
  unfold State.setSilence
  by_cases h : s.line.silence = b
  · simp only [if_pos h, onChange, hear_nil, Router.hear_nil]; rfl
  · simp only [if_neg h, onChange]; rfl

theorem setSpray_eq (s : State) (r : Rail) (t : Option Nat) : s.setSpray r t =
    { s with
      marking := s.marking.set r { s.marking.get r with sprayEnd := t }
      router := s.router.hear (onChange (s.marking.get r).isSpraying t.isSome (.gun r t.isSome)) } := by
  unfold State.setSpray
  by_cases h : (s.marking.get r).isSpraying = t.isSome
  · simp only [if_pos h, onChange, Router.hear_nil]; rfl
  · simp only [if_neg h, onChange]; rfl

/-! ### A request taken -/

/-- The unit once the request at the head has left the input buffer. -/
def State.taken (s : State) (rest : List Frame) : State := s.setLine { s.line with input := rest }

section
variable (s : State) (rest : List Frame)

@[simp] theorem taken_now : (s.taken rest).now = s.now := rfl
@[simp] theorem taken_setup : (s.taken rest).setup = s.setup := rfl
@[simp] theorem taken_travel : (s.taken rest).travel = s.travel := rfl
@[simp] theorem taken_firing : (s.taken rest).firing = s.firing := rfl
@[simp] theorem taken_echo : (s.taken rest).echo = s.echo := rfl
@[simp] theorem taken_tracker : (s.taken rest).tracker = s.tracker := rfl
@[simp] theorem taken_assembler : (s.taken rest).assembler = s.assembler := rfl
@[simp] theorem taken_landmarks : (s.taken rest).landmarks = s.landmarks := rfl
@[simp] theorem taken_marking : (s.taken rest).marking = s.marking := rfl
@[simp] theorem taken_router : (s.taken rest).router = s.router := rfl
@[simp] theorem taken_run : (s.taken rest).run = s.run := rfl
@[simp] theorem taken_writing : (s.taken rest).writing = s.writing := rfl
@[simp] theorem taken_stopped : (s.taken rest).stopped = s.stopped := rfl
@[simp] theorem taken_channel (r : Rail) (ch : Channel) : (s.taken rest).channel r ch = s.channel r ch := rfl
@[simp] theorem taken_inPlan (r : Rail) (ch : Channel) : (s.taken rest).inPlan r ch = s.inPlan r ch := rfl

@[simp] theorem reply_taken (f : Frame) (code : ReplyCode) (index : Nat) (payload : ReplyPayload) :
    (s.taken rest).reply f code index payload = answered s f rest code index payload := rfl

end

theorem request_taken {k : RequestKind} {n : Nat} {s : State} {f : Frame} {rest : List Frame} (h : requestWaits s k n f rest)
    (act : Frame → State → State) : request k n s act = act f (s.taken rest) :=
  request_waits h act

/-! ### What a request asks of the run state and the store -/

theorem writing_of_none {s : State} (h : s.run.writing = none) : s.writing = false := by simp [State.writing, h]

theorem writing_of_ne {s : State} (h : s.run.writing ≠ none) : s.writing = true := by
  simpa [State.writing, Option.isSome_iff_ne_none] using h

theorem stopped_of_eq {s : State} (h : s.run.state = .stopped) : s.stopped = true := stopped_iff.mpr h

theorem stopped_of_ne {s : State} (h : s.run.state ≠ .stopped) : s.stopped = false :=
  Bool.eq_false_iff.mpr fun k => h (stopped_iff.mp k)

/-! ### OK or CLAMPED -/

theorem within_iff {lo hi v : Int} : within lo hi v = true ↔ lo ≤ v ∧ v ≤ hi := by simp [within]

theorem doneCode_eq {b : Bool} {P : Prop} [Decidable P] (h : b = true ↔ P) : doneCode b = if P then .ok else .clamped := by
  cases b <;> simp_all [doneCode]

end Sys2Proof.Machine
end

section
/-! PROOFS. The travel unit: counts (O8), its times (O9), SET_TRAVEL (O10), SET_POSITION (O11), odometer calibration (O12). -/

namespace Sys2Proof.Machine

/-! ### O8: a count -/

theorem pitchBoundaries_le {car b : Int} {pitch : Nat} (hp : 1 ≤ pitch) :
    ∀ x ∈ pitchBoundaries b pitch (boundariesReached car b pitch), x ≤ car := by
  intro x hx
  obtain ⟨k, hk, rfl⟩ := List.mem_map.mp hx
  have hk : k < boundariesReached car b pitch := List.mem_range.mp hk
  unfold boundariesReached at hk
  split at hk
  · omega
  · have hkq : (k : Int) ≤ (car - b) / pitch := by omega
    have hmul : (k : Int) * pitch ≤ car - b := (Int.le_ediv_iff_mul_le (by omega)).mp hkq
    push_cast
    omega

theorem lt_boundary_after {car b : Int} {pitch : Nat} (hp : 1 ≤ pitch) :
    car < b + ((boundariesReached car b pitch * pitch : Nat) : Int) := by
  unfold boundariesReached
  split
  · omega
  · have hq : 0 ≤ (car - b) / pitch := Int.ediv_nonneg (by omega) (by omega)
    have hlt := Int.lt_ediv_add_one_mul_self (car - b) (b := pitch) (by omega)
    have hn : (((car - b) / pitch + 1).toNat : Int) = (car - b) / pitch + 1 := by omega
    push_cast
    rw [hn]
    omega

theorem markingAt_moves_left (s : State) (m : Motion) : (s.markingAt m).left.moves = s.marking.left.moves := by
  unfold State.markingAt; split <;> rfl

theorem markingAt_moves_right (s : State) (m : Motion) : (s.markingAt m).right.moves = s.marking.right.moves := by
  unfold State.markingAt; split <;> rfl

theorem handMoves_eq (s : State) (a b : Int) (m : Move) :
    (if b = a then s else (s.handMove .left m).handMove .right m) =
      { s with
        marking :=
          ⟨{ s.marking.left with moves := s.marking.left.moves ++ onChange a b m },
            { s.marking.right with moves := s.marking.right.moves ++ onChange a b m }⟩ } := by
  by_cases h : a = b
  · simp [h, onChange]
  · rw [if_neg (Ne.symm h), onChange_ne h]; rfl

theorem handFrontier_eq (s : State) (a b : Int) :
    (if a < b then s.handFrontier b else s) =
      { s with
        landmarks := { s.landmarks with frontiers := s.landmarks.frontiers ++ if a < b then [b] else [] } } := by
  split
  · rfl
  · simp

theorem handPitches_eq (s : State) (bs : List Int) :
    (if bs = [] then s else (s.handPitch .left bs).handPitch .right bs) =
      { s with
        firing :=
          ⟨{ s.firing.left with pitchEvents := s.firing.left.pitchEvents ++ bs },
            { s.firing.right with pitchEvents := s.firing.right.pitchEvents ++ bs }⟩ } := by
  split
  · next h => simp [h]
  · rfl

theorem takeCount_eq (s : State) (sign : Int) (t : Travel) (events : List Int)
    (ht : t = s.travel.count s.setup.travel s.now sign)
    (he : events = pitchBoundaries s.travel.boundary s.setup.travel.pitch
      (boundariesReached t.carPosition s.travel.boundary s.setup.travel.pitch)) :
    takeCount sign s =
      { s with
        travel := { t with motion := motionOf sign }
        marking :=
          ⟨{ (s.markingAt (motionOf sign)).left with
              moves := s.marking.left.moves ++ onChange s.travel.carPosition t.carPosition ⟨t.carPosition, motionOf sign⟩ },
            { (s.markingAt (motionOf sign)).right with
              moves := s.marking.right.moves ++ onChange s.travel.carPosition t.carPosition ⟨t.carPosition, motionOf sign⟩ }⟩
        firing :=
          ⟨{ s.firing.left with pitchEvents := s.firing.left.pitchEvents ++ events },
            { s.firing.right with pitchEvents := s.firing.right.pitchEvents ++ events }⟩
        landmarks :=
          { s.landmarks with
            frontiers := s.landmarks.frontiers ++ if s.travel.frontier < t.frontier then [t.frontier] else [] }
        line := s.line.hear (onChange s.travel.motion (motionOf sign) (.change .motion)) } := by
  subst ht he
  unfold takeCount
  simp only [handMoves_eq, handFrontier_eq, handPitches_eq, setMotion_eq, markingAt_moves_left, markingAt_moves_right]
  rfl

/-- Settles O8: the boundaries handed over are those the new car position has reached. -/
theorem aCountMovesTheTravelUnit : Obligations.ACountMovesTheTravelUnit := by
  intro e s sign hsign hpitch
  have hexec : exec (.encoderCount e) s = .next (takeCount sign s) := by
    show Host.Outcome.next (encoderCount e s) = _
    rw [encoderCount, hsign]
  let t := s.travel.count s.setup.travel s.now sign
  let n := boundariesReached t.carPosition s.travel.boundary s.setup.travel.pitch
  refine ⟨n, t.accumulator, t.carPosition, motionOf sign, pitchBoundaries s.travel.boundary s.setup.travel.pitch n, rfl, rfl, rfl,
    rfl, pitchBoundaries_le hpitch, lt_boundary_after hpitch, ?_⟩
  have hfrontier : (if s.travel.frontier < t.frontier then [t.frontier] else []) =
      if s.travel.frontier < t.carPosition then [t.carPosition] else [] := by
    have hmax : t.frontier = max s.travel.frontier t.carPosition := rfl
    by_cases h : s.travel.frontier < t.carPosition
    · rw [hmax, max_eq_right (le_of_lt h)]
    · rw [hmax, max_eq_left (not_lt.mp h), if_neg (lt_irrefl _), if_neg h]
  rw [hexec, takeCount_eq s sign t _ rfl rfl, hfrontier]
  rfl

/-! ### O9: the times of the travel unit -/

/-- Settles O9: STANDSTILL is a change of motion, and the speed of a window is its distance rounded. -/
theorem theTimesOfTheTravelUnit : Obligations.TheTimesOfTheTravelUnit := by
  refine ⟨fun s => ⟨fun m hm hmotion => ?_, fun h => ?_⟩, fun s => ?_⟩
  case refine_1 =>
    have hexec : exec .standstillExpiry s =
        .next ((s.advanceTo (m + s.setup.travel.standstill * Config.ticksPerMs)).setMotion .standstill) := by
      show Host.Outcome.next (standstillExpiry s) = _
      simp only [standstillExpiry, hm, if_neg hmotion]
    have hmarking : s.markingAt .standstill =
        ⟨{ s.marking.left with motion := .standstill }, { s.marking.right with motion := .standstill }⟩ := if_neg hmotion
    rw [hexec, setMotion_eq, ← hmarking, ← onChange_ne hmotion]
    rfl
  case refine_2 =>
    show Host.Outcome.next (standstillExpiry s) = _
    unfold standstillExpiry
    split
    · rfl
    · next hm => simp [hm] at h; simp [h]
  case refine_3 =>
    refine ⟨_, ((s.travel.carPosition - s.travel.speedReference).natAbs * 36 + 500) / 1000, rfl, ?_, ?_, rfl⟩ <;> omega

/-! ### O10: SET_TRAVEL -/

theorem travelFields_fits_iff (q : TravelFields) : q.fits = true ↔
    1 ≤ q.scale ∧ q.scale ≤ 16777215 ∧ 10 ≤ q.pitch ∧ q.pitch ≤ 200 ∧ 50 ≤ q.standstill ∧ q.standstill ≤ 5000 := by
  simp [TravelFields.fits, within_iff, and_assoc]

theorem exec_setTravel {s : State} {f : Frame} {rest : List Frame} (h : requestWaits s .setTravel 11 f rest) (q : TravelFields) :
    exec (.setTravel q) s = .next (setTravel q f (s.taken rest)) :=
  congrArg Host.Outcome.next (request_taken h _)

theorem applyTravel_eq (s : State) (new : TravelSettings) (m : Motion)
    (hm : m = if s.travel.lastCount.any (fun k => decide (new.standstill * 100000 < s.now - k)) then .standstill
      else s.travel.motion) :
    applyTravel new s = (s.setSetup { s.setup with travel := new }).setMotion m := by
  have hstay : (s.setSetup { s.setup with travel := new }).setMotion s.travel.motion =
      s.setSetup { s.setup with travel := new } := by
    rw [setMotion_eq, State.markingAt]; simp [onChange, State.setSetup]
  unfold applyTravel
  simp only [State.setSetup_travel, State.setSetup_now, Config.ticksPerMs]
  cases hlast : s.travel.lastCount with
  | none => simp [hm, hlast, hstay]
  | some k =>
    by_cases h : new.standstill * 100000 < s.now - k <;> simp [hm, hlast, h, hstay]

/-- Settles O10: the checks of SET_TRAVEL in their order, and what it does where all pass. -/
theorem setTravelIsTakenOrRefused : Obligations.SetTravelIsTakenOrRefused := by
  refine ⟨fun s q f rest sense new m hw hsense hstore hnew hrun hm => ?_, fun s q f rest hw => ⟨fun h => ?_, fun h hb => ?_,
    fun h hstore hrun hdiff => ?_⟩, rfl, rfl, fun n hn => ?_⟩
  case refine_1 =>
    have hclamp : q.clamp sense = new := hnew.symm
    have hpass : (!s.stopped && !(new.sense == s.setup.travel.sense && new.pitch == s.setup.travel.pitch)) = false := by
      rcases hrun with h | ⟨h1, h2⟩
      · simp [stopped_of_eq h]
      · simp [h1, h2]
    rw [exec_setTravel hw]
    unfold setTravel
    simp only [hsense, hclamp, taken_writing, taken_stopped, taken_setup, writing_of_none hstore, hpass, Bool.false_eq_true, if_false]
    rw [applyTravel_eq (s.taken rest) new m hm, setMotion_eq, doneCode_eq (travelFields_fits_iff q)]
    rfl
  case refine_2 =>
    rw [answersOnly, exec_setTravel hw, setTravel, h]
    rfl
  case refine_3 =>
    obtain ⟨sense, hs⟩ := Option.ne_none_iff_exists'.mp h
    rw [answersOnly, exec_setTravel hw, setTravel, hs]
    simp [writing_of_ne hb]
  case refine_4 =>
    obtain ⟨sense, hs⟩ := Option.ne_none_iff_exists'.mp h
    have hchanged : ((q.clamp sense).sense == s.setup.travel.sense && (q.clamp sense).pitch == s.setup.travel.pitch) = false := by
      rw [hs] at hdiff
      rcases hdiff with h | h
      · have hsense : (q.clamp sense).sense ≠ s.setup.travel.sense := fun e => h (congrArg some e)
        simp [hsense]
      · have : (q.clamp sense).pitch ≠ s.setup.travel.pitch := h
        simp [this]
    rw [answersOnly, exec_setTravel hw, setTravel, hs]
    simp [writing_of_none hstore, stopped_of_ne hrun, hchanged]
  case refine_5 =>
    match n, hn with
    | n + 2, _ => rfl

/-! ### O11: SET_POSITION -/

/-- The mark at place `x.2` of a queue counted from `k` leaves as many marks behind it as the statement counts. -/
theorem discardRecords_zipIdx (r : Rail) (q : List Mark) (k : Nat) :
    (discardRecords r q).map LineItem.offer = (q.zipIdx k).map (fun x =>
      .offer (.mark ⟨r, .discarded, x.1.finding, x.1.target, none, x.1.merged, none, q.length + k - 1 - x.2⟩)) := by
  induction q generalizing k with
  | nil => rfl
  | cons m rest ih =>
    have hhead : rest.length + (k + 1) - 1 - k = rest.length := by omega
    have htail : rest.length + 1 + k = rest.length + (k + 1) := by omega
    simp only [discardRecords, List.map_cons, List.zipIdx_cons, List.length_cons, ih (k + 1), htail, hhead]

theorem discardMarks_eq (r : Rail) (s : State) : discardMarks r s =
    { s with
      marking := s.marking.set r { s.marking.get r with queue := [] }
      line := s.line.hear (discardedItems r (s.marking.get r).queue) } := by
  unfold discardMarks
  rw [foldl_offer, discardRecords_zipIdx r _ 0]
  rfl

/-- Retirement checks in a row keep the entries that each of them keeps (R119). -/
theorem foldl_retire (fs : List Int) (l : LandmarkList) : fs.foldl LandmarkList.retire l =
    { l with entries := l.entries.filter (fun e => fs.all (fun x => decide (x ≤ e.start + e.length + l.retention))) } := by
  induction fs generalizing l with
  | nil => simp
  | cons f fs ih =>
    have hkeep : ∀ e : Landmark, (!e.retires l.retention f) = decide (f ≤ e.start + e.length + l.retention) := fun e => by
      rw [Landmark.retires, Landmark.finish, Bool.eq_iff_iff]; simp
    rw [List.foldl_cons, ih]
    simp only [LandmarkList.retire, List.filter_filter, List.all_cons, hkeep, Bool.and_comm]

theorem takePosition_eq (p : Int) (s : State) : takePosition p s =
    { s with
      travel :=
        { s.travel with
          accumulator := p * 65536, frontier := p, boundary := p + s.setup.travel.pitch, speedReference := p }
      firing := ⟨{ s.firing.left with pitchEvents := [] }, { s.firing.right with pitchEvents := [] }⟩
      marking :=
        ⟨{ s.marking.left with queue := [], gun := p - s.setup.rails.left.gunOffset, moves := [] },
          { s.marking.right with queue := [], gun := p - s.setup.rails.right.gunOffset, moves := [] }⟩
      landmarks :=
        { s.landmarks with
          entries := s.landmarks.entries.filter (fun e =>
            (s.landmarks.frontiers ++ [p]).all (fun x => decide (x ≤ e.start + e.length + s.landmarks.retention)))
          frontiers := [] }
      line := s.line.hear (discardedItems .left s.marking.left.queue ++ discardedItems .right s.marking.right.queue) } := by
  have hretire : (s.landmarks.frontiers.foldl LandmarkList.retire s.landmarks).retire p =
      { s.landmarks with
        entries := s.landmarks.entries.filter (fun e =>
          (s.landmarks.frontiers ++ [p]).all (fun x => decide (x ≤ e.start + e.length + s.landmarks.retention))) } := by
    rw [← foldl_retire, List.foldl_append]; rfl
  rw [← hear_hear]
  unfold takePosition
  simp only [bothRails, List.foldl_cons, List.foldl_nil, discardMarks_eq]
  change State.setLandmarks _ { (s.landmarks.frontiers.foldl LandmarkList.retire s.landmarks).retire p with frontiers := [] } = _
  rw [hretire]
  rfl

/-- Settles O11: SET_POSITION sets the frame in STOPPED alone. -/
theorem setPositionSetsTheFrame : Obligations.SetPositionSetsTheFrame := by
  intro s p f rest hw
  have hexec : exec (.setPosition p) s = .next (setPosition p f (s.taken rest)) :=
    congrArg Host.Outcome.next (request_taken hw _)
  refine ⟨fun h => ?_, fun h => ?_⟩
  · rw [hexec, setPosition, taken_stopped, stopped_of_eq h, if_pos rfl, takePosition_eq]
    rfl
  · rw [answersOnly, hexec, setPosition, taken_stopped, stopped_of_ne h]
    rfl

/-! ### O12: odometer calibration -/

/-- A quotient rounded with a half away from zero lies between its two bounds, and nothing else does. -/
theorem roundDiv_eq {a b : Nat} {q : Nat} (hb : 0 < b) (h1 : 2 * b * q ≤ 2 * a + b) (h2 : 2 * a + b < 2 * b * (q + 1)) :
    roundDiv a b = q := by
  have hq : (2 * a + b) / (2 * b) = q :=
    Nat.div_eq_of_lt_le (by rw [Nat.mul_comm q]; exact h1) (by rw [Nat.mul_comm (q + 1)]; exact h2)
  have habs : (a : Int).natAbs = a := rfl
  unfold roundDiv
  rw [habs, hq]
  rcases Nat.eq_zero_or_pos a with rfl | ha
  · have : q = 0 := by rw [← hq]; exact Nat.div_eq_of_lt (by omega)
    simp [this]
  · rw [Int.sign_eq_one_of_pos (by omega), one_mul]

theorem exec_odoCalEnd {s : State} {f : Frame} {rest : List Frame} (h : requestWaits s .odoCalEnd 4 f rest) (d : Int) :
    exec (.odoCalEnd d) s = .next (odoCalEnd d f (s.taken rest)) :=
  congrArg Host.Outcome.next (request_taken h _)

/-- Settles O12: the conditions of ODO_CAL_END in order, and the scale as the rounded quotient. -/
theorem theOdometerCalibration : Obligations.TheOdometerCalibration := by
  refine ⟨fun s f rest hw => ?_, fun s d f rest n dist hw hn hdist => ⟨fun ho => ?_, fun ho hb => ?_, fun ho hstore hn' => ?_,
    fun scale ho hstore hn' h1 h2 => ?_⟩⟩
  case refine_1 =>
    have hexec : exec .odoCalBegin s = .next (odoCalBegin f (s.taken rest)) :=
      congrArg Host.Outcome.next (request_taken hw _)
    rw [hexec]; rfl
  all_goals
    have hdist' : clampNat 10000 100000000 d = dist := hdist.symm
    simp only [answersOnly, exec_odoCalEnd hw, odoCalEnd, taken_travel, taken_writing, taken_setup, ← hn, hdist', ho]
  case refine_2 => rfl
  case refine_3 => simp [writing_of_ne hb]
  case refine_4 => simp [writing_of_none hstore, hn']
  case refine_5 =>
    have hround : roundDiv ((dist : Int) * 65536) n = scale := by
      have := roundDiv_eq (a := dist * 65536) (by omega) h1 h2
      push_cast at this
      exact this
    have hshort : ¬ n < 1000 := by omega
    simp only [writing_of_none hstore, hround, Int.toNat_natCast, if_neg hshort, doneCode_eq within_iff, Bool.not_true,
      Bool.false_eq_true, if_false]
    by_cases hscale : 1 ≤ scale ∧ scale ≤ 16777215
    · rw [if_pos hscale, if_neg (by omega)]; rfl
    · rw [if_neg hscale, if_pos (by omega)]; rfl

end Sys2Proof.Machine
end

section
/-! PROOFS. The firing units: a pitch event binds its group (O13), a group completes (O14). -/

namespace Sys2Proof.Machine

/-! ### Starting a group -/

theorem isLongest_cons {l n : Nat} {ls : List Nat} (h : isLongest ls n) : isLongest (l :: ls) (max l n) := by
  obtain ⟨hle, hmem⟩ := h
  refine ⟨fun x hx => ?_, .inl ?_⟩
  · rcases List.mem_cons.mp hx with rfl | hx
    · exact le_max_left _ _
    · exact (hle x hx).trans (le_max_right _ _)
  · rcases hmem with hmem | ⟨rfl, rfl⟩
    · rcases le_total l n with hln | hln
      · rw [max_eq_right hln]; exact List.mem_cons_of_mem _ hmem
      · rw [max_eq_left hln]; exact List.mem_cons_self
    · simp

theorem isLongest_unique {ls : List Nat} {m n : Nat} (hm : isLongest ls m) (hn : isLongest ls n) : m = n := by
  obtain ⟨hmle, hmmem⟩ := hm
  obtain ⟨hnle, hnmem⟩ := hn
  rcases hmmem with hmmem | ⟨rfl, rfl⟩ <;> rcases hnmem with hnmem | ⟨he, rfl⟩
  · exact le_antisymm (hnle m hmmem) (hmle n hnmem)
  · subst he; cases hmmem
  · cases hnmem
  · rfl

theorem isLongest_foldr (ls : List Nat) : isLongest ls (ls.foldr max 0) := by
  induction ls with
  | nil => exact ⟨fun _ h => (nomatch h), .inr ⟨rfl, rfl⟩⟩
  | cons l ls ih => exact isLongest_cons ih

theorem isLongest_foldl (ls : List Nat) : isLongest ls (ls.foldl max 0) := by
  have hfold : ∀ (k : Nat) (ls : List Nat), ls.foldl max k = max k (ls.foldr max 0) := by
    intro k ls
    induction ls generalizing k with
    | nil => simp
    | cons l ls ih => rw [List.foldl_cons, ih, List.foldr_cons, max_assoc]
  rw [hfold, Nat.zero_max]
  exact isLongest_foldr ls

theorem longestListen_fix (s : State) (r : Rail) (g : Group) {n : Nat} (h : isLongest (g.map (fun ch => (s.channel r ch).listen)) n) :
    longestListen (s.fix r g) = n := by
  have hmap : longestListen (s.fix r g) = (g.map (fun ch => (s.channel r ch).listen)).foldl max 0 := by
    simp [longestListen, State.fix, List.foldl_map]
  rw [hmap]
  exact isLongest_unique (isLongest_foldl _) h

theorem bindSnapshot_of_started {g : Group} {b : Int} {old new : PendingSnapshot} (h : startedSnapshot g b old new) :
    bindSnapshot g b old = new := by
  obtain ⟨hbound, hkept⟩ := h
  cases old with
  | idle => exact (hkept fun _ _ => nofun).symm
  | bound ch p => exact (hkept fun _ _ => nofun).symm
  | waiting ch =>
    by_cases hg : ch ∈ g
    · simpa [bindSnapshot, hg] using (hbound ch hg rfl).symm
    · rw [hkept fun c hc e => hg (by cases e; exact hc)]
      simp [bindSnapshot, hg]

theorem startGroup_eq {s : State} {r : Rail} {g : Group} {b : Int} {n : Nat} {w : PendingSnapshot} (hn : isDuration s r g n)
    (hw : startedSnapshot g b (s.echo.get r).snapshot w) : startGroup r ⟨g, b⟩ s =
      { s with
        firing := s.firing.set r { s.firing.get r with flight := some (flightFrom s r g b (s.now + n)) }
        echo := s.echo.set r { s.echo.get r with snapshot := w } } := by
  obtain ⟨l, hl, rfl⟩ := hn
  simp only [startGroup, longestListen_fix s r g hl, State.setFiring_echo, bindSnapshot_of_started hw]
  rfl

/-! ### O13: a pitch event -/

theorem bindPitch_eq {s : State} {r : Rail} {b : Int} {g : Group} {next : Nat}
    (h : planStep (s.setup.plans.get r) (s.firing.get r).pointer g next) :
    bindPitch r b s = takeRequestBound r ⟨g, b⟩ (s.setFiring r { s.firing.get r with pointer := next }) := by
  obtain ⟨hg, rfl⟩ := h
  have hlt := (List.getElem?_eq_some_iff.mp hg).1
  have hnext : (if (s.firing.get r).pointer + 1 < (s.setup.plans.get r).length then (s.firing.get r).pointer + 1 else 0) =
      if (s.firing.get r).pointer + 1 = (s.setup.plans.get r).length then 0 else (s.firing.get r).pointer + 1 := by
    split <;> split <;> omega
  simp only [bindPitch, hg, hnext]

theorem bindPitch_of_empty {s : State} {r : Rail} {b : Int} (h : s.setup.plans.get r = []) : bindPitch r b s = s := by
  simp [bindPitch, h]

section
variable {s : State} {r : Rail} {b : Int} {rest : List Int}

theorem pitchEvent_idle (hev : (s.firing.get r).pitchEvents = b :: rest) (hrun : s.run.state ≠ .running) :
    pitchEvent r s = s.setFiring r { s.firing.get r with pitchEvents := rest } := by
  simp [pitchEvent, hev, hrun]

/-- With no commit to take the event is bound as it is. -/
theorem pitchEvent_binds (hrun : s.run.state = .running) (hev : (s.firing.get r).pitchEvents = b :: rest)
    (hno : (s.firing.get r).staged = none ∨ (s.firing.get r).pointer ≠ 0) :
    pitchEvent r s = bindPitch r b (s.setFiring r { s.firing.get r with pitchEvents := rest }) := by
  cases hstaged : (s.firing.get r).staged with
  | none => simp [pitchEvent, hev, hrun, hstaged]
  | some p =>
    have hpointer : (s.firing.get r).pointer ≠ 0 := by simpa [hstaged] using hno
    simp [pitchEvent, hev, hrun, hstaged, hpointer]

theorem pitchEvent_commits {p : Plan} (hrun : s.run.state = .running) (hev : (s.firing.get r).pitchEvents = b :: rest)
    (hpointer : (s.firing.get r).pointer = 0) (hstaged : (s.firing.get r).staged = some p) :
    pitchEvent r s = bindPitch r b (commitPlan r p (s.setFiring r { s.firing.get r with pitchEvents := rest })) := by
  simp [pitchEvent, hev, hrun, hstaged, hpointer]

end

/-- Settles O13: the request bound starts, is held, or replaces the held one, as the firing unit is found. -/
theorem aPitchEventBindsItsGroup : Obligations.APitchEventBindsItsGroup := by
  refine ⟨fun s r b rest g next n w hrun hev hno hstep hn hw => ?_, fun s r b rest hev h => ?_,
    fun s r b rest p left joined hrun hev hpointer hstaged hleft hjoined => ?_⟩
  case refine_1 =>
    have hexec : exec (.pitchEvent r) s = .next (takeRequestBound r ⟨g, b⟩
        (s.setFiring r { s.firing.get r with pitchEvents := rest, pointer := next })) := by
      show Host.Outcome.next (pitchEvent r s) = _
      rw [pitchEvent_binds hrun hev hno, bindPitch_eq (by simpa using hstep)]
      simp [State.setFiring]
    rw [hexec, takeRequestBound]
    refine ⟨fun hf => ?_, fun hf hh => ?_, fun hf hh hs => ?_⟩
    · rw [if_pos (by simp [hf]), startGroup_eq (s := s.setFiring r { s.firing.get r with pitchEvents := rest, pointer := next }) hn hw]
      cases r <;> rfl
    · rw [if_neg (by simpa using hf), if_pos (by simp [hh])]
      cases r <;> rfl
    · rw [if_neg (by simpa using hf), if_neg (by simpa using hh)]
      have hraise : raiseCounter (s.firing.get r).skipped = min 65535 ((s.firing.get r).skipped + 1) := raise_eq_min hs
      rw [← hraise]
      cases r <;> rfl
  case refine_2 =>
    show Host.Outcome.next (pitchEvent r s) = _
    by_cases hrun : s.run.state = .running
    · obtain ⟨hplan, hstaged⟩ := h.resolve_left (not_not.mpr hrun)
      rw [pitchEvent_binds hrun hev (.inl hstaged), bindPitch_of_empty (s := s.setFiring r _) hplan]
      rfl
    · rw [pitchEvent_idle hev hrun]
      rfl
  case refine_3 =>
    subst hleft hjoined
    show Host.Outcome.next (pitchEvent r s) = Host.Outcome.next (pitchEvent r _)
    rw [pitchEvent_commits hrun hev hpointer hstaged, pitchEvent_binds (b := b) (rest := rest)]
    · cases r <;> rfl
    · exact hrun
    · simpa using hev
    · simp

/-! ### O14: a group completes -/

theorem recorded_eq (n : Nat) (signal : List Nat) :
    recorded n signal = (List.range n).map (fun k => min 4095 (signal.getD k 0)) := by
  apply List.ext_getElem?
  intro k
  by_cases hk : k < n
  · by_cases hs : k < signal.length
    · simp [recorded, List.getElem?_append, hk, hs, min_comm]
    · have hrest : k - min n signal.length < n - signal.length := by omega
      simp [recorded, List.getElem?_append, hk, hs, hrest]
  · have hk' : n ≤ k := by omega
    simp [recorded, List.getElem?_append, hk, List.getElem?_replicate]
    omega

theorem sendDrainNotice_of_idle {s : State} {r : Rail} (h : (s.firing.get r).flight = none) :
    sendDrainNotice r s = if s.run.state = .draining then s.toEcho r .drain else s := by
  simp [sendDrainNotice, h]

/-- Settles O14: the completion goes to the echo processor, then the held request starts or the unit is IDLE. -/
theorem aGroupCompletes : Obligations.AGroupCompletes := by
  refine ⟨recorded_eq, fun s r l f now cs hf hnow hcs => ?_⟩
  have hcompleted : (s.advanceTo f.endTime).completed r l f = cs := by
    subst hcs
    simp only [State.completed, laneSignal, List.contains_eq_mem]
    rfl
  have hexec : exec (.groupCompletion r l) s = .next (groupCompletion r l s) := rfl
  subst hnow
  rw [hexec, groupCompletion]
  simp only [hf, hcompleted]
  refine ⟨fun hh => ?_, fun q n w hh hn hw => ?_⟩
  · have hheld : (((s.advanceTo f.endTime).toEcho r (.completion f.position f.group cs)).firing.get r).held = none := hh
    have hidle : ({ s.firing.get r with flight := none, held := none } : FiringUnit) = { s.firing.get r with flight := none } := by
      simp [hh]
    simp only [hheld]
    rw [sendDrainNotice_of_idle (by simp [State.setFiring]), ← hidle]
    by_cases hd : s.run.state = .draining
    · have hd' : ((s.advanceTo f.endTime).toEcho r (.completion f.position f.group cs)).run.state = .draining := hd
      rw [if_pos hd, State.setFiring_run, if_pos hd']
      cases r <;> simp [State.toEcho, State.setEcho, State.setFiring, State.advanceTo, Rails.get, Rails.set, Flight.group]
    · have hd' : ((s.advanceTo f.endTime).toEcho r (.completion f.position f.group cs)).run.state ≠ .draining := hd
      rw [if_neg hd, State.setFiring_run, if_neg hd']
      cases r <;> rfl
  · have hheld : (((s.advanceTo f.endTime).toEcho r (.completion f.position f.group cs)).firing.get r).held = some q := hh
    simp only [hheld]
    rw [startGroup_eq (g := q.group) (b := q.position) (n := n) (w := w)]
    · cases r <;> rfl
    · exact hn
    · cases r <;> exact hw

end Sys2Proof.Machine
end

section
/-! PROOFS. The gates, the snapshot's points and the coverage step: the level curve (O15), the interface gate (O16), the points of
a snapshot (O18), the count of a verdict (O19), the untested stretches (O20) and where a kept hit lies (O21). -/

namespace Sys2Proof.Machine

/-! ### O15: the level curve -/

theorem time_lt_of_ascending {p : CurvePoint} {rest : List CurvePoint} (h : ascending (p :: rest) = true) :
    ascending rest = true ∧ ∀ q ∈ rest, p.time < q.time := by
  induction rest generalizing p with
  | nil => exact ⟨rfl, fun _ h => (nomatch h)⟩
  | cons r rest ih =>
    obtain ⟨hpr, hrest⟩ : p.time < r.time ∧ ascending (r :: rest) = true := by simpa [ascending] using h
    refine ⟨hrest, List.forall_mem_cons.mpr ⟨hpr, fun q hq => hpr.trans ((ih hrest).2 q hq)⟩⟩

/-- From the first point on the value is that of the segment the time lies in. -/
theorem curveLevel_cons {p : CurvePoint} {rest : List CurvePoint} {t : Nat} (h : ascending (p :: rest) = true) (ht : p.time ≤ t) :
    curveLevel (p :: rest) t = some (levelFrom p rest t) := by
  show some (if t ≤ p.time then (p.level : Int) else levelFrom p rest t) = _
  split
  · next hle =>
    obtain rfl : t = p.time := le_antisymm hle ht
    cases rest with
    | nil => rfl
    | cons q rest =>
      have hq := (time_lt_of_ascending h).2 q (by simp)
      simp [levelFrom, hq]
  · rfl

theorem levelFrom_last {p q : CurvePoint} {rest : List CurvePoint} {t : Nat} (h : ascending (p :: rest) = true)
    (hq : (p :: rest).getLast? = some q) (ht : q.time ≤ t) : levelFrom p rest t = q.level := by
  induction rest generalizing p with
  | nil => cases hq; rfl
  | cons r rest ih =>
    obtain ⟨hasc, -⟩ := time_lt_of_ascending h
    have hq' : (r :: rest).getLast? = some q := by simpa using hq
    have hr : r.time ≤ q.time := by
      rcases List.mem_cons.mp (List.mem_of_getLast? hq') with rfl | hmem
      · rfl
      · exact le_of_lt ((time_lt_of_ascending hasc).2 q hmem)
    rw [levelFrom, if_neg (by omega)]
    exact ih hasc hq'

theorem levelFrom_between {p a b : CurvePoint} {rest : List CurvePoint} {t i : Nat} (h : ascending (p :: rest) = true)
    (ha : (p :: rest)[i]? = some a) (hb : (p :: rest)[i + 1]? = some b) (hat : a.time ≤ t) (htb : t < b.time) :
    levelFrom p rest t = a.level + Int.tdiv (((b.level : Int) - a.level) * ((t : Int) - a.time)) ((b.time : Int) - a.time) := by
  induction rest generalizing p i with
  | nil => simp at hb
  | cons r rest ih =>
    cases i with
    | zero =>
      obtain rfl : p = a := by simpa using ha
      obtain rfl : r = b := by simpa using hb
      rw [levelFrom, if_pos htb]
    | succ i =>
      obtain ⟨hasc, -⟩ := time_lt_of_ascending h
      have ha' : (r :: rest)[i]? = some a := by simpa using ha
      have hr : r.time ≤ a.time := by
        rcases List.mem_cons.mp (List.mem_of_getElem? ha') with rfl | hmem
        · rfl
        · exact le_of_lt ((time_lt_of_ascending hasc).2 a hmem)
      rw [levelFrom, if_neg (by omega)]
      exact ih hasc ha' (by simpa using hb)

/-- Settles O15: the curve is read at its ends and along the segment the time lies in. -/
theorem theLevelCurve : Obligations.TheLevelCurve := by
  intro curve t hasc
  cases curve with
  | nil => exact ⟨fun _ h => (nomatch h), fun _ h => (nomatch h), fun i p q h => (by simp at h), fun _ => rfl⟩
  | cons p rest =>
    have hfirst : ∀ q ∈ p :: rest, p.time ≤ q.time :=
      List.forall_mem_cons.mpr ⟨le_rfl, fun q hq => le_of_lt ((time_lt_of_ascending hasc).2 q hq)⟩
    refine ⟨fun q hq ht => ?_, fun q hq ht => ?_, fun i a b ha hb hat htb => ?_, nofun⟩
    · obtain rfl : p = q := by simpa using hq
      simp [curveLevel, ht]
    · rw [curveLevel_cons hasc ((hfirst q (List.mem_of_getLast? hq)).trans ht), levelFrom_last hasc hq ht]
    · rw [curveLevel_cons hasc ((hfirst a (List.mem_of_getElem? ha)).trans hat), levelFrom_between hasc ha hb hat htb]

/-! ### O16: the interface gate -/

theorem getElem?_window {samples : List Nat} {start width k : Nat} :
    (window samples start width)[k]? = if k < width then samples[start + k]? else none := by
  simp [window, List.getElem?_take, List.getElem?_drop]

section
variable {x : ChannelRecord} {samples : List Nat}

theorem interfaceEcho_eq_some {i a : Nat} (hi : x.interfaceStart ≤ i) (hw : i < x.interfaceStart + x.interfaceWidth)
    (ha : samples[i]? = some a) (hlevel : x.interfaceLevel ≤ a)
    (hbefore : ∀ k b : Nat, x.interfaceStart ≤ k → k < i → samples[k]? = some b → b < x.interfaceLevel) :
    interfaceEcho x samples = some ⟨i, a⟩ := by
  obtain ⟨k, rfl⟩ := Nat.exists_eq_add_of_le hi
  have hk : (window samples x.interfaceStart x.interfaceWidth)[k]? = some a := by
    rw [getElem?_window, if_pos (by omega), ha]
  obtain ⟨hlt, hget⟩ := List.getElem?_eq_some_iff.mp hk
  have hfind : (window samples x.interfaceStart x.interfaceWidth).findIdx? (fun a => decide (x.interfaceLevel ≤ a)) = some k := by
    refine List.findIdx?_eq_some_iff_getElem.mpr ⟨hlt, by simp [hget, hlevel], fun j hj => ?_⟩
    have hjget := List.getElem?_eq_getElem (hj.trans hlt)
    rw [getElem?_window, if_pos (by omega)] at hjget
    have := hbefore _ _ (by omega) (by omega) hjget
    simpa using this
  unfold interfaceEcho
  simp only [hfind, List.getD_eq_getElem?_getD, hk]
  rfl

theorem interfaceEcho_eq_none (hno : ∀ k b : Nat, x.interfaceStart ≤ k → k < x.interfaceStart + x.interfaceWidth →
    samples[k]? = some b → b < x.interfaceLevel) : interfaceEcho x samples = none := by
  have hfind : (window samples x.interfaceStart x.interfaceWidth).findIdx? (fun a => decide (x.interfaceLevel ≤ a)) = none := by
    rw [List.findIdx?_eq_none_iff]
    intro a ha
    obtain ⟨k, hk⟩ := List.mem_iff_getElem?.mp ha
    rw [getElem?_window, Option.ite_none_right_eq_some] at hk
    have := hno _ a (by omega) (by omega) hk.2
    simpa using this
  simp only [interfaceEcho, hfind]

/-- The outcome of each gate follows its presence and the interface time found. -/
theorem gateResult_outcome (g : Gate) :
    (gateResult x samples).outcomes[g] = gateOutcome x samples (interfaceEcho x samples) x.gates[g] := by
  simp [gateResult]

end

/-- Settles O16: the interface gate finds the first sample at its level, or none. -/
theorem theInterfaceGate : Obligations.TheInterfaceGate := by
  refine ⟨fun g curve t => ⟨fun h => ?_, fun hu v hv => ?_⟩, fun x samples =>
    ⟨fun i a hi hw ha hlevel hbefore => ?_, fun hno => ?_, fun g hg => ?_⟩⟩
  · rcases h with h | rfl
    · simp [FlawGate.levelAt, h]
    · simp [FlawGate.levelAt, curveLevel]
  · simp [FlawGate.levelAt, hu, hv]
  · have hecho := interfaceEcho_eq_some hi hw ha hlevel hbefore
    refine ⟨hecho, by simp [gateResult, hecho], fun g y hg => ?_⟩
    rw [gateResult_outcome, hecho, hg]; rfl
  · have hecho := interfaceEcho_eq_none hno
    refine ⟨hecho, by simp [gateResult, hecho], fun g y hg => ?_⟩
    rw [gateResult_outcome, hecho, hg]; rfl
  · rw [gateResult_outcome, hg]; rfl

/-! ### O18: the points of a snapshot -/

theorem blockMaxima_length {k n : Nat} {samples : List Nat} (hk : 1 ≤ k) (hn : samples.length ≤ n * k) :
    (blockMaxima k n samples).length ≤ n ∧ samples.length ≤ (blockMaxima k n samples).length * k ∧
      (blockMaxima k n samples).length * k < samples.length + k := by
  induction n generalizing samples with
  | zero =>
    obtain rfl : samples = [] := List.length_eq_zero_iff.mp (by omega)
    simp [blockMaxima]; omega
  | succ n ih =>
    cases samples with
    | nil => simp [blockMaxima]; omega
    | cons a rest =>
      rw [Nat.succ_mul] at hn
      have hdrop : ((a :: rest).drop k).length = (a :: rest).length - k := List.length_drop
      have hpos : 1 ≤ (a :: rest).length := by simp
      obtain ⟨h1, h2, h3⟩ := ih (samples := (a :: rest).drop k) (by omega)
      have hshort : (a :: rest).length ≤ k → (blockMaxima k n ((a :: rest).drop k)).length = 0 := fun h => by
        rw [List.drop_eq_nil_of_le h]; cases n <;> rfl
      rw [blockMaxima, List.length_cons (as := blockMaxima _ _ _), Nat.add_one_mul]
      refine ⟨by omega, by omega, ?_⟩
      rcases Nat.lt_or_ge k (a :: rest).length with hlong | h
      · omega
      · rw [hshort h]; omega

/-- Point i is the greatest of block i. -/
theorem getElem?_blockMaxima {k n i p : Nat} {samples : List Nat} (h : (blockMaxima k n samples)[i]? = some p) :
    samples.drop (i * k) ≠ [] ∧ p = ((samples.drop (i * k)).take k).foldl max 0 := by
  induction n generalizing samples i with
  | zero => simp [blockMaxima] at h
  | succ n ih =>
    cases samples with
    | nil => simp [blockMaxima] at h
    | cons a rest =>
      cases i with
      | zero => simpa [blockMaxima, eq_comm] using h
      | succ i =>
        have := ih (samples := (a :: rest).drop k) (i := i) (by simpa [blockMaxima] using h)
        rwa [List.drop_drop, Nat.add_comm k, ← Nat.add_one_mul] at this

/-- Settles O18: the blocks cover the samples, and each point is the greatest of its block. -/
theorem theSnapshotIsReduced : Obligations.TheSnapshotIsReduced := by
  intro samples k hlo hhi
  have hk : 1 ≤ k := by omega
  have hblock : blockSize samples.length = k := by
    simp only [blockSize, ceilDiv, Config.snapshotPoints]
    omega
  have hlen := blockMaxima_length (n := 512) hk (by omega : samples.length ≤ 512 * k)
  have hpoints : snapshotPoints samples = blockMaxima k 512 samples := by rw [snapshotPoints, hblock]; rfl
  rw [hpoints]
  refine ⟨hblock, ⟨_, rfl, hlen.1, ?_, hlen.2.1⟩, fun i p hp => ?_⟩
  · have := hlen.2.2
    rw [Nat.sub_one_mul]
    omega
  · obtain ⟨hne, rfl⟩ := getElem?_blockMaxima hp
    have hmem : ∀ a, a ∈ (samples.drop (i * k)).take k ↔ ∃ j, i * k ≤ j ∧ j < i * k + k ∧ samples[j]? = some a := by
      intro a
      simp only [List.mem_iff_getElem?, List.getElem?_take, List.getElem?_drop, Option.ite_none_right_eq_some]
      constructor
      · rintro ⟨j, hj, ha⟩; exact ⟨i * k + j, by omega, by omega, ha⟩
      · rintro ⟨j, hj, hjk, ha⟩; exact ⟨j - i * k, by omega, by rwa [Nat.add_sub_cancel' hj]⟩
    obtain ⟨hle, hmax⟩ := isLongest_foldl ((samples.drop (i * k)).take k)
    refine ⟨(hmem _).mp (hmax.resolve_right fun h => hne ?_), fun j a h1 h2 ha => hle a ((hmem a).mpr ⟨j, h1, h2, ha⟩)⟩
    have := h.1
    rw [List.take_eq_nil_iff] at this
    exact this.resolve_left (by omega)

/-! ### O19: the count of a verdict -/

/-- Settles O19: the counts and the row of the table a verdict takes. -/
theorem aVerdictIsCounted : Obligations.AVerdictIsCounted := by
  intro c x pp hfail hpass
  have hf := raise_eq_min hfail
  have hp := raise_eq_min hpass
  refine ⟨hp, rfl, rfl, hf, rfl, rfl, fun _ => ⟨rfl, rfl, rfl⟩, ?_⟩
  simp only [Cover.count, if_true, Bool.false_eq_true, if_false, hf, hp]
  refine ⟨?_, ?_, ?_, ?_, ?_, ?_, ?_, ?_, ?_⟩ <;> intro hc <;> rw [hc] <;> simp only [nextCoupling]
  case refine_2 => intro h; rw [if_pos h]
  case refine_3 => intro h; rw [if_neg (by omega)]
  case refine_5 => intro h; rw [if_pos h]
  case refine_6 => intro h; rw [if_neg (by omega)]
  case refine_7 => intro h; rw [if_pos h]
  case refine_8 => intro h; rw [if_neg (by omega)]

/-! ### O20: the untested stretches -/

section
variable {c : Cover} {x : ChannelRecord} {pf : Int}

theorem overruns_eq {late : Bool} (h : late = true ↔ ∃ p, c.previous = some p ∧ (x.spacing : Int) < pf - p) :
    c.overruns x pf = late := by
  rw [Bool.eq_iff_iff, h]
  simp [Cover.overruns, Option.any_eq_true]

theorem space_of_stretch {st : Stretch} (h : c.stretch = some st) (pp : Int) : c.space x pf pp =
    ({ c with stretch := some { st with causes := { st.causes with spacing := st.causes.spacing || c.overruns x pf } } }, []) := by
  unfold Cover.space
  cases ho : c.overruns x pf
  · have hc : c = { c with stretch := some st } := by rw [← h]
    simp [← hc]
  · simp [h]

theorem space_of_none (h : c.stretch = none) (pp : Int) : c.space x pf pp =
    if c.overruns x pf then
      (c.moveFirstFail pp, [⟨probePosition x (c.previous.getD pf), pp, ⟨false, false, true⟩⟩]) else (c, []) := by
  unfold Cover.space
  rw [h]
  rfl

theorem overruns_loseCoupling (pp : Int) : (c.loseCoupling pp).overruns x pf = c.overruns x pf := rfl

theorem overruns_blank (pp : Int) : (c.blank pp).overruns x pf = c.overruns x pf := rfl

end

/-- Settles O20: each firing by whether a stretch is open, and whether it is blanked or enters UNCOUPLED. -/
theorem aFiringOpensAndClosesStretches : Obligations.AFiringOpensAndClosesStretches := by
  intro c x pf pp late hpp hl
  have hlate := overruns_eq hl
  have hprobe : probePosition x pf = pp := hpp.symm
  refine ⟨fun hst hno => ?_, fun p hst hyes hp => ?_, fun st hst hc => ?_, fun st hst hc => ?_, fun blanked hc => ?_, ?_⟩
  · simp [Cover.stretches, hprobe, space_of_none hst, hlate, hno, Cover.close, hst]
  · have : probePosition x p =  max (-2147483648) (min 2147483647 (p + x.offset)) := rfl
    simp [Cover.stretches, hprobe, space_of_none hst, hlate, hyes, Cover.close, hst, hp, this, Cover.moveFirstFail]
  · simp [Cover.stretches, hprobe, space_of_stretch hst, hlate, Cover.close, hc, Cover.moveFirstFail]
  · simp [Cover.stretches, hprobe, space_of_stretch hst, hlate, hc]
  · have hlost := overruns_loseCoupling (c := c) (x := x) (pf := pf) pp
    have hblank := overruns_blank (c := c.loseCoupling pp) (x := x) (pf := pf) pp
    cases blanked
    · rw [Cover.stretches, if_pos rfl, if_neg Bool.false_ne_true, hprobe, space_of_stretch rfl, hlost, hlate]
      cases hst : c.stretch <;> simp [Cover.loseCoupling, hc, hst, Causes.none]
    · rw [Cover.stretches, if_pos rfl, if_pos rfl, hprobe, space_of_stretch rfl, hblank, hlost, hlate]
      cases hst : c.stretch <;> simp [Cover.loseCoupling, Cover.blank, hst, Causes.none]
  · have hblank := overruns_blank (c := c) (x := x) (pf := pf) pp
    rw [Cover.stretches, if_neg Bool.false_ne_true, if_pos rfl, hprobe, space_of_stretch rfl, hblank, hlate]
    cases hst : c.stretch <;> simp [Cover.blank, hst, Causes.none]

/-! ### O21: a kept hit -/

/-- The quotient that `roundDiv` takes lies within half a divisor. -/
theorem two_mul_roundDiv (a : Int) {b : Nat} (hb : 0 < b) :
    (0 ≤ a → 2 * a - b < 2 * b * roundDiv a b ∧ 2 * b * roundDiv a b ≤ 2 * a + b) ∧
      (a ≤ 0 → 2 * a - b ≤ 2 * b * roundDiv a b ∧ 2 * b * roundDiv a b < 2 * a + b) := by
  have hle : 2 * b * ((2 * a.natAbs + b) / (2 * b)) ≤ 2 * a.natAbs + b := Nat.mul_div_le _ _
  have hlt : 2 * a.natAbs + b < 2 * b * ((2 * a.natAbs + b) / (2 * b)) + 2 * b := Nat.lt_mul_div_succ _ (by omega)
  unfold roundDiv
  generalize hq : (2 * a.natAbs + b) / (2 * b) = q at *
  zify at hle hlt
  rcases lt_trichotomy a 0 with ha | rfl | ha
  · rw [Int.sign_eq_neg_one_of_neg ha, abs_of_neg ha] at *
    refine ⟨fun h => by omega, fun _ => ⟨?_, ?_⟩⟩ <;> linarith
  · simp; omega
  · rw [Int.sign_eq_one_of_pos ha, abs_of_pos ha] at *
    refine ⟨fun _ => ⟨?_, ?_⟩, fun h => by omega⟩ <;> linarith

/-- Settles O21: the fate of a hit, and where it lies. -/
theorem aKeptHitIsPlaced : Obligations.AKeptHitIsPlaced := by
  refine ⟨⟨fun _ _ => rfl, rfl, rfl, fun st mode h => ?_⟩, fun x pf h e d k a he hd hk ha => ?_, fun a b hb => two_mul_roundDiv a hb⟩
  · simp [hitFate, h]
  · have hka : x.ka = k := hk.symm
    have heff : effectiveTime h.time x.zero = e := by
      unfold effectiveTime clampNat clampInt
      omega
    have hraw : rawDepth e x.kd = d.toNat := by rw [hd]; rfl
    have hdepth : min d.toNat 2500 = (min d 2500).toNat := by omega
    have hdeep : 2500 < d.toNat ↔ 2500 < d := by omega
    refine ⟨hka, ?_⟩
    simp only [placeHit, heff, hraw, hka, hdepth, hdeep, ← ha, Bool.decide_or]
    rfl

end Sys2Proof.Machine
end

section
/-! PROOFS. The echo processors: a completion processed (O22), commits and notices (O23). -/

namespace Sys2Proof.Machine

/-! ### The coverage of a rail, with what its changes hand on -/

theorem vector_ext_fin {α : Type} {n : Nat} {v w : Vector α n} (h : ∀ i : Fin n, v[i] = w[i]) : v = w :=
  Vector.ext fun i hi => h ⟨i, hi⟩

theorem setAt_self {α : Type} {n : Nat} (v : Vector α n) (i : Fin n) : setAt v i v[i] = v :=
  vector_ext_fin fun j => by rw [setAt_get]; split <;> simp_all

/-- The unit with this coverage and this snapshot on a rail, and these items handed on. -/
def State.covering (s : State) (r : Rail) (cover : Vector Cover 12) (snapshot : PendingSnapshot) (items : List LineItem)
    (levels : List LevelHandover) : State :=
  { s with
    echo := s.echo.set r { s.echo.get r with cover := cover, snapshot := snapshot }
    line := s.line.hear items
    router := s.router.hear levels }

theorem covering_covering (s : State) (r : Rail) (c d : Vector Cover 12) (p q : PendingSnapshot) (is js : List LineItem)
    (ls ms : List LevelHandover) :
    (s.covering r c p is ls).covering r d q js ms = s.covering r d q (is ++ js) (ls ++ ms) := by
  cases r <;> simp [State.covering, Rails.set, Rails.get]

theorem covering_self (s : State) (r : Rail) : s.covering r (s.echo.get r).cover (s.echo.get r).snapshot [] [] = s := by
  cases r <;> simp [State.covering, Rails.set, Rails.get]

@[simp] theorem covering_setup (s : State) (r : Rail) (c : Vector Cover 12) (p : PendingSnapshot) (is : List LineItem)
    (ls : List LevelHandover) : (s.covering r c p is ls).setup = s.setup := rfl

@[simp] theorem covering_echo (s : State) (r : Rail) (c : Vector Cover 12) (p : PendingSnapshot) (is : List LineItem)
    (ls : List LevelHandover) : (s.covering r c p is ls).echo.get r = { s.echo.get r with cover := c, snapshot := p } :=
  Rails.get_set_same _ _ _

theorem setCover_covering (s : State) (r : Rail) (ch : Channel) (c : Cover) : s.setCover r ch c =
    s.covering r (setAt (s.echo.get r).cover ch c) (s.echo.get r).snapshot
      (onChange (s.echo.get r).cover[ch].coupling c.coupling (.change (.coupling r ch)))
      (onChange (s.echo.get r).cover[ch].coupling c.coupling (.coupling r ch c.coupling)) :=
  setCover_eq s r ch c

/-- A row of steps, each over another channel: each finds its channel's coverage as the row found it. -/
theorem foldl_covering {r : Rail} {step : State → Channel → State} {u : Setup} {F : Channel → Cover → Cover}
    {G : Channel → PendingSnapshot → PendingSnapshot} {I : Channel → Cover → PendingSnapshot → List LineItem}
    {L : Channel → Cover → List LevelHandover}
    (hstep : ∀ s ch, s.setup = u → step s ch =
      s.covering r (setAt (s.echo.get r).cover ch (F ch (s.echo.get r).cover[ch])) (G ch (s.echo.get r).snapshot)
        (I ch (s.echo.get r).cover[ch] (s.echo.get r).snapshot) (L ch (s.echo.get r).cover[ch]))
    (hI : ∀ ch ch' c p, ch' ≠ ch → I ch' c (G ch p) = I ch' c p) {xs : List Channel} (hnd : xs.Nodup) {s : State} (hs : s.setup = u) :
    xs.foldl step s =
      s.covering r (Vector.ofFn fun ch => if ch ∈ xs then F ch (s.echo.get r).cover[ch] else (s.echo.get r).cover[ch])
        (xs.foldl (fun p ch => G ch p) (s.echo.get r).snapshot)
        (xs.flatMap fun ch => I ch (s.echo.get r).cover[ch] (s.echo.get r).snapshot)
        (xs.flatMap fun ch => L ch (s.echo.get r).cover[ch]) := by
  induction xs generalizing s with
  | nil =>
    have hcover : (Vector.ofFn fun ch : Channel => if ch ∈ ([] : List Channel) then F ch (s.echo.get r).cover[ch]
        else (s.echo.get r).cover[ch]) = (s.echo.get r).cover := vector_ext_fin fun i => by simp
    rw [hcover]
    exact (covering_self s r).symm
  | cons ch xs ih =>
    obtain ⟨hch, hnd⟩ := List.nodup_cons.mp hnd
    have hother : ∀ ch' ∈ xs, ch' ≠ ch := fun ch' h e => hch (e ▸ h)
    rw [List.foldl_cons, hstep s ch hs, ih hnd (by simpa using hs), covering_covering, covering_echo]
    simp only [List.flatMap_cons, List.foldl_cons]
    congr 1
    · refine vector_ext_fin fun i => ?_
      by_cases hi : i = ch
      · subst hi; simp [hch]
      · simp [hi]
    · refine congrArg (I ch _ _ ++ ·) (List.flatMap_congr fun ch' h => ?_)
      rw [setAt_get_other _ (hother ch' h), hI ch ch' _ _ (hother ch' h)]
    · refine congrArg (L ch _ ++ ·) (List.flatMap_congr fun ch' h => ?_)
      rw [setAt_get_other _ (hother ch' h)]

/-! ### O22: one channel of a completion -/

theorem isBlanked_eq (s : State) (r : Rail) (x : ChannelRecord) (pp : Int) :
    (x.honour && s.landmarks.blanks r pp) = s.isBlanked r x pp := by
  have hcovers : ∀ a : AppliesTo, a.covers r = (a == .both || a == (match r with | .left => .left | .right => .right)) := by
    intro a; cases a <;> cases r <;> rfl
  simp only [LandmarkList.blanks, State.isBlanked, hcovers]
  rfl

theorem captureSnapshot_covering (r : Rail) (pf : Int) (c : CompletedChannel) (interface : Option Hit) (s : State) :
    captureSnapshot r pf c interface s = s.covering r (s.echo.get r).cover
      (if (s.echo.get r).snapshot = .bound c.channel pf then .idle else (s.echo.get r).snapshot)
      (if (s.echo.get r).snapshot = .bound c.channel pf then
        [.offer (.snapshot (.captured r c.channel pf c.samples.length (interface.map Hit.time) (blockSize c.samples.length)
          (snapshotPoints c.samples)))] else []) [] := by
  unfold captureSnapshot
  split
  · simp [State.covering, State.offer, State.setEcho, State.setLine, Line.hear]
  · exact (covering_self s r).symm

theorem stretches_coupling (c : Cover) (x : ChannelRecord) (pf : Int) (entered blanked : Bool) :
    (c.stretches x pf entered blanked).1.coupling = c.coupling := by
  have hspace : ∀ (c : Cover) pp, (c.space x pf pp).1.coupling = c.coupling := by
    intro c pp; unfold Cover.space; split
    · split <;> rfl
    · rfl
  have hclose : ∀ (c : Cover) pp, (c.close pp).1.coupling = c.coupling := by
    intro c pp; unfold Cover.close; split <;> rfl
  have hlose : ∀ (c : Cover) pp, (c.loseCoupling pp).coupling = c.coupling := fun _ _ => rfl
  have hblank : ∀ (c : Cover) pp, (c.blank pp).coupling = c.coupling := fun _ _ => rfl
  simp only [Cover.stretches, apply_ite Prod.fst, apply_ite Cover.coupling, hspace, hclose, hlose, hblank, ite_self]

theorem foldl_offer_covering (r : Rail) (rs : List Record) (s : State) :
    rs.foldl State.offer s = s.covering r (s.echo.get r).cover (s.echo.get r).snapshot (rs.map .offer) [] := by
  rw [foldl_offer]
  cases r <;> simp [State.covering, State.setLine, Line.hear, Rails.set, Rails.get]

theorem coverChannel_covering (r : Rail) (pf : Int) (c : CompletedChannel) (pass blanked : Bool) (s : State) (old counted : Cover)
    (step : Cover × List Closed) (hold : old = (s.echo.get r).cover[c.channel])
    (hcounted : counted = old.count c.record pass (probePosition c.record pf))
    (hstep : step = counted.stretches c.record pf (counted.coupling == .uncoupled && old.coupling != .uncoupled) blanked) :
    coverChannel r pf c pass blanked s = s.covering r (setAt (s.echo.get r).cover c.channel step.1) (s.echo.get r).snapshot
      (onChange old.coupling counted.coupling (.change (.coupling r c.channel)) ++
        step.2.map (fun x => .offer (.untested ⟨r, c.channel, x.start, x.finish, x.causes, false⟩)))
      (onChange old.coupling counted.coupling (.coupling r c.channel counted.coupling)) := by
  have hcoupling : step.1.coupling = counted.coupling := by rw [hstep, stretches_coupling]
  unfold coverChannel
  simp only [← hold, ← hcounted, ← hstep]
  rw [foldl_offer_covering r, setCover_covering, covering_covering, covering_echo, ← hold, hcoupling, List.append_nil, List.map_map]
  rfl

/-- The kept hits among the gates, in gate order. -/
def keptHits (fate : Option Bool) (res : GateResult) (gs : List Gate) : List (Gate × Hit × Bool) :=
  gs.filterMap (fun g =>
    match fate, res.outcomes[g] with
    | some mark, .hit h => some (g, h, mark)
    | _, _ => none)

theorem keptHits_cons_hit {mark : Bool} {res : GateResult} {g : Gate} {h : Hit} (hg : res.outcomes[g] = .hit h) (gs : List Gate) :
    keptHits (some mark) res (g :: gs) = (g, h, mark) :: keptHits (some mark) res gs :=
  List.filterMap_cons_some (by rw [hg])

theorem keptHits_cons_other {fate : Option Bool} {res : GateResult} {g : Gate}
    (hg : fate = none ∨ ∀ h, res.outcomes[g] ≠ .hit h) (gs : List Gate) : keptHits fate res (g :: gs) = keptHits fate res gs := by
  refine List.filterMap_cons_none ?_
  split
  · next h1 h2 => rcases hg with hg | hg
                  · cases hg
                  · exact absurd h2 (hg _)
  · rfl

/-- The unit with these inputs behind those of a rail's tracker, and these items handed to the line interface. -/
def State.feeding (s : State) (r : Rail) (xs : List TrackerItem) (is : List LineItem) : State :=
  { s with
    tracker := s.tracker.set r { s.tracker.get r with inbox := (s.tracker.get r).inbox ++ xs }
    line := s.line.hear is }

theorem feeding_nil (s : State) (r : Rail) : s.feeding r [] [] = s := by
  cases r <;> simp [State.feeding, Rails.set, Rails.get]

theorem feeding_feeding (s : State) (r : Rail) (xs ys : List TrackerItem) (is js : List LineItem) :
    (s.feeding r xs is).feeding r ys js = s.feeding r (xs ++ ys) (is ++ js) := by
  cases r <;> simp [State.feeding, Rails.set, Rails.get]

theorem toTracker_feeding (s : State) (r : Rail) (x : TrackerItem) : s.toTracker r x = s.feeding r [x] [] := by
  simp [State.toTracker, State.setTracker, State.feeding]

/-- A kept hit as the tracker takes it, and as its HIT record shows it. -/
def hitInput (pf : Int) (c : CompletedChannel) (x : Gate × Hit × Bool) : TrackerItem :=
  .hit ⟨c.channel, x.1, pf, (placeHit c.record pf x.2.1).reflector, (placeHit c.record pf x.2.1).depth, x.2.1.amplitude, x.2.2⟩

def hitItem (r : Rail) (pf : Int) (c : CompletedChannel) (x : Gate × Hit × Bool) : LineItem :=
  .offer (.hit ⟨r, c.channel, x.1, pf, (placeHit c.record pf x.2.1).reflector, (placeHit c.record pf x.2.1).depth,
    x.2.1.amplitude, x.2.2, (placeHit c.record pf x.2.1).clamped⟩)

theorem sortHits_feeding (r : Rail) (pf : Int) (c : CompletedChannel) (fate : Option Bool) (res : GateResult) (gs : List Gate)
    (s : State) : gs.foldl (sortHit r pf c fate res) s =
      s.feeding r ((keptHits fate res gs).map (hitInput pf c)) ((keptHits fate res gs).map (hitItem r pf c)) := by
  induction gs generalizing s with
  | nil => exact (feeding_nil s r).symm
  | cons g gs ih =>
    rw [List.foldl_cons, ih]
    by_cases hkept : ∃ mark h, fate = some mark ∧ res.outcomes[g] = .hit h
    · obtain ⟨mark, h, rfl, hg⟩ := hkept
      have hsort : sortHit r pf c (some mark) res s g = s.feeding r [hitInput pf c (g, h, mark)] [hitItem r pf c (g, h, mark)] := by
        simp only [sortHit, hg]; rfl
      rw [hsort, feeding_feeding, keptHits_cons_hit hg]
      rfl
    · have hsort : sortHit r pf c fate res s g = s := by
        unfold sortHit
        split
        · next mark h hg => exact absurd ⟨mark, h, rfl, hg⟩ hkept
        · rfl
      rw [hsort, keptHits_cons_other]
      rcases fate with _ | mark
      · exact .inl rfl
      · exact .inr fun h hg => hkept ⟨mark, h, rfl, hg⟩

/-- The steps of `processChannel` in a row, each by what it hands on. -/
theorem processChannel_eq (r : Rail) (pf : Int) (s : State) (c : CompletedChannel) :
    processChannel r pf s c = s.afterChannel r pf c := by
  let res := gateResult c.record c.samples
  let blanked := s.isBlanked r c.record (probePosition c.record pf)
  let old := (s.echo.get r).cover[c.channel]
  let counted := old.count c.record res.pass (probePosition c.record pf)
  let step := counted.stretches c.record pf (counted.coupling == .uncoupled && old.coupling != .uncoupled) blanked
  let hits := keptHits (hitFate blanked counted.coupling c.record.uncoupledMode) res (List.finRange 3)
  have hcaptured := captureSnapshot_covering r pf c res.interface s
  generalize hs1 : captureSnapshot r pf c res.interface s = s1 at hcaptured
  have hblanked : (c.record.honour && s1.landmarks.blanks r (probePosition c.record pf)) = blanked := by
    rw [hcaptured]; exact isBlanked_eq s r c.record _
  have hcovered := coverChannel_covering r pf c res.pass blanked s1 old counted step (by rw [hcaptured, covering_echo]) rfl rfl
  generalize hs2 : coverChannel r pf c res.pass blanked s1 = s2 at hcovered
  have hcoupling : (s2.echo.get r).cover[c.channel].coupling = counted.coupling := by
    rw [hcovered, covering_echo, setAt_get_same, stretches_coupling]
  have hprocess : processChannel r pf s c =
      (s2.feeding r (hits.map (hitInput pf c)) (hits.map (hitItem r pf c))).toTracker r (.channelEnd c.channel pf) := by
    unfold processChannel
    simp only [res, hs1, hblanked, hs2, hcoupling, sortHits_feeding, hits]
  rw [hprocess, hcovered, hcaptured, covering_covering, covering_echo, toTracker_feeding, feeding_feeding, List.append_nil]
  unfold State.afterChannel
  simp only [State.feeding, State.covering, hear_hear, List.append_assoc, List.nil_append]
  cases r <;> rfl

/-- Settles O22: each channel of the completion is processed whole, and the completion notice follows the last. -/
theorem aCompletionIsProcessed : Obligations.ACompletionIsProcessed := by
  intro s t r pf g cs rest hinbox
  have hexec : exec (.completionProcessing r) s = .next (completionProcessing r s) := rfl
  refine ⟨fun h => by rw [hexec, completionProcessing_waits h], fun h ht => ?_⟩
  have hturn : s.echoTurn r = some (.completion pf g cs) := by rw [echoTurn_first h, hinbox]; rfl
  have hdrop : dropEcho r s = { s with echo := s.echo.set r { s.echo.get r with inbox := rest } } := by
    rw [dropEcho, hinbox]; rfl
  have hstep : processChannel r pf = State.afterChannel r pf := funext fun s => funext fun c => processChannel_eq r pf s c
  rw [hexec, completionProcessing, hturn]
  simp only [hstep, hdrop, ← ht]
  rfl

/-! ### O23: commits and notices -/

theorem offer_covering (r : Rail) (x : Record) (s : State) :
    s.offer x = s.covering r (s.echo.get r).cover (s.echo.get r).snapshot [.offer x] [] :=
  foldl_offer_covering r [x] s

theorem cutStretch_covering (r : Rail) (s : State) (ch : Channel) : cutStretch r s ch =
    s.covering r (setAt (s.echo.get r).cover ch { (s.echo.get r).cover[ch] with stretch := none }) (s.echo.get r).snapshot
      ((cutRecord r ch (s.echo.get r).cover[ch]).map .offer) [] := by
  cases hst : (s.echo.get r).cover[ch].stretch with
  | none =>
    have hcover : setAt (s.echo.get r).cover ch { (s.echo.get r).cover[ch] with stretch := none } = (s.echo.get r).cover := by
      rw [← hst]; exact setAt_self _ _
    have hcut : cutRecord r ch (s.echo.get r).cover[ch] = [] := by simp only [cutRecord, hst]
    rw [hcover, hcut, List.map_nil, covering_self]
    simp only [cutStretch, hst]
  | some st =>
    have hcut : cutRecord r ch (s.echo.get r).cover[ch] =
        [untested r ch true ⟨st.start, (s.echo.get r).cover[ch].lastProbe.getD st.start, st.causes⟩] := by
      simp only [cutRecord, hst]; rfl
    have hstep : cutStretch r s ch = (s.setCover r ch { (s.echo.get r).cover[ch] with stretch := none }).offer
        (untested r ch true ⟨st.start, (s.echo.get r).cover[ch].lastProbe.getD st.start, st.causes⟩) := by
      simp only [cutStretch, hst]
    rw [hstep, offer_covering r, setCover_covering, covering_covering, covering_echo, onChange_self, onChange_self, hcut]
    rfl

theorem cancelSnapshot_covering {r : Rail} {s : State} {ch : Channel} (h : (s.echo.get r).snapshot.channel = some ch) :
    cancelSnapshot r s = s.covering r (s.echo.get r).cover .idle [.offer (.snapshot (.cancelled r ch))] [] := by
  simp only [cancelSnapshot, h]
  simp [State.covering, State.offer, State.setEcho, State.setLine, Line.hear]

/-- What the departure of a channel hands to the line interface. -/
def leaveItems (r : Rail) (ch : Channel) (c : Cover) (p : PendingSnapshot) : List LineItem :=
  (cutRecord r ch c).map .offer ++ onChange c.coupling .inactive (.change (.coupling r ch)) ++
    if p.channel = some ch then [.offer (.snapshot (.cancelled r ch))] else []

theorem leavePlan_covering (r : Rail) (s : State) (ch : Channel) : leavePlan r s ch =
    s.covering r (setAt (s.echo.get r).cover ch (Cover.fresh false))
      (if (s.echo.get r).snapshot.channel = some ch then .idle else (s.echo.get r).snapshot)
      (leaveItems r ch (s.echo.get r).cover[ch] (s.echo.get r).snapshot)
      (onChange (s.echo.get r).cover[ch].coupling .inactive (.coupling r ch .inactive)) := by
  have hleft : (cutStretch r s ch).setCover r ch (Cover.fresh false) =
      s.covering r (setAt (s.echo.get r).cover ch (Cover.fresh false)) (s.echo.get r).snapshot
        ((cutRecord r ch (s.echo.get r).cover[ch]).map .offer ++
          onChange (s.echo.get r).cover[ch].coupling .inactive (.change (.coupling r ch)))
        (onChange (s.echo.get r).cover[ch].coupling .inactive (.coupling r ch .inactive)) := by
    have hcover : ∀ c, setAt (setAt (s.echo.get r).cover ch c) ch (Cover.fresh false) =
        setAt (s.echo.get r).cover ch (Cover.fresh false) := fun c => vector_ext_fin fun i => by
      simp only [setAt_get]; split <;> rfl
    rw [cutStretch_covering, setCover_covering, covering_covering, covering_echo]
    simp only [hcover, setAt_get_same]
    rfl
  unfold leavePlan leaveItems
  simp only [hleft, covering_echo]
  split
  · next h => rw [cancelSnapshot_covering (by rw [covering_echo]; exact h), covering_covering, covering_echo, List.append_nil]
  · simp

/-- A pending snapshot is cancelled where its channel is among those that leave. -/
theorem foldl_cancel (xs : List Channel) (p : PendingSnapshot) :
    xs.foldl (fun p ch => if p.channel = some ch then .idle else p) p =
      if p.channel.any (fun ch => xs.contains ch) then .idle else p := by
  induction xs generalizing p with
  | nil => simp
  | cons ch xs ih =>
    rw [List.foldl_cons, ih]
    by_cases h : p.channel = some ch
    · have hidle : PendingSnapshot.idle.channel = none := rfl
      rw [if_pos h, hidle, h]
      simp
    · rw [if_neg h]
      cases hp : p.channel with
      | none => simp
      | some c =>
        have hne : c ≠ ch := fun e => h (by rw [hp, e])
        simp [hne]

theorem leavePlans_covering (r : Rail) {xs : List Channel} (hnd : xs.Nodup) (s : State) : xs.foldl (leavePlan r) s =
    s.covering r (Vector.ofFn fun ch => if ch ∈ xs then Cover.fresh false else (s.echo.get r).cover[ch])
      (if (s.echo.get r).snapshot.channel.any (fun ch => xs.contains ch) then .idle else (s.echo.get r).snapshot)
      (xs.flatMap fun ch => leaveItems r ch (s.echo.get r).cover[ch] (s.echo.get r).snapshot)
      (xs.flatMap fun ch => onChange (s.echo.get r).cover[ch].coupling .inactive (.coupling r ch .inactive)) := by
  rw [← foldl_cancel]
  refine foldl_covering (F := fun _ _ => Cover.fresh false) (G := fun ch p => if p.channel = some ch then .idle else p)
    (I := leaveItems r) (L := fun ch c => onChange c.coupling .inactive (.coupling r ch .inactive)) (fun s ch _ => leavePlan_covering r s ch) (fun ch ch' c p hne => ?_) hnd rfl
  unfold leaveItems
  by_cases h : p.channel = some ch
  · have hne' : ¬ p.channel = some ch' := fun e => hne (Option.some.inj (e.symm.trans h))
    rw [if_pos h, if_neg hne', if_neg nofun]
  · rw [if_neg h]

theorem setCovers_covering (r : Rail) (F : Channel → Cover) {xs : List Channel} (hnd : xs.Nodup) (s : State) :
    xs.foldl (fun s ch => s.setCover r ch (F ch)) s =
      s.covering r (Vector.ofFn fun ch => if ch ∈ xs then F ch else (s.echo.get r).cover[ch]) (s.echo.get r).snapshot
        (xs.flatMap fun ch => onChange (s.echo.get r).cover[ch].coupling (F ch).coupling (.change (.coupling r ch)))
        (xs.flatMap fun ch => onChange (s.echo.get r).cover[ch].coupling (F ch).coupling (.coupling r ch (F ch).coupling)) := by
  have hsnapshot : (s.echo.get r).snapshot = xs.foldl (fun p _ => p) (s.echo.get r).snapshot := by
    induction xs with
    | nil => rfl
    | cons _ _ ih => exact ih (List.nodup_cons.mp hnd).2
  conv => rhs; arg 4; rw [hsnapshot]
  exact foldl_covering (F := fun ch _ => F ch) (G := fun _ p => p)
    (L := fun ch c => onChange c.coupling (F ch).coupling (.coupling r ch (F ch).coupling)) (I := fun ch c _ => onChange c.coupling (F ch).coupling (.change (.coupling r ch)))
    (fun s ch _ => setCover_covering s r ch (F ch)) (fun _ _ _ _ _ => rfl) hnd rfl

theorem cutStretches_covering (r : Rail) {xs : List Channel} (hnd : xs.Nodup) (s : State) : xs.foldl (cutStretch r) s =
    s.covering r (Vector.ofFn fun ch => if ch ∈ xs then { (s.echo.get r).cover[ch] with stretch := none } else (s.echo.get r).cover[ch])
      (s.echo.get r).snapshot (xs.flatMap fun ch => (cutRecord r ch (s.echo.get r).cover[ch]).map .offer) [] := by
  have hsnapshot : xs.foldl (fun p _ => p) (s.echo.get r).snapshot = (s.echo.get r).snapshot := List.foldl_fixed _
  have hnothing : (xs.flatMap fun _ => ([] : List LevelHandover)) = [] := by simp
  have hfold := foldl_covering (F := fun _ c => { c with stretch := none }) (G := fun _ p => p)
    (I := fun ch c _ => (cutRecord r ch c).map .offer) (L := fun _ _ => []) (fun s ch _ => cutStretch_covering r s ch)
    (fun _ _ _ _ _ => rfl) hnd (s := s) rfl
  rwa [hsnapshot, hnothing] at hfold

/-- An input taken by the echo processor, and what goes on to the tracker. -/
theorem dropEcho_eq {r : Rail} {s : State} {x : EchoItem} {rest : List EchoItem} (h : (s.echo.get r).inbox = x :: rest) :
    dropEcho r s = { s with echo := s.echo.set r { s.echo.get r with inbox := rest } } := by
  rw [dropEcho, h]; rfl

/-- The departures, then the arrivals. -/
theorem leaveThenJoin_covering (r : Rail) {leaving joining : List Channel} (hnd : (leaving ++ joining).Nodup) (s : State) :
    joining.foldl (joinPlan r) (leaving.foldl (leavePlan r) s) = s.covering r
      (Vector.ofFn (fun ch =>
        if ch ∈ leaving then Cover.fresh false else if ch ∈ joining then Cover.fresh true else (s.echo.get r).cover[ch]))
      (if (s.echo.get r).snapshot.channel.any (fun ch => leaving.contains ch) then .idle else (s.echo.get r).snapshot)
      (leaving.flatMap (fun ch => leaveItems r ch (s.echo.get r).cover[ch] (s.echo.get r).snapshot) ++
        joining.flatMap (fun ch => onChange (s.echo.get r).cover[ch].coupling .unknown (.change (.coupling r ch))))
      (leaving.flatMap (fun ch => onChange (s.echo.get r).cover[ch].coupling .inactive (.coupling r ch .inactive)) ++
        joining.flatMap (fun ch => onChange (s.echo.get r).cover[ch].coupling .unknown (.coupling r ch .unknown))) := by
  obtain ⟨hleaving, hjoining, hdisjoint⟩ := List.nodup_append.mp hnd
  have hstay : ∀ ch ∈ joining, ch ∉ leaving := fun ch hj hl => hdisjoint ch hl ch hj rfl
  have hjoin : joinPlan r = fun s ch => s.setCover r ch (Cover.fresh true) := rfl
  have hcoupling : (Cover.fresh true).coupling = .unknown := rfl
  rw [hjoin, leavePlans_covering r hleaving, setCovers_covering r (fun _ => Cover.fresh true) hjoining, covering_covering,
    covering_echo]
  simp only [hcoupling]
  generalize hv : (Vector.ofFn fun ch => if ch ∈ leaving then Cover.fresh false else (s.echo.get r).cover[ch]) = v
  have hkept : ∀ ch ∈ joining, v[ch] = (s.echo.get r).cover[ch] := fun ch hj => by simp [← hv, hstay ch hj]
  have hitems : (joining.flatMap fun ch => onChange v[ch].coupling .unknown (LineItem.change (.coupling r ch))) =
      joining.flatMap (fun ch => onChange (s.echo.get r).cover[ch].coupling .unknown (.change (.coupling r ch))) :=
    List.flatMap_congr fun ch hj => by rw [hkept ch hj]
  have hlevels : (joining.flatMap fun ch => onChange v[ch].coupling .unknown (LevelHandover.coupling r ch .unknown)) =
      joining.flatMap (fun ch => onChange (s.echo.get r).cover[ch].coupling .unknown (.coupling r ch .unknown)) :=
    List.flatMap_congr fun ch hj => by rw [hkept ch hj]
  have hcover : (Vector.ofFn fun ch => if ch ∈ joining then Cover.fresh true else v[ch]) = Vector.ofFn (fun ch =>
      if ch ∈ leaving then Cover.fresh false else if ch ∈ joining then Cover.fresh true else (s.echo.get r).cover[ch]) := by
    refine vector_ext_fin fun i => ?_
    by_cases hj : i ∈ joining
    · simp [hj, hstay i hj]
    · simp [hj, ← hv]
  rw [hitems, hlevels, hcover]

theorem commitHandover_eq {r : Rail} {s : State} {leaving joining : List Channel} {rest : List EchoItem}
    (hinbox : (s.echo.get r).inbox = .commit leaving joining :: rest) (h : ¬s.tracks r) :
    commitHandover r s =
      joining.foldl (joinPlan r) (leaving.foldl (leavePlan r) ((dropEcho r s).toTracker r (.leaving leaving))) := by
  have hturn : s.echoTurn r = some (.commit leaving joining) := by rw [echoTurn_first h, hinbox]; rfl
  rw [commitHandover, hturn]

/-- Settles O23: a commit leaves and joins channel by channel; the notices go on to the tracker. -/
theorem commitsAndNoticesAtTheEchoProcessor : Obligations.CommitsAndNoticesAtTheEchoProcessor := by
  refine ⟨fun s r leaving joining rest hinbox h hnd => ?_, fun s r h => ⟨?_, ?_, ?_⟩, fun s r rest h => ⟨fun hinbox => ?_, fun hinbox => ?_⟩,
    rfl, fun _ _ => ⟨rfl, rfl⟩⟩
  · show Host.Outcome.next (commitHandover r s) = _
    rw [commitHandover_eq hinbox h, leaveThenJoin_covering r hnd, dropEcho_eq hinbox]
    cases r <;> rfl
  · show Host.Outcome.next (commitHandover r s) = _
    rw [commitHandover_waits h]
  · show Host.Outcome.next (echoFlushNotice r s) = _
    rw [echoFlushNotice_waits h]
  · show Host.Outcome.next (echoDrainNotice r s) = _
    rw [echoDrainNotice_waits h]
  · show Host.Outcome.next (echoFlushNotice r s) = _
    have hturn : s.echoTurn r = some .flush := by rw [echoTurn_first h, hinbox]; rfl
    rw [echoFlushNotice, hturn, dropEcho_eq hinbox]
    rfl
  · show Host.Outcome.next (echoDrainNotice r s) = _
    have hturn : s.echoTurn r = some .drain := by rw [echoTurn_first h, hinbox]; rfl
    have hall : ∀ ch : Channel, ch ∈ List.finRange 12 := List.mem_finRange
    rw [echoDrainNotice, hturn]
    simp only [cutStretches_covering r (List.nodup_finRange 12), dropEcho_eq hinbox, hall, if_true]
    cases r <;> simp [State.covering, State.toTracker, State.setTracker, Rails.set, Rails.get]

end Sys2Proof.Machine
end

section
/-! PROOFS. The trackers: a hit (O24), and the notices that close traces (O25). -/

namespace Sys2Proof.Machine

/-! ### The nearest trace and the lowest free slot -/

section
variable {slots : Vector (Option Trace) 32} {h : KeptHit} {pt dt : Nat}

/-- One comparison of `nearer`: the later slot wins only where it is strictly nearer. -/
def nearerOf (best : Option (Fin 32 × Nat)) (i : Fin 32) (d : Nat) : Option (Fin 32 × Nat) :=
  match best with
  | none => some (i, d)
  | some (j, e) => if d < e then some (i, d) else some (j, e)

theorem nearer_of_candidate {i : Fin 32} {t : Trace} (ht : slots[i] = some t) (hc : t.candidate h pt dt = true)
    (best : Option (Fin 32 × Nat)) : nearer slots h pt dt best i = nearerOf best i (h.reflector - t.lastPr).natAbs := by
  simp only [nearer, ht, hc, if_true]
  cases best <;> rfl

theorem nearer_of_no_candidate {i : Fin 32} (hno : ∀ t, slots[i] = some t → t.candidate h pt dt = false)
    (best : Option (Fin 32 × Nat)) : nearer slots h pt dt best i = best := by
  unfold nearer
  split
  · rfl
  · next t ht => rw [hno t ht]; rfl

/-- Slots whose candidates are all further than d leave no best within d. -/
theorem foldl_nearer_far {d : Nat} (xs : List (Fin 32)) {best : Option (Fin 32 × Nat)} (hbest : ∀ x, best = some x → d < x.2)
    (hfar : ∀ j ∈ xs, ∀ t, slots[j] = some t → t.candidate h pt dt = true → d < (h.reflector - t.lastPr).natAbs) :
    ∀ x, xs.foldl (nearer slots h pt dt) best = some x → d < x.2 := by
  induction xs generalizing best with
  | nil => exact hbest
  | cons j xs ih =>
    obtain ⟨hj, hxs⟩ := List.forall_mem_cons.mp hfar
    refine ih (fun x hx => ?_) hxs
    by_cases hc : ∃ t, slots[j] = some t ∧ t.candidate h pt dt = true
    · obtain ⟨t, ht, hc⟩ := hc
      rw [nearer_of_candidate ht hc] at hx
      cases best with
      | none => cases hx; exact hj t ht hc
      | some y =>
        simp only [nearerOf] at hx
        split at hx
        · cases hx; exact hj t ht hc
        · cases hx; exact hbest y rfl
    · rw [nearer_of_no_candidate fun t ht => Bool.eq_false_iff.mpr fun hc' => hc ⟨t, ht, hc'⟩] at hx
      exact hbest x hx

/-- Slots with no nearer candidate leave the best as it is. -/
theorem foldl_nearer_near {i : Fin 32} {d : Nat} (xs : List (Fin 32))
    (hnear : ∀ j ∈ xs, ∀ t, slots[j] = some t → t.candidate h pt dt = true → d ≤ (h.reflector - t.lastPr).natAbs) :
    xs.foldl (nearer slots h pt dt) (some (i, d)) = some (i, d) := by
  induction xs with
  | nil => rfl
  | cons j xs ih =>
    obtain ⟨hj, hxs⟩ := List.forall_mem_cons.mp hnear
    have hstep : nearer slots h pt dt (some (i, d)) j = some (i, d) := by
      by_cases hc : ∃ t, slots[j] = some t ∧ t.candidate h pt dt = true
      · obtain ⟨t, ht, hc⟩ := hc
        rw [nearer_of_candidate ht hc]
        exact if_neg (Nat.not_lt.mpr (hj t ht hc))
      · exact nearer_of_no_candidate (fun t ht => Bool.eq_false_iff.mpr fun hc' => hc ⟨t, ht, hc'⟩) _
    rw [List.foldl_cons, hstep, ih hxs]

theorem nearestTrace_eq_some {i : Fin 32} {t : Trace} (ht : slots[i] = some t) (hc : t.candidate h pt dt = true)
    (hbest : ∀ (j : Fin 32) u, slots[j] = some u → u.candidate h pt dt = true →
      (h.reflector - t.lastPr).natAbs ≤ (h.reflector - u.lastPr).natAbs ∧
        (j < i → (h.reflector - t.lastPr).natAbs < (h.reflector - u.lastPr).natAbs)) :
    nearestTrace slots h pt dt = some i := by
  obtain ⟨before, after, hsplit⟩ := List.append_of_mem (List.mem_finRange i)
  have hbefore : ∀ j ∈ before, j < i := fun j hj => by
    have hsorted := List.pairwise_lt_finRange 32
    rw [hsplit] at hsorted
    exact (List.pairwise_append.mp hsorted).2.2 j hj i List.mem_cons_self
  have hfar := foldl_nearer_far (slots := slots) (h := h) (pt := pt) (dt := dt) (d := (h.reflector - t.lastPr).natAbs) before
    (best := none) nofun (fun j hj u hu hc => (hbest j u hu hc).2 (hbefore j hj))
  have htaken : nearer slots h pt dt (before.foldl (nearer slots h pt dt) none) i = some (i, (h.reflector - t.lastPr).natAbs) := by
    rw [nearer_of_candidate ht hc]
    cases hx : before.foldl (nearer slots h pt dt) none with
    | none => rfl
    | some x => exact if_pos (hfar x hx)
  rw [nearestTrace, hsplit, List.foldl_append, List.foldl_cons, htaken,
    foldl_nearer_near after fun j _ u hu hc => (hbest j u hu hc).1]
  rfl

theorem nearestTrace_eq_none (hno : ∀ (j : Fin 32) u, slots[j] = some u → u.candidate h pt dt = false) :
    nearestTrace slots h pt dt = none := by
  have hfold : ∀ xs : List (Fin 32), xs.foldl (nearer slots h pt dt) none = none := by
    intro xs
    induction xs with
    | nil => rfl
    | cons j xs ih => rw [List.foldl_cons, nearer_of_no_candidate (hno j), ih]
  rw [nearestTrace, hfold]
  rfl

end

section
variable {α : Type} {n : Nat} {slots : Vector (Option α) n}

theorem lowestFree_eq_some {i : Fin n} (hi : slots[i] = none) (hlow : ∀ j : Fin n, j < i → slots[j] ≠ none) :
    lowestFree slots = some i := by
  obtain ⟨before, after, hsplit⟩ := List.append_of_mem (List.mem_finRange i)
  refine List.find?_eq_some_iff_append.mpr ⟨by rw [hi]; rfl, before, after, hsplit, fun j hj => ?_⟩
  have hsorted := List.pairwise_lt_finRange n
  rw [hsplit] at hsorted
  have hlt := (List.pairwise_append.mp hsorted).2.2 j hj i List.mem_cons_self
  simpa [Option.isSome_iff_ne_none] using hlow j hlt

theorem lowestFree_eq_none (hfull : ∀ i : Fin n, slots[i] ≠ none) : lowestFree slots = none :=
  List.find?_eq_none.mpr fun i _ => by simpa using hfull i

end

/-! ### O24: a hit reaches the tracker -/

/-- An input taken by the tracker. -/
theorem dropTracker_eq {r : Rail} {s : State} {x : TrackerItem} {rest : List TrackerItem}
    (h : (s.tracker.get r).inbox = x :: rest) :
    dropTracker r s = { s with tracker := s.tracker.set r { s.tracker.get r with inbox := rest } } := by
  rw [dropTracker, h]; rfl

theorem trackerHit_eq {s : State} {r : Rail} {h : KeptHit} {rest : List TrackerItem} {y : FlawGate}
    (hinbox : (s.tracker.get r).inbox = .hit h :: rest) (hw : ¬s.streams r h) (hy : (s.channel r h.channel).gates[h.gate] = some y) :
    trackerHit r s = { s with
      tracker := s.tracker.set r
        (Tracker.take { s.tracker.get r with inbox := rest } h y.positionTolerance y.depthTolerance) } := by
  have hhead : (s.tracker.get r).inbox.head? = some (.hit h) := by rw [hinbox]; rfl
  have hpt : s.gateField r h.channel h.gate FlawGate.positionTolerance = y.positionTolerance := by rw [State.gateField, hy]; rfl
  have hdt : s.gateField r h.channel h.gate FlawGate.depthTolerance = y.depthTolerance := by rw [State.gateField, hy]; rfl
  rw [trackerHit_taken hhead hw, hpt, hdt, dropTracker_eq hinbox]
  cases r <;> rfl

/-- Settles O24: the hit joins the nearest candidate, opens a trace, or is lost. -/
theorem aHitReachesTheTracker : Obligations.AHitReachesTheTracker := by
  refine ⟨fun t h pt dt => ?_, fun s r h rest y k hk hinbox hw hy ho => ⟨fun i t ht hc hbest => ?_, fun hno =>
    ⟨fun i hi hlow => ?_, fun hfull => ?_⟩⟩, fun s r h rest hinbox hw => ?_⟩
  case refine_1 => simp [Trace.candidate, and_assoc]
  case refine_5 =>
    show Host.Outcome.next (trackerHit r s) = _
    rw [trackerHit_waits (by rw [hinbox]; rfl) hw]
  all_goals
    subst hk
    show Host.Outcome.next (trackerHit r s) = _
    rw [trackerHit_eq hinbox hw hy, Tracker.take]
  case refine_2 =>
    have hmodify : modifyAt (s.tracker.get r).slots i (Option.map fun x => x.join h) =
        setAt (s.tracker.get r).slots i (some (t.join h)) := vector_ext_fin fun j => by
      rw [setAt_get, modifyAt_get]
      split
      · next e => rw [e, ht]; rfl
      · rfl
    simp only [nearestTrace_eq_some ht hc hbest, hmodify]
    rfl
  case refine_3 =>
    simp only [nearestTrace_eq_none hno, lowestFree_eq_some hi hlow]
    rfl
  case refine_4 =>
    have hraise : raiseCounter (s.tracker.get r).overflow = min 65535 ((s.tracker.get r).overflow + 1) := raise_eq_min ho
    simp only [nearestTrace_eq_none hno, lowestFree_eq_none hfull, hraise]

/-! ### O25: closing traces -/

/-- The unit with these slots and this noise count at a rail's tracker, and these inputs behind those of its assembler. -/
def State.closing (s : State) (r : Rail) (slots : Vector (Option Trace) 32) (noise : Nat) (xs : List AssemblerItem) : State :=
  { s with
    tracker := s.tracker.set r { s.tracker.get r with slots := slots, noise := noise }
    assembler := s.assembler.set r { s.assembler.get r with inbox := (s.assembler.get r).inbox ++ xs } }

theorem closing_closing (s : State) (r : Rail) (v w : Vector (Option Trace) 32) (m n : Nat) (xs ys : List AssemblerItem) :
    (s.closing r v m xs).closing r w n ys = s.closing r w n (xs ++ ys) := by
  cases r <;> simp [State.closing, Rails.set, Rails.get]

theorem closing_self (s : State) (r : Rail) : s.closing r (s.tracker.get r).slots (s.tracker.get r).noise [] = s := by
  cases r <;> simp [State.closing, Rails.set, Rails.get]

@[simp] theorem closing_setup (s : State) (r : Rail) (v : Vector (Option Trace) 32) (m : Nat) (xs : List AssemblerItem) :
    (s.closing r v m xs).setup = s.setup := rfl

theorem closing_tracker (s : State) (r : Rail) (v : Vector (Option Trace) 32) (m : Nat) (xs : List AssemblerItem) :
    (s.closing r v m xs).tracker.get r = { s.tracker.get r with slots := v, noise := m } := Rails.get_set_same _ _ _

/-- What closing these traces hands to the assembler, and how many of them are noise. -/
def State.indicationsOf (s : State) (r : Rail) (ts : List Trace) : List AssemblerItem :=
  (ts.filter (fun t => decide (s.minimumHits r t ≤ t.hits))).map (fun t => .indication t.toIndication)

def State.noiseOf (s : State) (r : Rail) (ts : List Trace) : Nat :=
  (ts.filter (fun t => decide (t.hits < s.minimumHits r t))).length

theorem indicationsOf_append (s : State) (r : Rail) (ts us : List Trace) :
    s.indicationsOf r (ts ++ us) = s.indicationsOf r ts ++ s.indicationsOf r us := by
  simp [State.indicationsOf]

theorem noiseOf_append (s : State) (r : Rail) (ts us : List Trace) : s.noiseOf r (ts ++ us) = s.noiseOf r ts + s.noiseOf r us := by
  simp [State.noiseOf]

theorem minimumHits_congr {s t : State} (h : t.setup = s.setup) (r : Rail) : t.minimumHits r = s.minimumHits r := by
  unfold State.minimumHits State.channel; rw [h]

theorem indicationsOf_congr {s t : State} (h : t.setup = s.setup) (r : Rail) : t.indicationsOf r = s.indicationsOf r := by
  unfold State.indicationsOf; rw [minimumHits_congr h]

theorem noiseOf_congr {s t : State} (h : t.setup = s.setup) (r : Rail) : t.noiseOf r = s.noiseOf r := by
  unfold State.noiseOf; rw [minimumHits_congr h]

theorem gateField_minimumHits (s : State) (r : Rail) (t : Trace) :
    s.gateField r t.channel t.gate FlawGate.minimumHits = s.minimumHits r t := by
  unfold State.gateField State.minimumHits
  cases (s.channel r t.channel).gates[t.gate] <;> rfl

theorem closeTrace_closing (r : Rail) (w : Trace → Bool) (s : State) (i : Fin 32) (hn : (s.tracker.get r).noise ≤ 65535) :
    closeTrace r w s i = s.closing r
      (setAt (s.tracker.get r).slots i (if (s.tracker.get r).slots[i].any w then none else (s.tracker.get r).slots[i]))
      (min 65535 ((s.tracker.get r).noise + s.noiseOf r ((s.tracker.get r).slots[i].filter w).toList))
      (s.indicationsOf r ((s.tracker.get r).slots[i].filter w).toList) := by
  have hset : setAt (s.tracker.get r).slots i (s.tracker.get r).slots[i] = (s.tracker.get r).slots := setAt_self _ _
  cases ht : (s.tracker.get r).slots[i] with
  | none =>
    have hstay : closeTrace r w s i = s := by simp only [closeTrace, ht]
    have hnoise : min 65535 ((s.tracker.get r).noise + s.noiseOf r []) = (s.tracker.get r).noise := by
      show min 65535 ((s.tracker.get r).noise + 0) = _; omega
    rw [ht] at hset
    simp only [Option.any_none, Bool.false_eq_true, if_false, Option.filter_none, Option.toList_none, hset, hstay, hnoise]
    exact (closing_self s r).symm
  | some t =>
    by_cases hw : w t = true
    · have hnone : (if (some t).any w = true then none else some t) = none := if_pos hw
      have hfilter : ((some t).filter w).toList = [t] := by simp [hw]
      rw [hnone, hfilter]
      simp only [closeTrace, ht, hw, if_true, gateField_minimumHits]
      by_cases hm : s.minimumHits r t ≤ t.hits
      · have hnoise : min 65535 ((s.tracker.get r).noise + s.noiseOf r [t]) = (s.tracker.get r).noise := by
          have hzero : s.noiseOf r [t] = 0 := by simp [State.noiseOf, hm]
          omega
        have hitems : s.indicationsOf r [t] = [.indication t.toIndication] := by simp [State.indicationsOf, hm]
        rw [if_pos hm, hnoise, hitems]
        rfl
      · have hnoise : min 65535 ((s.tracker.get r).noise + s.noiseOf r [t]) = raiseCounter (s.tracker.get r).noise := by
          have hone : s.noiseOf r [t] = 1 := by simp [State.noiseOf, Nat.lt_of_not_le hm]
          rw [hone]
          exact (raise_eq_min hn).symm
        have hitems : s.indicationsOf r [t] = [] := by simp [State.indicationsOf, hm]
        rw [if_neg hm, hnoise, hitems]
        cases r <;> simp [State.closing, State.setTracker, Rails.set, Rails.get]
    · have hstay : closeTrace r w s i = s := by simp only [closeTrace, ht, if_neg hw]
      have hsome : (if (some t).any w = true then none else some t) = some t := if_neg hw
      have hfilter : ((some t).filter w).toList = [] := by simp [hw]
      have hnoise : min 65535 ((s.tracker.get r).noise + s.noiseOf r []) = (s.tracker.get r).noise := by
        show min 65535 ((s.tracker.get r).noise + 0) = _; omega
      rw [ht] at hset
      rw [hsome, hfilter, hset, hnoise, hstay]
      exact (closing_self s r).symm

theorem filterMap_cons_append {α β : Type} (f : α → Option β) (a : α) (xs : List α) :
    (a :: xs).filterMap f = (f a).toList ++ xs.filterMap f := by
  cases h : f a <;> simp [h]

/-- A row of slots, each closed where `w` holds of its trace. -/
theorem foldl_closeTrace (r : Rail) (w : Trace → Bool) {xs : List (Fin 32)} (hnd : xs.Nodup) (s : State)
    (hn : (s.tracker.get r).noise ≤ 65535) : xs.foldl (closeTrace r w) s = s.closing r
      (Vector.ofFn fun i => if i ∈ xs ∧ (s.tracker.get r).slots[i].any w = true then none else (s.tracker.get r).slots[i])
      (min 65535 ((s.tracker.get r).noise + s.noiseOf r (xs.filterMap fun i => (s.tracker.get r).slots[i].filter w)))
      (s.indicationsOf r (xs.filterMap fun i => (s.tracker.get r).slots[i].filter w)) := by
  induction xs generalizing s with
  | nil =>
    have hslots : (Vector.ofFn fun i : Fin 32 => if i ∈ ([] : List (Fin 32)) ∧ (s.tracker.get r).slots[i].any w = true then none
        else (s.tracker.get r).slots[i]) = (s.tracker.get r).slots := vector_ext_fin fun i => by simp
    have hnoise : min 65535 ((s.tracker.get r).noise + s.noiseOf r []) = (s.tracker.get r).noise := by
      show min 65535 ((s.tracker.get r).noise + 0) = _; omega
    rw [hslots, List.filterMap_nil, hnoise]
    exact (closing_self s r).symm
  | cons i xs ih =>
    obtain ⟨hi, hnd⟩ := List.nodup_cons.mp hnd
    have hother : ∀ j ∈ xs, j ≠ i := fun j hj e => hi (e ▸ hj)
    rw [List.foldl_cons, closeTrace_closing r w s i hn]
    generalize hv : setAt (s.tracker.get r).slots i (if (s.tracker.get r).slots[i].any w then none else (s.tracker.get r).slots[i]) = v
    have hkept : ∀ j, j ≠ i → v[j] = (s.tracker.get r).slots[j] := fun j hj => by rw [← hv, setAt_get_other _ hj]
    rw [ih hnd _ (by rw [closing_tracker]; exact Nat.min_le_left _ _), closing_closing, closing_tracker,
      noiseOf_congr (closing_setup ..), indicationsOf_congr (closing_setup ..)]
    have hpicked : (xs.filterMap fun j => v[j].filter w) = xs.filterMap fun j => (s.tracker.get r).slots[j].filter w :=
      List.filterMap_congr fun j hj => by rw [hkept j (hother j hj)]
    have hslots : (Vector.ofFn fun j => if j ∈ xs ∧ v[j].any w = true then none else v[j]) = Vector.ofFn fun j =>
        if j ∈ i :: xs ∧ (s.tracker.get r).slots[j].any w = true then none else (s.tracker.get r).slots[j] := by
      refine vector_ext_fin fun j => ?_
      by_cases hj : j = i
      · subst hj; simp [hi, ← hv]
      · have hmem : j ∈ i :: xs ↔ j ∈ xs := by simp [hj]
        have hsame : v[j.val] = (s.tracker.get r).slots[j.val] := hkept j hj
        simp only [Fin.getElem_fin, Vector.getElem_ofFn, Fin.eta, hmem, hsame]
    simp only [hpicked, hslots]
    rw [filterMap_cons_append, noiseOf_append, indicationsOf_append]
    congr 1
    omega

theorem closeTraces_closing (r : Rail) (w : Trace → Bool) (s : State) (hn : (s.tracker.get r).noise ≤ 65535) :
    closeTraces r w s = s.closing r
      (Vector.ofFn fun i => if (s.tracker.get r).slots[i].any w = true then none else (s.tracker.get r).slots[i])
      (min 65535 ((s.tracker.get r).noise + s.noiseOf r (tracesOf (s.tracker.get r).slots w)))
      (s.indicationsOf r (tracesOf (s.tracker.get r).slots w)) := by
  have hall : ∀ i : Fin 32, i ∈ List.finRange 32 := List.mem_finRange
  rw [closeTraces, foldl_closeTrace r w (List.nodup_finRange 32) s hn]
  simp only [hall, true_and]
  rfl

/-- The leaving channels' traces, one channel after another: a channel's are as the row found them. -/
theorem closeLeaving_closing (r : Rail) {chs : List Channel} (hnd : chs.Nodup) (s : State) (hn : (s.tracker.get r).noise ≤ 65535) :
    chs.foldl (fun s ch => closeTraces r (fun t => decide (t.channel = ch)) s) s = s.closing r
      (Vector.ofFn fun i => if (s.tracker.get r).slots[i].any (fun t => chs.contains t.channel) = true then none
        else (s.tracker.get r).slots[i])
      (min 65535 ((s.tracker.get r).noise +
        s.noiseOf r (chs.flatMap fun ch => tracesOf (s.tracker.get r).slots (fun t => decide (t.channel = ch)))))
      (s.indicationsOf r (chs.flatMap fun ch => tracesOf (s.tracker.get r).slots (fun t => decide (t.channel = ch)))) := by
  induction chs generalizing s with
  | nil =>
    have hslots : (Vector.ofFn fun i : Fin 32 => if (s.tracker.get r).slots[i].any (fun t => ([] : List Channel).contains t.channel) = true
        then none else (s.tracker.get r).slots[i]) = (s.tracker.get r).slots := vector_ext_fin fun i => by simp
    have hnoise : min 65535 ((s.tracker.get r).noise + s.noiseOf r []) = (s.tracker.get r).noise := by
      show min 65535 ((s.tracker.get r).noise + 0) = _; omega
    rw [hslots, List.flatMap_nil, hnoise]
    exact (closing_self s r).symm
  | cons ch chs ih =>
    obtain ⟨hch, hnd⟩ := List.nodup_cons.mp hnd
    rw [List.foldl_cons, closeTraces_closing r _ s hn]
    generalize hv : (Vector.ofFn fun i => if (s.tracker.get r).slots[i].any (fun t => decide (t.channel = ch)) = true then none
      else (s.tracker.get r).slots[i]) = v
    have hget : ∀ i : Fin 32, v[i] = if (s.tracker.get r).slots[i].any (fun t => decide (t.channel = ch)) = true then none
        else (s.tracker.get r).slots[i] := fun i => by simp [← hv]
    rw [ih hnd _ (by rw [closing_tracker]; exact Nat.min_le_left _ _), closing_closing, closing_tracker,
      noiseOf_congr (closing_setup ..), indicationsOf_congr (closing_setup ..)]
    have hpicked : (chs.flatMap fun c => tracesOf v (fun t => decide (t.channel = c))) =
        chs.flatMap fun c => tracesOf (s.tracker.get r).slots (fun t => decide (t.channel = c)) := by
      refine List.flatMap_congr fun c hc => List.filterMap_congr fun i _ => ?_
      rw [hget]
      split
      · next hany =>
        obtain ⟨t, ht, hchannel⟩ := Option.any_eq_true _ _ |>.mp hany
        have hne : ¬ t.channel = c := fun e => hch ((of_decide_eq_true hchannel).symm.trans e ▸ hc)
        rw [ht]; simp [Option.filter, hne]
      · rfl
    have hslots : (Vector.ofFn fun i => if v[i].any (fun t => chs.contains t.channel) = true then none else v[i]) =
        Vector.ofFn fun i => if (s.tracker.get r).slots[i].any (fun t => (ch :: chs).contains t.channel) = true then none
          else (s.tracker.get r).slots[i] := by
      refine vector_ext_fin fun i => ?_
      have hvi : v[i.val] = _ := hget i
      simp only [Fin.getElem_fin, Vector.getElem_ofFn, hvi]
      cases (s.tracker.get r).slots[i.val] with
      | none => simp
      | some t => by_cases h : t.channel = ch <;> simp [h]
    simp only [hpicked, hslots]
    rw [List.flatMap_cons, noiseOf_append, indicationsOf_append]
    congr 1
    omega

/-- What a notice does to the unit, in the terms of the statement. -/
theorem afterClosing_eq {s : State} {r : Rail} {x : TrackerItem} {rest : List TrackerItem} (h : (s.tracker.get r).inbox = x :: rest)
    (picked : List Trace) (gone : Trace → Bool) (notice : List AssemblerItem) :
    s.afterClosing r picked gone notice = (dropTracker r s).closing r
      (Vector.ofFn fun i => if (s.tracker.get r).slots[i].any gone = true then none else (s.tracker.get r).slots[i])
      (min 65535 ((s.tracker.get r).noise + s.noiseOf r picked)) (s.indicationsOf r picked ++ notice) := by
  rw [dropTracker_eq h]
  simp only [State.afterClosing, h, List.tail_cons, List.append_assoc]
  cases r <;> rfl

theorem closing_toAssembler (s : State) (r : Rail) (v : Vector (Option Trace) 32) (n : Nat) (xs : List AssemblerItem) (y : AssemblerItem) :
    (s.closing r v n xs).toAssembler r y = s.closing r v n (xs ++ [y]) := by
  cases r <;> simp [State.closing, State.toAssembler, State.setAssembler, Rails.set, Rails.get]

/-- Settles O25: each notice by the traces it picks. -/
theorem noticesCloseTraces : Obligations.NoticesCloseTraces := by
  intro s r rest hn
  have hdrop : ∀ x : TrackerItem, (s.tracker.get r).inbox = x :: rest →
      (dropTracker r s).tracker.get r = { s.tracker.get r with inbox := rest } := fun x h => by
    rw [dropTracker_eq h]; exact Rails.get_set_same _ _ _
  have hsetup : (dropTracker r s).setup = s.setup := rfl
  have hnoise : ∀ x : TrackerItem, (s.tracker.get r).inbox = x :: rest → ((dropTracker r s).tracker.get r).noise ≤ 65535 :=
    fun x h => by rw [hdrop x h]; exact hn
  have hnotice : ∀ x y, (s.tracker.get r).inbox = x :: rest → (closeTraces r (fun _ => true) (dropTracker r s)).toAssembler r y =
      s.afterClosing r (tracesOf (s.tracker.get r).slots (fun _ => true)) (fun _ => true) [y] := fun x y h => by
    rw [afterClosing_eq h, closeTraces_closing r _ _ (hnoise x h), hdrop x h, noiseOf_congr hsetup, indicationsOf_congr hsetup,
      closing_toAssembler]
  refine ⟨fun ch pf w hinbox hw => ?_, fun pf hinbox => ?_, fun chs hinbox hnd => ?_, fun hinbox => ?_, fun hinbox => ?_⟩
  · show Host.Outcome.next (channelEndNotice r s) = _
    have hpick : (fun t : Trace => decide (t.channel = ch) &&
        decide ((((dropTracker r s).channel r ch).closeDistance : Int) < pf - t.lastHitPosition)) = w := by
      funext t
      rw [Bool.eq_iff_iff, hw]
      simp only [Bool.and_eq_true, decide_eq_true_eq]
      rfl
    rw [channelEndNotice, hinbox, afterClosing_eq hinbox, List.append_nil]
    simp only [List.head?_cons, hpick]
    rw [closeTraces_closing r _ _ (hnoise _ hinbox), hdrop _ hinbox, noiseOf_congr hsetup, indicationsOf_congr hsetup]
  · show Host.Outcome.next (trackerCompletionNotice r s) = _
    have hnone : s.noiseOf r [] = 0 := rfl
    have hkeep : min 65535 ((s.tracker.get r).noise + s.noiseOf r []) = (s.tracker.get r).noise := by omega
    have hslots : (Vector.ofFn fun i : Fin 32 => if (s.tracker.get r).slots[i].any (fun _ => false) = true then none
        else (s.tracker.get r).slots[i]) = (s.tracker.get r).slots := vector_ext_fin fun i => by simp
    have hself := closing_self (dropTracker r s) r
    rw [hdrop _ hinbox] at hself
    rw [trackerCompletionNotice, hinbox, afterClosing_eq hinbox, hkeep, hslots]
    simp only [List.head?_cons]
    conv => lhs; rw [← hself]
    rw [closing_toAssembler]
    rfl
  · show Host.Outcome.next (trackerCommitLeaving r s) = _
    rw [trackerCommitLeaving, hinbox, afterClosing_eq hinbox, List.append_nil]
    simp only [List.head?_cons]
    rw [closeLeaving_closing r hnd _ (hnoise _ hinbox), hdrop _ hinbox, noiseOf_congr hsetup, indicationsOf_congr hsetup]
  · show Host.Outcome.next (trackerFlushNotice r s) = _
    rw [← hnotice .flush .flush hinbox, trackerFlushNotice, hinbox]
    rfl
  · show Host.Outcome.next (trackerDrainNotice r s) = _
    rw [← hnotice .drain .drain hinbox, trackerDrainNotice, hinbox]
    rfl

end Sys2Proof.Machine
end

section
/-! PROOFS. Findings: overlap and combination (O26), classification (O29). -/

namespace Sys2Proof.Machine

/-! ### Placing a contribution -/

theorem sameSource_false {c i : Contribution} (h : ¬(c.channel = i.channel ∧ c.gate = i.gate)) : c.sameSource i = false :=
  Bool.eq_false_iff.mpr fun k => h (Contribution.sameSource_iff.mp k)

section
variable {f : Finding} {i : Contribution}

theorem place_combines {as bs : List Contribution} {c : Contribution} (hf : f.contributions = as ++ c :: bs)
    (hc : c.channel = i.channel ∧ c.gate = i.gate) (hother : ∀ d ∈ as ++ bs, ¬(d.channel = i.channel ∧ d.gate = i.gate)) :
    f.place i = { f with contributions := as ++ c.combine i :: bs } := by
  have hsame : c.sameSource i = true := Contribution.sameSource_iff.mpr hc
  have hkept : ∀ l : List Contribution, (∀ d ∈ l, d ∈ as ++ bs) →
      l.map (fun d => if d.sameSource i then d.combine i else d) = l := fun l hl => by
    have hid : l.map (fun d => if d.sameSource i then d.combine i else d) = l.map id :=
      List.map_congr_left fun d hd => if_neg (by rw [sameSource_false (hother d (hl d hd))]; exact Bool.false_ne_true)
    rw [hid, List.map_id]
  have hany : f.contributions.any (fun c => c.sameSource i) = true := by rw [hf]; simp [hsame]
  rw [Finding.place, if_pos hany, hf]
  simp only [List.map_append, List.map_cons, hsame, if_true]
  rw [hkept as fun d hd => List.mem_append_left _ hd, hkept bs fun d hd => List.mem_append_right _ hd]

theorem place_appends (hno : ∀ d ∈ f.contributions, ¬(d.channel = i.channel ∧ d.gate = i.gate)) (hlen : f.contributions.length < 16) :
    f.place i = { f with contributions := f.contributions ++ [i] } := by
  have hany : ¬ f.contributions.any (fun c => c.sameSource i) = true := by
    intro h
    obtain ⟨d, hd, hs⟩ := List.any_eq_true.mp h
    exact hno d hd (Contribution.sameSource_iff.mp hs)
  rw [Finding.place, if_neg hany, if_pos (c := f.contributions.length < Config.contributionCapacity) hlen]

theorem place_truncates (hno : ∀ d ∈ f.contributions, ¬(d.channel = i.channel ∧ d.gate = i.gate)) (hlen : 16 ≤ f.contributions.length) :
    f.place i = { f with truncated := true } := by
  have hany : ¬ f.contributions.any (fun c => c.sameSource i) = true := by
    intro h
    obtain ⟨d, hd, hs⟩ := List.any_eq_true.mp h
    exact hno d hd (Contribution.sameSource_iff.mp hs)
  rw [Finding.place, if_neg hany, if_neg (c := f.contributions.length < Config.contributionCapacity) (Nat.not_lt.mpr hlen)]

end

/-- What a placed contribution changes depends on the contributions alone. -/
theorem place_eq (f g : Finding) (i : Contribution) (hc : g.contributions = f.contributions) (ht : g.truncated = f.truncated) :
    f.place i = { f with contributions := (g.place i).contributions, truncated := (g.place i).truncated } := by
  unfold Finding.place
  rw [hc]
  split
  · rw [ht]
  · split
    · rw [ht]
    · rfl

theorem place_contributions_congr {f g : Finding} (h : g.contributions = f.contributions) (i : Contribution) :
    (g.place i).contributions = (f.place i).contributions := by
  unfold Finding.place
  rw [h]
  split
  · rfl
  · split <;> simp

theorem foldl_place_contributions_congr {f g : Finding} (h : g.contributions = f.contributions) (cs : List Contribution) :
    (cs.foldl Finding.place g).contributions = (cs.foldl Finding.place f).contributions := by
  induction cs generalizing f g with
  | nil => exact h
  | cons c cs ih => exact ih (place_contributions_congr h c)

theorem place_truncated_iff {f : Finding} {i : Contribution} : (f.place i).truncated = true ↔
    f.truncated = true ∨ 16 ≤ f.contributions.length ∧ ∀ d ∈ f.contributions, ¬(d.channel = i.channel ∧ d.gate = i.gate) := by
  have hany : f.contributions.any (fun c => c.sameSource i) = true ↔
      ∃ d ∈ f.contributions, d.channel = i.channel ∧ d.gate = i.gate := by
    simp only [List.any_eq_true, Contribution.sameSource_iff]
  unfold Finding.place
  split
  · next h =>
    obtain ⟨d, hd, hs⟩ := hany.mp h
    exact ⟨.inl, fun k => k.resolve_right fun ⟨_, hno⟩ => hno d hd hs⟩
  · next h =>
    split
    · next hlt => exact ⟨.inl, fun k => k.resolve_right fun ⟨hle, _⟩ => absurd hlt (Nat.not_lt.mpr hle)⟩
    · next hlt => exact ⟨fun _ => .inr ⟨Nat.not_lt.mp hlt, fun d hd hs => h (hany.mpr ⟨d, hd, hs⟩)⟩, fun _ => rfl⟩

/-- A row of contributions truncates where one of them finds no room. -/
theorem foldl_place_truncated_iff {f : Finding} (cs : List Contribution) : (cs.foldl Finding.place f).truncated = true ↔
    f.truncated = true ∨ ∃ as c bs, cs = as ++ c :: bs ∧ 16 ≤ (as.foldl Finding.place f).contributions.length ∧
      ∀ d ∈ (as.foldl Finding.place f).contributions, ¬(d.channel = c.channel ∧ d.gate = c.gate) := by
  induction cs generalizing f with
  | nil => simp
  | cons c cs ih =>
    rw [List.foldl_cons, ih, place_truncated_iff, or_assoc]
    refine or_congr_right ⟨?_, ?_⟩
    · rintro (hc | ⟨as, d, bs, rfl, h⟩)
      · exact ⟨[], c, cs, rfl, hc⟩
      · exact ⟨c :: as, d, bs, rfl, h⟩
    · rintro ⟨as, d, bs, he, h⟩
      cases as with
      | nil => obtain ⟨rfl, rfl⟩ := List.cons.inj he; exact .inl h
      | cons a as => obtain ⟨rfl, rfl⟩ := List.cons.inj he; exact .inr ⟨as, d, bs, rfl, h⟩

/-! ### O26: overlap and combination -/

theorem overlaps_iff {f : Finding} {i : Contribution} {join : Nat} (hf : f.start ≤ f.finish) (hi : i.minPr ≤ i.maxPr) :
    f.overlaps i join = true ↔ ∃ p q : Int, f.start ≤ p ∧ p ≤ f.finish ∧ i.minPr ≤ q ∧ q ≤ i.maxPr ∧ (p - q).natAbs ≤ join := by
  have hgap : f.overlaps i join = true ↔ f.start - join ≤ i.maxPr ∧ i.minPr ≤ f.finish + join := by simp [Finding.overlaps]
  rw [hgap]
  constructor
  · rintro ⟨hlo, hhi⟩
    rcases lt_or_ge f.finish i.minPr with h | h
    · exact ⟨f.finish, i.minPr, hf, le_rfl, le_rfl, hi, by omega⟩
    · rcases lt_or_ge i.maxPr f.start with h' | h'
      · exact ⟨f.start, i.maxPr, le_rfl, hf, hi, le_rfl, by omega⟩
      · exact ⟨max f.start i.minPr, max f.start i.minPr, by omega, by omega, by omega, by omega, by omega⟩
  · rintro ⟨p, q, h1, h2, h3, h4, h5⟩
    omega

/-- What a finding keeps through a row of placements. -/
theorem foldl_place_span (f : Finding) (cs : List Contribution) :
    (cs.foldl Finding.place f).start = f.start ∧ (cs.foldl Finding.place f).finish = f.finish ∧
      (cs.foldl Finding.place f).depthMin = f.depthMin ∧ (cs.foldl Finding.place f).depthMax = f.depthMax ∧
      (cs.foldl Finding.place f).uncoupled = f.uncoupled := by
  induction cs generalizing f with
  | nil => exact ⟨rfl, rfl, rfl, rfl, rfl⟩
  | cons c cs ih =>
    obtain ⟨h1, h2, h3, h4⟩ := Finding.place_span f c
    have h5 : (f.place c).uncoupled = f.uncoupled := by rw [place_eq f f c rfl rfl]
    rw [List.foldl_cons, (ih _).1, (ih _).2.1, (ih _).2.2.1, (ih _).2.2.2.1, (ih _).2.2.2.2]
    exact ⟨h1, h2, h3, h4, h5⟩

/-- Settles O26: overlap is a gap within the tolerance, and every contribution is placed by the same rule. -/
theorem findingsOverlapAndCombine : Obligations.FindingsOverlapAndCombine := by
  refine ⟨fun f i join hf hi => overlaps_iff hf hi, fun f i => ?_, fun f g => ?_, fun f i => place_eq f _ i rfl rfl⟩
  · let widened : Finding :=
      { f with
        start := min f.start i.minPr, finish := max f.finish i.maxPr, depthMin := min f.depthMin i.minD
        depthMax := max f.depthMax i.maxD, uncoupled := f.uncoupled || i.uncoupled }
    have hadd : f.add i = widened.place i := rfl
    obtain ⟨h1, h2, h3, h4, h5⟩ := foldl_place_span widened [i]
    refine ⟨h1, h2, h3, h4, h5, fun as bs c hf hchannel hgate hother => ?_, fun hno hlen => ?_, fun hno hlen => ?_⟩
    · rw [hadd, place_combines (f := widened) hf ⟨hchannel, hgate⟩ hother]
      exact ⟨rfl, rfl⟩
    · rw [hadd, place_appends (f := widened) hno hlen]
      exact ⟨rfl, rfl⟩
    · rw [hadd, place_truncates (f := widened) hno hlen]
      exact ⟨rfl, rfl⟩
  · let widened : Finding :=
      { f with
        start := min f.start g.start, finish := max f.finish g.finish, depthMin := min f.depthMin g.depthMin
        depthMax := max f.depthMax g.depthMax, truncated := f.truncated || g.truncated, uncoupled := f.uncoupled || g.uncoupled }
    have htake : f.takeIn g = g.contributions.foldl Finding.place widened := rfl
    have hsame : ∀ cs : List Contribution, (cs.foldl Finding.place widened).contributions =
        (cs.foldl Finding.place f).contributions := fun cs => foldl_place_contributions_congr (f := f) (g := widened) rfl cs
    obtain ⟨h1, h2, h3, h4, h5⟩ := foldl_place_span widened g.contributions
    refine ⟨h1, h2, h3, h4, h5, ?_, by rw [htake, hsame]⟩
    rw [htake, foldl_place_truncated_iff]
    simp only [hsame]
    rw [← or_assoc]
    exact or_congr_left (by simp [widened])

/-! ### O29: classification -/

theorem getLsbD_addChannel (w : Word16) (ch : Channel) {k : Nat} (hk : k < 16) :
    (addChannel w ch).getLsbD k = (w.getLsbD k || decide (ch.val = k)) := by
  rw [addChannel, BitVec.getLsbD_or, BitVec.getLsbD_ofNat, Nat.testBit_two_pow]
  simp [hk]

theorem getLsbD_foldl_addChannel (cs : List Contribution) (w : Word16) {k : Nat} (hk : k < 16) :
    (cs.foldl (fun w c => addChannel w c.channel) w).getLsbD k = (w.getLsbD k || cs.any (fun c => decide (c.channel.val = k))) := by
  induction cs generalizing w with
  | nil => simp
  | cons c cs ih => rw [List.foldl_cons, ih, getLsbD_addChannel _ _ hk, List.any_cons, Bool.or_assoc]

/-- A channel stands in a finding's set exactly where a contribution is of it. -/
theorem getLsbD_channelSet (f : Finding) (ch : Channel) :
    f.channelSet.getLsbD ch.val = true ↔ ∃ c ∈ f.contributions, c.channel = ch := by
  rw [Finding.channelSet, getLsbD_foldl_addChannel _ _ (by omega)]
  simp [Fin.ext_iff]

theorem getLsbD_above {w : Word16} (h : w.toNat < 4096) {k : Nat} (hk : 12 ≤ k) : w.getLsbD k = false := by
  rw [← BitVec.testBit_toNat]
  exact Nat.testBit_lt_two_pow (h.trans_le (Nat.pow_le_pow_right (by omega) hk : 2 ^ 12 ≤ 2 ^ k))

/-- The set test of R136 channel by channel. -/
theorem channelSet_and_considered {p : Pattern} (hc : p.considered.toNat < 4096) (hr : p.required &&& p.considered = p.required)
    (f : Finding) : ((f.channelSet &&& p.considered) == p.required) = true ↔
      ∀ ch, hasChannel p.considered ch = true → ((∃ c ∈ f.contributions, c.channel = ch) ↔ hasChannel p.required ch = true) := by
  have hrequired : ∀ k, p.required.getLsbD k = (p.required.getLsbD k && p.considered.getLsbD k) := fun k => by
    conv => lhs; rw [← hr]
    rw [BitVec.getLsbD_and]
  rw [beq_iff_eq]
  constructor
  · intro h ch hch
    rw [← getLsbD_channelSet, ← h, hasChannel, BitVec.getLsbD_and, Bool.and_eq_true]
    exact ⟨fun hf => ⟨hf, hch⟩, fun hf => hf.1⟩
  · intro h
    refine BitVec.eq_of_getLsbD_eq fun k hk => ?_
    rw [BitVec.getLsbD_and, hrequired k]
    by_cases hk12 : k < 12
    · cases hbit : p.considered.getLsbD k with
      | false => simp
      | true =>
        have := h ⟨k, hk12⟩ hbit
        rw [← getLsbD_channelSet] at this
        simp only [Bool.and_true]
        exact Bool.eq_iff_iff.mpr this
    · rw [getLsbD_above hc (by omega)]; simp

theorem matchesShape_iff {p : Pattern} (hc : p.considered.toNat < 4096) (hr : p.required &&& p.considered = p.required) (r : Rail)
    (f : Finding) : p.matchesShape r f = true ↔ p.fitsShape r f := by
  simp only [Pattern.matchesShape, Bool.and_eq_true, channelSet_and_considered hc hr, decide_eq_true_eq, and_assoc]
  rfl

theorem matchesFinding_iff {p : Pattern} (hc : p.considered.toNat < 4096) (hr : p.required &&& p.considered = p.required)
    (l : LandmarkList) (r : Rail) (f : Finding) : p.matchesFinding l r f = true ↔ p.fits l r f := by
  rw [Pattern.matchesFinding, Bool.and_eq_true, matchesShape_iff hc hr, Pattern.fits]
  refine and_congr_right fun _ => ?_
  cases p.condition <;> simp [LandmarkCondition.holds]

theorem asks_iff {p : Pattern} (hc : p.considered.toNat < 4096) (hr : p.required &&& p.considered = p.required) (r : Rail)
    (f : Finding) : p.asks r f = true ↔ p.fitsShape r f ∧ p.condition ≠ .unconditional := by
  rw [Pattern.asks, Bool.and_eq_true, matchesShape_iff hc hr]
  refine and_congr_right fun _ => ?_
  cases p.condition <;> simp [LandmarkCondition.asks]

/-- One comparison of `peakDepth`: the later peak wins only with a greater amplitude. -/
def strongerPeak (b : Peak) (c : Contribution) : Peak := if b.amplitude < c.peak.amplitude then c.peak else b

theorem foldl_strongerPeak_of_le {b : Peak} {cs : List Contribution} (h : ∀ d ∈ cs, d.peak.amplitude ≤ b.amplitude) :
    cs.foldl strongerPeak b = b := by
  induction cs with
  | nil => rfl
  | cons d cs ih =>
    obtain ⟨hd, hcs⟩ := List.forall_mem_cons.mp h
    rw [List.foldl_cons, strongerPeak, if_neg (Nat.not_lt.mpr hd), ih hcs]

theorem foldl_strongerPeak_lt {n : Nat} {b : Peak} {cs : List Contribution} (hb : b.amplitude < n)
    (h : ∀ d ∈ cs, d.peak.amplitude < n) : (cs.foldl strongerPeak b).amplitude < n := by
  induction cs generalizing b with
  | nil => exact hb
  | cons d cs ih =>
    obtain ⟨hd, hcs⟩ := List.forall_mem_cons.mp h
    refine ih ?_ hcs
    unfold strongerPeak
    split
    · exact hd
    · exact hb

theorem peakDepth_eq {f : Finding} {as bs : List Contribution} {c : Contribution} (hf : f.contributions = as ++ c :: bs)
    (has : ∀ d ∈ as, d.peak.amplitude < c.peak.amplitude) (hbs : ∀ d ∈ bs, d.peak.amplitude ≤ c.peak.amplitude) :
    f.peakDepth = c.peak.depth := by
  cases as with
  | nil =>
    have hdepth : f.peakDepth = (bs.foldl strongerPeak c.peak).depth := by rw [Finding.peakDepth, hf]; rfl
    rw [hdepth, foldl_strongerPeak_of_le hbs]
  | cons a as =>
    obtain ⟨ha, has⟩ := List.forall_mem_cons.mp has
    have hdepth : f.peakDepth = ((as ++ c :: bs).foldl strongerPeak a.peak).depth := by rw [Finding.peakDepth, hf]; rfl
    rw [hdepth, List.foldl_append, List.foldl_cons, strongerPeak, if_pos (foldl_strongerPeak_lt ha has), foldl_strongerPeak_of_le hbs]

/-- Settles O29: the search ends at the first entry that fits, by the lists of the queries it makes. -/
theorem aFindingIsClassified : Obligations.AFindingIsClassified := by
  intro s r f
  have hsearch := searchFrom_seen s r f (fun l _ p _ hc hr => matchesFinding_iff (p := p) hc hr l r f) 0 (Nat.zero_le _)
  have hstart : searchFrom r f ((List.finRange 16).drop 0) (s.seen (s.queries r f 0)) = searchFrom r f (List.finRange 16) s := rfl
  rw [hstart] at hsearch
  refine ⟨fun as bs c => peakDepth_eq, fun i p n hr hp hc hfits hnone hn => ?_, fun n hnone hn => ?_,
    fun p hc hr => asks_iff hc hr r f, ⟨rfl, fun _ => rfl, fun _ => rfl⟩, fun _ _ => rfl⟩
  · subst hn
    rw [classify, hsearch.2 i p (Nat.zero_le _) hp hc hr hfits hnone]
  · subst hn
    rw [classify, hsearch.1 hnone]
    simp only [seen_setup]

end Sys2Proof.Machine
end

section
/-! PROOFS. The finding assemblers: an indication (O27), and the notices that close findings (O28). -/

namespace Sys2Proof.Machine

/-! ### The open findings in order of start -/

/-- The order in which findings are closed and merged: by start, the lower slot first on equal starts. -/
def startsBefore (x y : Fin 16 × Finding) : Prop := x.2.start < y.2.start ∨ x.2.start = y.2.start ∧ x.1 < y.1

theorem comesFirst_iff {x y : Fin 16 × Finding} : comesFirst x y = true ↔ startsBefore x y := by
  simp [comesFirst, startsBefore]

theorem startsBefore_irrefl (x : Fin 16 × Finding) : ¬ startsBefore x x := by
  unfold startsBefore; omega

theorem startsBefore_asymm {x y : Fin 16 × Finding} (h : startsBefore x y) : ¬ startsBefore y x := by
  unfold startsBefore at *; omega

theorem startsBefore_trans {x y z : Fin 16 × Finding} (h : startsBefore x y) (k : startsBefore y z) : startsBefore x z := by
  unfold startsBefore at *; omega

theorem startsBefore_of_not {x y : Fin 16 × Finding} (hne : x.1 ≠ y.1) (h : ¬ startsBefore x y) : startsBefore y x := by
  unfold startsBefore at *; omega

theorem insertFinding_pairwise {x : Fin 16 × Finding} {ys : List (Fin 16 × Finding)} (hys : ys.Pairwise startsBefore)
    (hne : ∀ y ∈ ys, x.1 ≠ y.1) : (insertFinding x ys).Pairwise startsBefore := by
  induction ys with
  | nil => exact List.pairwise_singleton _ _
  | cons y ys ih =>
    obtain ⟨hy, hrest⟩ := List.pairwise_cons.mp hys
    obtain ⟨hxy, hxys⟩ := List.forall_mem_cons.mp hne
    unfold insertFinding
    split
    · next h =>
      have hbefore := comesFirst_iff.mp h
      exact List.pairwise_cons.mpr ⟨List.forall_mem_cons.mpr ⟨hbefore, fun z hz => startsBefore_trans hbefore (hy z hz)⟩, hys⟩
    · next h =>
      refine List.pairwise_cons.mpr ⟨fun z hz => ?_, ih hrest hxys⟩
      rcases mem_insertFinding.mp hz with rfl | hz
      · exact startsBefore_of_not hxy fun k => h (comesFirst_iff.mpr k)
      · exact hy z hz

theorem inOrder_pairwise (a : Assembler) : a.inOrder.Pairwise startsBefore := by
  have hfold : ∀ xs : List (Fin 16 × Finding), (xs.map Prod.fst).Nodup → (xs.foldr insertFinding []).Pairwise startsBefore ∧
      ∀ y, y ∈ xs.foldr insertFinding [] → y ∈ xs := by
    intro xs
    induction xs with
    | nil => exact fun _ => ⟨.nil, fun _ h => h⟩
    | cons x xs ih =>
      intro hnd
      obtain ⟨hx, hnd⟩ := List.nodup_cons.mp hnd
      obtain ⟨hsorted, hmem⟩ := ih hnd
      refine ⟨insertFinding_pairwise hsorted fun y hy e => hx (e ▸ List.mem_map_of_mem (hmem y hy)), fun y hy => ?_⟩
      rcases mem_insertFinding.mp hy with rfl | hy
      · exact List.mem_cons_self
      · exact List.mem_cons_of_mem _ (hmem y hy)
  refine (hfold _ ?_).1
  have hsub : (((List.finRange 16).filterMap (fun i => a.slots[i].map (fun f => (i, f)))).map Prod.fst).Sublist (List.finRange 16) := by
    generalize List.finRange 16 = xs
    induction xs with
    | nil => exact .slnil
    | cons i xs ih =>
      cases h : a.slots[i] with
      | none => rw [List.filterMap_cons_none (by rw [h]; rfl)]; exact ih.cons _
      | some f => rw [List.filterMap_cons_some (by rw [h]; rfl)]; exact ih.cons_cons _
  exact hsub.nodup (List.nodup_finRange 16)

/-- Two lists in order of start with the same findings are one. -/
theorem eq_of_startsBefore {xs ys : List (Fin 16 × Finding)} (hxs : xs.Pairwise startsBefore) (hys : ys.Pairwise startsBefore)
    (h : ∀ x, x ∈ xs ↔ x ∈ ys) : xs = ys := by
  have hnodup : ∀ {zs : List (Fin 16 × Finding)}, zs.Pairwise startsBefore → zs.Nodup := fun hz =>
    hz.imp (S := (· ≠ ·)) fun {a b} hab e => startsBefore_irrefl a (by rw [← e] at hab; exact hab)
  exact ((List.perm_ext_iff_of_nodup (hnodup hxs) (hnodup hys)).mpr h).eq_of_pairwise
    (fun a b _ _ hab hba => absurd hba (startsBefore_asymm hab)) hxs hys

theorem inStartOrder_eq {a : Assembler} {w : Finding → Bool} {xs : List (Fin 16 × Finding)} (h : inStartOrder a.slots w xs) :
    a.inOrder.filter (fun x => w x.2) = xs := by
  refine eq_of_startsBefore ((inOrder_pairwise a).filter _) h.1 fun x => ?_
  rw [List.mem_filter, h.2 x.1 x.2, mem_inOrder]

theorem foldl_free {xs : List (Fin 16 × Finding)} (v : Vector (Option Finding) 16) (j : Fin 16) :
    (xs.foldl (fun v x => setAt v x.1 none) v)[j] = if xs.any (fun x => decide (x.1 = j)) then none else v[j] := by
  induction xs generalizing v with
  | nil => rfl
  | cons x xs ih =>
    rw [List.foldl_cons, ih, setAt_get]
    by_cases h : x.1 = j
    · simp [h]
    · rw [List.any_cons, decide_eq_false h, Bool.false_or, if_neg (Ne.symm h)]

/-! ### Closing a finding, in the terms of the statements -/

theorem reportFinding_eq (r : Rail) (how : ClosedBy) (f : Finding) (v : Verdict) (action : ReportAction) (s : State) (number : Nat)
    (marks : Bool) (hnumber : number = if (s.assembler.get r).number = 65535 then 1 else (s.assembler.get r).number + 1)
    (hmarks : marks = (action == .reportAndMark && (s.setup.rails.get r).markerEnable)) :
    reportFinding r how f v action s =
      { s with
        assembler := s.assembler.set r { s.assembler.get r with number := number }
        line := s.line.hear [.offer (.finding ⟨r, number, v.cls, v.pattern, action, marks, how, f, f.peakDepth⟩)]
        router := { s.router with pulses := s.router.pulses ++ [.finding r] }
        marking := s.marking.set r
          { s.marking.get r with
            requests := (s.marking.get r).requests ++ if marks then [⟨number, (f.start + f.finish) / 2⟩] else [] } } := by
  have hnext : nextNumber (s.assembler.get r).number = number := hnumber.symm
  unfold reportFinding
  simp only [hnext, ← hmarks]
  cases marks <;> cases r <;> simp [State.setAssembler, State.offer, State.setLine, State.handPulse, State.setRouter, State.requestMark,
    State.setMarking, Line.hear, Rails.set, Rails.get, Finding.target]

theorem closeFinding_eq (r : Rail) (how : ClosedBy) (s : State) (x : Fin 16 × Finding) :
    closeFinding r how s x = (s.afterFinding r how x).setSlot r x.1 none := by
  unfold closeFinding State.afterFinding
  generalize classify r x.2 s = c
  obtain ⟨t, v⟩ := c
  cases hv : v.action with
  | suppress => simp only [hv]; rfl
  | act action => simp only [hv, reportFinding_eq r how x.2 v action t _ _ rfl rfl]; rfl

/-! ### Closing does not depend on what the assembler holds else -/

/-- The unit with these inputs and these slots at a rail's assembler. -/
def State.holding (s : State) (r : Rail) (inbox : List AssemblerItem) (slots : Vector (Option Finding) 16) : State :=
  { s with assembler := s.assembler.set r { s.assembler.get r with inbox := inbox, slots := slots } }

theorem landmarkStep_assembler (s : State) (l : LandmarkStep) (a : Rails Assembler) :
    landmarkStep { s with assembler := a } l = { landmarkStep s l with assembler := a } := by
  have hrequest : ∀ k n (act : Frame → State → State),
      (∀ f t, act f { t with assembler := a } = { act f t with assembler := a }) →
      request k n { s with assembler := a } act = { request k n s act with assembler := a } := by
    intro k n act hact
    unfold request takeRequest
    cases hi : s.line.input with
    | nil => rfl
    | cons f rest =>
      by_cases hk : s.line.replies.length < Config.replyCapacity ∧ f.kind.toNat = k.code
      · by_cases hl : f.body.length = 4 + n
        · simp only [if_pos hk, if_pos hl]; exact hact f (s.setLine { s.line with input := rest })
        · simp only [if_pos hk, if_neg hl]; rfl
      · simp only [if_neg hk]
  cases l with
  | retirement => simp only [landmarkStep, frontierRetirement]; split <;> simp_all [State.setLandmarks]
  | add entries =>
    refine hrequest _ _ _ fun f t => ?_
    simp only [addLandmarks]
    split
    · rfl
    · split <;> rfl
  | clear d => exact hrequest _ _ _ fun f t => rfl

theorem reachQuery_assembler (s : State) (a : Rails Assembler) :
    reachQuery { s with assembler := a } = { reachQuery s with assembler := a } := by
  have hfold : ∀ (ls : List LandmarkStep) (t : State),
      ls.foldl landmarkStep { t with assembler := a } = { ls.foldl landmarkStep t with assembler := a } := by
    intro ls
    induction ls with
    | nil => exact fun _ => rfl
    | cons l ls ih => intro t; rw [List.foldl_cons, landmarkStep_assembler, ih]; rfl
  exact hfold _ { s with between := s.between.tail }

theorem searchFrom_assembler (r : Rail) (f : Finding) (is : List (Fin 16)) (s : State) (a : Rails Assembler) :
    searchFrom r f is { s with assembler := a } = ({ (searchFrom r f is s).1 with assembler := a }, (searchFrom r f is s).2) := by
  induction is generalizing s with
  | nil => rfl
  | cons i is ih =>
    simp only [searchFrom]
    split
    · exact ih s
    · next p _ =>
      by_cases hasks : p.asks r f = true
      · simp only [if_pos hasks, reachQuery_assembler]
        split
        · rfl
        · exact ih _
      · simp only [if_neg hasks]
        split
        · rfl
        · exact ih _

theorem classify_assembler_of (r : Rail) (f : Finding) (s : State) (a : Rails Assembler) :
    classify r f { s with assembler := a } = ({ (classify r f s).1 with assembler := a }, (classify r f s).2) := by
  unfold classify
  rw [searchFrom_assembler]
  generalize searchFrom r f (List.finRange 16) s = c
  obtain ⟨t, o⟩ := c
  cases o <;> rfl

theorem afterFinding_holding (r : Rail) (how : ClosedBy) (s : State) (x : Fin 16 × Finding) (inbox : List AssemblerItem)
    (slots : Vector (Option Finding) 16) :
    (s.holding r inbox slots).afterFinding r how x = (s.afterFinding r how x).holding r inbox slots := by
  unfold State.afterFinding State.holding
  rw [classify_assembler_of]
  have hassembler := classify_assembler r x.2 s
  generalize classify r x.2 s = c at hassembler ⊢
  obtain ⟨t, v⟩ := c
  have hassembler : t.assembler = s.assembler := hassembler
  cases hv : v.action with
  | suppress => simp only [hv, hassembler]
  | act action => simp only [hv, ← hassembler, Rails.get_set_same, Rails.set_set]

theorem holding_self (s : State) (r : Rail) : s.holding r (s.assembler.get r).inbox (s.assembler.get r).slots = s := by
  cases r <;> rfl

theorem afterFinding_slots (r : Rail) (how : ClosedBy) (s : State) (x : Fin 16 × Finding) :
    ((s.afterFinding r how x).assembler.get r).slots = (s.assembler.get r).slots := by
  have h := afterFinding_holding r how s x (s.assembler.get r).inbox (s.assembler.get r).slots
  rw [holding_self] at h
  rw [h, State.holding, Rails.get_set_same]

/-- A row of findings closed: each is reported as the row found it, and its slot is free. -/
theorem foldl_closeFinding (r : Rail) (how : ClosedBy) (xs : List (Fin 16 × Finding)) (s : State) (inbox : List AssemblerItem)
    (slots : Vector (Option Finding) 16) : xs.foldl (closeFinding r how) (s.holding r inbox slots) =
      (xs.foldl (State.afterFinding r how) s).holding r inbox (xs.foldl (fun v x => setAt v x.1 none) slots) := by
  induction xs generalizing s slots with
  | nil => rfl
  | cons x xs ih =>
    have hstep : closeFinding r how (s.holding r inbox slots) x = (s.afterFinding r how x).holding r inbox (setAt slots x.1 none) := by
      rw [closeFinding_eq, afterFinding_holding]
      simp [State.holding, State.setSlot, State.setAssembler]
    rw [List.foldl_cons, List.foldl_cons, List.foldl_cons, hstep, ih]

theorem dropAssembler_holding {r : Rail} {s : State} {x : AssemblerItem} {rest : List AssemblerItem}
    (h : (s.assembler.get r).inbox = x :: rest) : dropAssembler r s = s.holding r rest (s.assembler.get r).slots := by
  rw [dropAssembler, h]; rfl

/-- Closing the findings a predicate picks, once the input has been taken. -/
theorem closeFindings_eq {r : Rail} {s : State} {x : AssemblerItem} {rest : List AssemblerItem} (how : ClosedBy) {w : Finding → Bool}
    {xs : List (Fin 16 × Finding)} (h : (s.assembler.get r).inbox = x :: rest) (hxs : inStartOrder (s.assembler.get r).slots w xs) :
    closeFindings r how w (dropAssembler r s) = s.afterFindings r how xs := by
  have hholding : (s.holding r rest (s.assembler.get r).slots).assembler.get r = { s.assembler.get r with inbox := rest } :=
    Rails.get_set_same _ _ _
  have horder : ((s.holding r rest (s.assembler.get r).slots).assembler.get r).inOrder.filter (fun x => w x.2) = xs :=
    inStartOrder_eq (a := (s.holding r rest (s.assembler.get r).slots).assembler.get r) (by rw [hholding]; exact hxs)
  have hslots : xs.foldl (fun v x => setAt v x.1 none) (s.assembler.get r).slots =
      Vector.ofFn (fun i => if xs.any (fun x => decide (x.1 = i)) then none else (s.assembler.get r).slots[i]) :=
    vector_ext_fin fun i => by rw [foldl_free]; simp
  rw [dropAssembler_holding h, closeFindings, horder, foldl_closeFinding, hslots, State.afterFindings, h]
  rfl

/-! ### O27: an indication -/

theorem withFindings_eq {r : Rail} {s : State} {x : AssemblerItem} {rest : List AssemblerItem} (h : (s.assembler.get r).inbox = x :: rest)
    (slots : Vector (Option Finding) 16) : s.withFindings r slots = s.holding r rest slots := by
  rw [State.withFindings, h]; rfl

theorem joinIndication_merges {r : Rail} {i : Contribution} {s : State} {k : Fin 16} {f : Finding} {others : List (Fin 16 × Finding)}
    (h : (s.assembler.get r).inOrder.filter (fun x => x.2.overlaps i (s.setup.rails.get r).join) = (k, f) :: others) :
    joinIndication r i s = s.setAssembler r
      { s.assembler.get r with
        slots := setAt (others.foldl (fun v x => setAt v x.1 none) (s.assembler.get r).slots) k
          (some ((others.foldl (fun f x => f.takeIn x.2) f).add i)) } := by
  simp only [joinIndication, h]

theorem joinIndication_opens {r : Rail} {i : Contribution} {s : State}
    (h : (s.assembler.get r).inOrder.filter (fun x => x.2.overlaps i (s.setup.rails.get r).join) = []) :
    joinIndication r i s = openFinding r i s := by
  simp only [joinIndication, h]

/-- Settles O27: the overlapped findings in order of start decide what becomes of the indication. -/
theorem anIndicationJoinsMergesOrOpens : Obligations.AnIndicationJoinsMergesOrOpens := by
  intro s r i rest a ha hinbox
  subst ha
  have hexec : exec (.indication r) s = .next (joinIndication r i (s.holding r rest (s.assembler.get r).slots)) := by
    show Host.Outcome.next (takeIndication r s) = _
    rw [takeIndication, hinbox, ← dropAssembler_holding hinbox]
    rfl
  have hsetup : (s.holding r rest (s.assembler.get r).slots).setup = s.setup := rfl
  have hholding : (s.holding r rest (s.assembler.get r).slots).assembler.get r = { s.assembler.get r with inbox := rest } :=
    Rails.get_set_same _ _ _
  have hset : ∀ slots, (s.holding r rest (s.assembler.get r).slots).setAssembler r
      { s.assembler.get r with inbox := rest, slots := slots } = s.withFindings r slots := fun slots => by
    rw [withFindings_eq hinbox]
    simp [State.holding, State.setAssembler]
  have hself : s.holding r rest (s.assembler.get r).slots = s.withFindings r (s.assembler.get r).slots :=
    (withFindings_eq hinbox _).symm
  generalize s.holding r rest (s.assembler.get r).slots = s1 at hexec hsetup hholding hset hself
  have horder : ∀ {w : Finding → Bool} {xs : List (Fin 16 × Finding)}, inStartOrder (s.assembler.get r).slots w xs →
      (s1.assembler.get r).inOrder.filter (fun x => w x.2) = xs := fun h =>
    inStartOrder_eq (by rw [hholding]; exact h)
  rw [← hsetup, hexec]
  refine ⟨fun k f others h => ?_, fun h => ⟨fun k hk hlow => ?_, fun hfull x xs hx => ?_⟩⟩
  · have hslots : setAt (others.foldl (fun v x => setAt v x.1 none) (s.assembler.get r).slots) k
        (some ((others.foldl (fun f x => f.takeIn x.2) f).add i)) = Vector.ofFn (fun j =>
          if j = k then some ((others.foldl (fun g x => g.takeIn x.2) f).add i)
          else if others.any (fun x => decide (x.1 = j)) then none else (s.assembler.get r).slots[j]) :=
      vector_ext_fin fun j => by
        rw [setAt_get, foldl_free]
        simp
    rw [joinIndication_merges (horder h), hholding, ← hslots, hset]
  · rw [joinIndication_opens (horder h), openFinding, hholding]
    simp only [lowestFree_eq_some hk hlow]
    rw [State.setSlot, hholding, hset]
    rfl
  · refine ⟨_, rfl, ?_⟩
    have hall : (s1.assembler.get r).inOrder = x :: xs := by
      have := horder hx
      simpa using this
    have hslots : ((s1.afterFinding r .forced x).assembler.get r).slots = (s.assembler.get r).slots := by
      rw [afterFinding_slots, hholding]
    rw [joinIndication_opens (horder h), openFinding, hall, hholding]
    simp only [lowestFree_eq_none hfull, List.head?_cons, closeFinding_eq, ← hself]
    simp only [State.setSlot, State.setAssembler, Rails.get_set_same, Rails.set_set, hslots]
    have hagain : setAt (setAt (s.assembler.get r).slots x.1 none) x.1 (some (Finding.openWith i)) =
        setAt (s.assembler.get r).slots x.1 (some (Finding.openWith i)) := vector_ext_fin fun j => by
      simp only [setAt_get]; split <;> rfl
    rw [hagain]
    rfl

/-! ### O28: the notices that close findings -/

theorem railDrained_eq {r : Rail} {s : State} {d n : Rails Bool} (hrun : s.run.state = .draining) (hnotice : s.run.drainNotices.get r = true)
    (hd : d = s.run.drained.set r true) (hn : n = s.run.drainNotices.set r false) : railDrained r s =
      if d.left && d.right then (s.setRun { s.run with drained := d, drainNotices := n }).setRunState .stopped
      else s.setRun { s.run with drained := d, drainNotices := n } := by
  subst hd hn
  rw [railDrained, if_pos ⟨hrun, hnotice⟩]

/-- Settles O28: the findings picked are closed in order of start. -/
theorem noticesCloseFindings : Obligations.NoticesCloseFindings := by
  refine ⟨fun s r rest xs => ⟨fun pf w hinbox hw hxs => ?_, fun hinbox hxs => ?_, fun hinbox hxs => ?_⟩,
    fun s r d n hrun hnotice hd hn => ⟨fun h => ?_, fun hl hr => ?_⟩⟩
  · show Host.Outcome.next (settleCheck r s) = _
    have hpick : (fun f : Finding => decide ((((dropAssembler r s).setup.rails.get r).settle : Int) < pf - f.finish)) = w := by
      funext f
      rw [Bool.eq_iff_iff, hw, decide_eq_true_eq]
      rfl
    rw [settleCheck, hinbox, ← closeFindings_eq .settle hinbox hxs, ← hpick]
    rfl
  · show Host.Outcome.next (assemblerFlushNotice r s) = _
    rw [assemblerFlushNotice, hinbox, ← closeFindings_eq .flush hinbox hxs]
    rfl
  · refine ⟨_, rfl, ?_⟩
    show Host.Outcome.next (assemblerDrainNotice r s) = _
    rw [assemblerDrainNotice, hinbox, ← closeFindings_eq .drain hinbox hxs]
    rfl
  · show Host.Outcome.next (railDrained r s) = _
    have hboth : ¬ (d.left && d.right) = true := by rcases h with h | h <;> simp [h]
    rw [railDrained_eq hrun hnotice hd hn, if_neg hboth]
    rfl
  · show Host.Outcome.next (railDrained r s) = _
    have hmoved : (s.setRun { s.run with drained := d, drainNotices := n }).run.state ≠ .stopped := by
      show s.run.state ≠ .stopped
      rw [hrun]; nofun
    rw [railDrained_eq hrun hnotice hd hn, if_pos (by rw [hl, hr]; rfl), setRunState_eq, onChange_ne hmoved, onChange_ne hmoved]
    rfl

end Sys2Proof.Machine
end

section
/-! PROOFS. The landmark list: loading, clearing and retiring (O30), refusals (O31), its queries (O32). -/

namespace Sys2Proof.Machine

/-! ### Enumerations by number -/

theorem kindOf_eq (n : Nat) : kindOf n = [LandmarkKind.weld, .joint, .switch, .crossing, .other][n]? :=
  match n with
  | 0 | 1 | 2 | 3 | 4 => rfl
  | _ + 5 => rfl

theorem appliesOf_eq (n : Nat) : appliesOf n = [AppliesTo.left, .right, .both][n]? :=
  match n with
  | 0 | 1 | 2 => rfl
  | _ + 3 => rfl

theorem sourceOf_eq (n : Nat) : sourceOf n =
    [Source.off, .on, .uncoupledLeft, .uncoupledRight, .allCoupled, .sprayLeft, .sprayRight, .overspeed, .hostSilent, .running,
      .findingLeft, .findingRight, .findingAny, .skip][n]? :=
  match n with
  | 0 | 1 | 2 | 3 | 4 | 5 | 6 | 7 | 8 | 9 | 10 | 11 | 12 | 13 => rfl
  | _ + 14 => rfl

theorem patternActionOf_eq (n : Nat) : patternActionOf n = [PatternAction.act .report, .act .reportAndMark, .suppress][n]? :=
  match n with
  | 0 | 1 | 2 => rfl
  | _ + 3 => rfl

theorem onOffOf_eq (n : Nat) : onOffOf n = [true, false][n]? :=
  match n with
  | 0 | 1 => rfl
  | _ + 2 => rfl

/-- ON and OFF by number: the flag is set exactly at 0. -/
theorem onOff_of_some {n : Nat} {b : Bool} (h : onOffOf n = some b) : b = decide (n = 0) :=
  match n, h with
  | 0, h => by cases h; rfl
  | 1, h => by cases h; rfl

theorem onOffOf_eq_none {n : Nat} : onOffOf n = none ↔ 2 ≤ n := by rw [onOffOf_eq]; simp; omega

/-! ### An entry as taken -/

theorem landmarkClamp_eq_none (q : LandmarkFields) : q.clamp = none ↔ 5 ≤ q.kind ∨ 3 ≤ q.rails ∨ 2 ≤ q.blank := by
  have hk : kindOf q.kind = none ↔ 5 ≤ q.kind := by rw [kindOf_eq]; simp
  have hr : appliesOf q.rails = none ↔ 3 ≤ q.rails := by rw [appliesOf_eq]; simp
  have hb : onOffOf q.blank = none ↔ 2 ≤ q.blank := onOffOf_eq_none
  rw [← hk, ← hr, ← hb]
  unfold LandmarkFields.clamp
  cases kindOf q.kind <;> cases appliesOf q.rails <;> cases onOffOf q.blank <;> simp

theorem landmarkClamp_eq_some {q : LandmarkFields} {e : Landmark} (h : q.clamp = some e) :
    e.start = q.start.toInt ∧ (e.length : Int) = max 0 (min 1000000 q.length) ∧
      [LandmarkKind.weld, .joint, .switch, .crossing, .other][q.kind]? = some e.kind ∧
      [AppliesTo.left, .right, .both][q.rails]? = some e.rails ∧ e.blank = decide (q.blank = 0) := by
  unfold LandmarkFields.clamp at h
  split at h
  · next kind rails blank hkind hrails hblank =>
    cases h
    refine ⟨rfl, ?_, (kindOf_eq _).symm.trans hkind, (appliesOf_eq _).symm.trans hrails, onOff_of_some hblank⟩
    show ((clampNat 0 1000000 q.length : Nat) : Int) = _
    unfold clampNat clampInt
    omega
  · cases h

/-! ### The checks of ADD_LANDMARKS -/

/-- Two entries of the list in order: ascending in start, and not alike. -/
def landmarkBefore (a b : Landmark) : Prop := a.start ≤ b.start ∧ ¬(a.start = b.start ∧ a.kind = b.kind ∧ a.rails = b.rails)

theorem last_start_le {es : List Landmark} {e : Landmark}
    (he : ∀ a ∈ es, a.start ≤ e.start) : es.getLast?.any (fun p => decide (e.start < p.start)) = false := by
  cases hl : es.getLast? with
  | none => rfl
  | some l =>
    have := he l (List.mem_of_getLast? hl)
    simpa using this

/-- An entry that passes leaves the checks to the rest. -/
theorem checkLandmarks_pass {listed i : Nat} {known : List Landmark} {f : LandmarkFields} {fs : List LandmarkFields} {e : Landmark}
    (hf : f.clamp = some e) (hall : (known ++ [e]).Pairwise landmarkBefore) (hroom : listed + i < 64) :
    checkLandmarks listed known i (f :: fs) = (checkLandmarks listed (known ++ [e]) (i + 1) fs).map (e :: ·) := by
  obtain ⟨-, -, hbefore⟩ := List.pairwise_append.mp hall
  have hbefore : ∀ a ∈ known, landmarkBefore a e := fun a ha => hbefore a ha e (List.mem_singleton_self e)
  have horder := last_start_le fun a ha => (hbefore a ha).1
  have hdup : known.any e.sameAs = false := by
    rw [List.any_eq_false]
    intro a ha hsame
    obtain ⟨h1, h2, h3⟩ := Landmark.sameAs_iff.mp hsame
    exact (hbefore a ha).2 ⟨h1.symm, h2.symm, h3.symm⟩
  have hfull : ¬ listed + i = Config.landmarkCapacity := by
    show ¬ listed + i = 64
    omega
  rw [checkLandmarks, hf]
  simp only [horder, hdup, if_neg hfull, Bool.false_eq_true, if_false]
  cases checkLandmarks listed (known ++ [e]) (i + 1) fs <;> rfl

/-- A row of entries that pass leaves the checks to the rest. -/
theorem checkLandmarks_passes {listed i : Nat} {known : List Landmark} {fs gs : List LandmarkFields} {es : List Landmark}
    (hf : fs.map LandmarkFields.clamp = es.map some) (hall : (known ++ es).Pairwise landmarkBefore)
    (hroom : listed + i + fs.length ≤ 64) :
    checkLandmarks listed known i (fs ++ gs) = (checkLandmarks listed (known ++ es) (i + fs.length) gs).map (es ++ ·) := by
  induction fs generalizing known es i with
  | nil =>
    obtain rfl : es = [] := by simpa using hf.symm
    rw [List.nil_append, List.append_nil]
    cases checkLandmarks listed known (i + 0) gs <;> rfl
  | cons f fs ih =>
    cases es with
    | nil => cases hf
    | cons e es =>
      obtain ⟨hfe, hrest⟩ := List.cons.inj hf
      have hlen : (f :: fs).length = fs.length + 1 := rfl
      have hsplit : known ++ e :: es = (known ++ [e]) ++ es := by simp
      rw [hsplit] at hall ⊢
      rw [List.cons_append, checkLandmarks_pass hfe (List.pairwise_append.mp hall).1 (by omega), ih hrest hall (by omega)]
      have hi : i + 1 + fs.length = i + (f :: fs).length := by omega
      rw [hi]
      cases checkLandmarks listed (known ++ [e] ++ es) (i + (f :: fs).length) gs <;> rfl

/-! ### O30: loading, clearing and retiring -/

theorem exec_addLandmarks {s : State} {f : Frame} {rest : List Frame} {qs : List LandmarkFields}
    (h : requestWaits s .addLandmarks (2 + 12 * qs.length) f rest) :
    exec (.addLandmarks qs) s = .next (addLandmarks qs f (s.taken rest)) :=
  congrArg Host.Outcome.next (request_taken h _)

theorem retire_eq (l : LandmarkList) (x : Int) : l.retire x =
    { l with entries := l.entries.filter (fun e => decide (x ≤ e.start + e.length + l.retention)) } := by
  have h := foldl_retire [x] l
  simpa using h

/-- Settles O30: entries that all pass are appended, and every retirement keeps what the frontier has not passed. -/
theorem landmarksAreAddedClearedAndRetired : Obligations.LandmarksAreAddedClearedAndRetired := by
  refine ⟨fun s f rest qs es left hw hlo hhi hclamp hroom _ hall hleft => ?_, fun s f rest d n hw hn => ?_, fun s x rest hx => ?_,
    fun q => ⟨landmarkClamp_eq_none q, fun e he => landmarkClamp_eq_some he⟩⟩
  · have hcheck : checkLandmarks s.landmarks.entries.length s.landmarks.entries 0 qs = .ok es := by
      have h := checkLandmarks_passes (i := 0) (gs := []) hclamp hall (by omega)
      rw [List.append_nil] at h
      rw [h]
      show Except.ok (es ++ []) = _
      rw [List.append_nil]
    have hcount : ¬ (qs.length < 1 ∨ 8 < qs.length) := by omega
    rw [exec_addLandmarks hw, addLandmarks]
    simp only [taken_landmarks, taken_travel, if_neg hcount, hcheck, retire_eq, ← hleft, doneCode]
    rfl
  · have hexec : exec (.clearLandmarks d) s = .next (clearLandmarks d f (s.taken rest)) :=
      congrArg Host.Outcome.next (request_taken hw _)
    have hclamp : clampNat 0 500000 d = n := hn.symm
    rw [hexec, clearLandmarks, hclamp, doneCode_eq within_iff]
    rfl
  · show Host.Outcome.next (frontierRetirement s) = _
    rw [frontierRetirement, hx]
    simp only [retire_eq]
    rfl

/-! ### O31: refusals -/

/-- Settles O31: the checks before the failing entry pass, and its own decides the code. -/
theorem addLandmarksIsRefused : Obligations.AddLandmarksIsRefused := by
  refine ⟨fun s f rest qs hw => ⟨fun hcount => ?_, fun k q es known hlen hq hclamp hknown _ hknown64 hall => ?_⟩, fun q =>
    ⟨landmarkClamp_eq_none q, fun e he => ?_⟩⟩
  · have hbad : qs.length < 1 ∨ 8 < qs.length := by
      rcases hcount with rfl | h
      · exact .inl (by decide)
      · exact .inr h
    rw [answersOnly, exec_addLandmarks hw, addLandmarks]
    simp only [if_pos hbad]
    rfl
  · have hk := (List.getElem?_eq_some_iff.mp hq).1
    have htake : (qs.take k).length = k := by simp; omega
    have hes : es.length = k := by
      have := congrArg List.length hclamp
      simp only [List.length_map, htake] at this
      exact this.symm
    have hsplit : qs = qs.take k ++ q :: qs.drop (k + 1) := by
      have hdrop := List.drop_eq_getElem_cons hk
      rw [(List.getElem?_eq_some_iff.mp hq).2] at hdrop
      rw [← hdrop, List.take_append_drop]
    have hskip := checkLandmarks_passes (listed := s.landmarks.entries.length) (i := 0) (gs := q :: qs.drop (k + 1)) hclamp
      (hknown ▸ hall) (by rw [hknown, List.length_append] at hknown64; omega)
    rw [← hsplit, ← hknown, htake, Nat.zero_add] at hskip
    have hcount : ¬ (qs.length < 1 ∨ 8 < qs.length) := by omega
    have hanswer : ∀ code, checkLandmarks s.landmarks.entries.length known k (q :: qs.drop (k + 1)) = .error (code, k) →
        answersOnly (.addLandmarks qs) s f rest code k (.landmarkCount s.landmarks.entries.length) := by
      intro code hcode
      rw [hcode] at hskip
      rw [answersOnly, exec_addLandmarks hw, addLandmarks]
      simp only [taken_landmarks, if_neg hcount, hskip]
      rfl
    refine ⟨fun hq => hanswer _ ?_, fun e he => ⟨fun ⟨l, hl, hlt⟩ => hanswer _ ?_, fun hle ⟨a, ha, hsame⟩ => hanswer _ ?_,
      fun hle hno hfull => hanswer _ ?_⟩⟩
    all_goals rw [checkLandmarks]
    · simp only [hq]
    · simp only [he, hl, Option.any_some, decide_eq_true hlt, if_true]
    · have horder : known.getLast?.any (fun p => decide (e.start < p.start)) = false := by
        cases hl : known.getLast? with
        | none => rfl
        | some l => simpa using hle l hl
      have hdup : known.any e.sameAs = true := List.any_eq_true.mpr ⟨a, ha, Landmark.sameAs_iff.mpr
        ⟨hsame.1.symm, hsame.2.1.symm, hsame.2.2.symm⟩⟩
      simp only [he, horder, hdup, Bool.false_eq_true, if_false, if_true]
    · have horder : known.getLast?.any (fun p => decide (e.start < p.start)) = false := by
        cases hl : known.getLast? with
        | none => rfl
        | some l => simpa using hle l hl
      have hdup : known.any e.sameAs = false := by
        rw [List.any_eq_false]
        intro a ha hsame
        obtain ⟨h1, h2, h3⟩ := Landmark.sameAs_iff.mp hsame
        exact hno a ha ⟨h1.symm, h2.symm, h3.symm⟩
      have hroom : s.landmarks.entries.length + k = Config.landmarkCapacity := by
        rw [hknown, List.length_append, hes] at hfull
        exact hfull
      simp only [he, horder, hdup, if_pos hroom, Bool.false_eq_true, if_false]
  · obtain ⟨h1, -, h3, h4, -⟩ := landmarkClamp_eq_some he
    exact ⟨h1, h3, h4⟩

/-! ### O32: the queries -/

/-- Settles O32: an entry within the window is one whose extent comes that near to the span. -/
theorem theLandmarkQueries : Obligations.TheLandmarkQueries := by
  intro l r
  refine ⟨fun pp => ?_, fun a b k w hab => ?_, fun x => ?_⟩
  · simp only [LandmarkList.blanks, List.any_eq_true, Bool.and_eq_true, decide_eq_true_eq, and_assoc]
    rfl
  · have hgap : ∀ e : Landmark, e.gap a b ≤ w ↔
        ∃ p q : Int, e.start ≤ p ∧ p ≤ e.start + e.length ∧ a ≤ q ∧ q ≤ b ∧ (p - q).natAbs ≤ w := fun e => by
      have hdef : e.gap a b = max 0 (max (e.start - b) (a - (e.start + e.length))) := rfl
      rw [hdef]
      constructor
      · intro h
        rcases lt_or_ge b e.start with h1 | h1
        · exact ⟨e.start, b, le_rfl, by omega, hab, le_rfl, by omega⟩
        · rcases lt_or_ge (e.start + e.length) a with h2 | h2
          · exact ⟨e.start + e.length, a, by omega, le_rfl, le_rfl, hab, by omega⟩
          · exact ⟨max e.start a, max e.start a, by omega, by omega, by omega, by omega, by omega⟩
      · rintro ⟨p, q, h1, h2, h3, h4, h5⟩
        omega
    simp only [LandmarkList.present, List.any_eq_true, Bool.and_eq_true, beq_iff_eq, decide_eq_true_eq, hgap, and_assoc]
  · cases x <;> cases r <;> decide

end Sys2Proof.Machine
end

section
/-! PROOFS. A change of car position at a marking unit (O33), the signal router's inputs (O35) and its routes (O37). -/

namespace Sys2Proof.Machine

/-! ### O33: marks fired -/

/-- The FIRED record of one mark, with the number of marks left behind it. -/
def firedItem (r : Rail) (gun : Int) (m : Mark) (left : Nat) : LineItem :=
  .offer (.mark ⟨r, .fired, m.finding, m.target, none, m.merged, some gun, left⟩)

theorem fireMark_eq (r : Rail) (gun : Int) (m : Mark) (rest : List Mark) (s : State) : fireMark r gun m rest s =
    { s with
      marking := s.marking.set r { s.marking.get r with queue := rest, sprayEnd := some (s.sprayUntil r) }
      line := s.line.hear [firedItem r gun m rest.length]
      router := s.router.hear (if (s.marking.get r).sprayEnd.isSome then [] else [.gun r true]) } := by
  unfold fireMark
  simp only [setSpray_eq]
  have hchange : onChange (s.marking.get r).isSpraying true (LevelHandover.gun r true) =
      if (s.marking.get r).sprayEnd.isSome then [] else [.gun r true] := by
    unfold onChange MarkingUnit.isSpraying
    rfl
  rw [← hchange]
  cases r <;> rfl

theorem fireReached_stops {r : Rail} {gun : Int} {kept : List Mark} (h : ∀ k, kept.head? = some k → gun < k.target) (s : State) :
    fireReached r gun kept s = s := by
  cases kept with
  | nil => rfl
  | cons k rest => rw [fireReached, if_neg (not_le.mpr (h k rfl))]

/-- With the valve open until one spray duration from now, a row of marks only leaves the queue. -/
theorem fireReached_spraying {r : Rail} {gun : Int} {fired kept : List Mark} (hfired : ∀ k ∈ fired, k.target ≤ gun)
    (hkept : ∀ k, kept.head? = some k → gun < k.target) {s : State} (hqueue : (s.marking.get r).queue = fired ++ kept)
    (hspray : (s.marking.get r).sprayEnd = some (s.sprayUntil r)) (n : Nat) :
    fireReached r gun (fired ++ kept) s =
      { s with
        marking := s.marking.set r { s.marking.get r with queue := kept }
        line := s.line.hear ((fired.zipIdx n).map (fun x => firedItem r gun x.1 ((fired ++ kept).length + n - 1 - x.2))) } := by
  induction fired generalizing s n with
  | nil =>
    have hunit : ({ s.marking.get r with queue := kept } : MarkingUnit) = s.marking.get r := by
      rw [← show (s.marking.get r).queue = kept from hqueue]
    rw [List.nil_append, fireReached_stops hkept, hunit]
    simp
  | cons m fired ih =>
    obtain ⟨hm, hfired⟩ := List.forall_mem_cons.mp hfired
    have htail : (fired ++ kept).length + 1 + n = (fired ++ kept).length + (n + 1) := by omega
    rw [List.cons_append, fireReached, if_pos hm, fireMark_eq, hspray]
    rw [ih hfired (s := { s with
      marking := s.marking.set r { s.marking.get r with queue := fired ++ kept, sprayEnd := some (s.sprayUntil r) }
      line := s.line.hear [firedItem r gun m (fired ++ kept).length]
      router := s.router.hear (if (some (s.sprayUntil r)).isSome then [] else [.gun r true]) }) (by simp) (by simp; rfl) (n + 1)]
    have hopen : (s.marking.get r).sprayEnd.isSome = true := by rw [hspray]; rfl
    have hhead' : (fired ++ kept).length + (n + 1) - 1 - n = (fired ++ kept).length := by omega
    simp only [List.zipIdx_cons, List.map_cons, List.length_cons, List.cons_append, htail, hhead', hear_hear, List.nil_append,
      Rails.set_set, Rails.get_set_same, hopen, if_true, Router.hear_nil, ← hspray]

/-- A row of marks fired: the valve opens with the first, and the rest leave the queue behind it. -/
theorem fireReached_eq {r : Rail} {gun : Int} {fired kept : List Mark} (hne : fired ≠ []) (hfired : ∀ k ∈ fired, k.target ≤ gun)
    (hkept : ∀ k, kept.head? = some k → gun < k.target) (s : State) :
    fireReached r gun (fired ++ kept) s =
      { s with
        marking := s.marking.set r { s.marking.get r with queue := kept, sprayEnd := some (s.sprayUntil r) }
        line := s.line.hear (fired.zipIdx.map (fun x => firedItem r gun x.1 ((fired ++ kept).length - 1 - x.2)))
        router := s.router.hear (if (s.marking.get r).sprayEnd.isSome then [] else [.gun r true]) } := by
  cases fired with
  | nil => exact absurd rfl hne
  | cons m fired =>
    obtain ⟨hm, hfired⟩ := List.forall_mem_cons.mp hfired
    rw [List.cons_append, fireReached, if_pos hm, fireMark_eq,
      fireReached_spraying hfired hkept (by simp) (by simp; rfl) 1]
    simp only [List.zipIdx_cons, List.map_cons, List.length_cons, hear_hear, List.singleton_append, Rails.set_set, Rails.get_set_same,
      Nat.zero_add, Nat.add_sub_cancel, Nat.sub_zero]

/-- Settles O33: the gun moves, and while FORWARD the marks it has reached are fired. -/
theorem aCarPositionChangeFiresMarks : Obligations.ACarPositionChangeFiresMarks := by
  intro s r m rest gun fired kept u hu hmoves hgun hqueue
  subst hu
  have hexec : exec (.carPositionChange r) s = .next
      (if m.motion = .forward then
        fireReached r gun (s.marking.get r).queue (s.setMarking r { s.marking.get r with gun := gun, moves := rest })
      else s.setMarking r { s.marking.get r with gun := gun, moves := rest }) := by
    show Host.Outcome.next (carPositionChange r s) = _
    rw [carPositionChange, hmoves]
    simp only [← hgun, State.setMarking_marking, Rails.get_set_same]
  rw [hexec]
  refine ⟨fun hmotion hfired hkept hne => ?_, fun h => ?_⟩
  · rw [if_pos hmotion, hqueue, fireReached_eq hne hfired hkept]
    cases r <;> rfl
  · split
    · next hmotion => rw [fireReached_stops (h.resolve_left (not_not.mpr hmotion))]; rfl
    · rfl

/-! ### O35: the router's inputs -/

theorem feeds_iff (p : Pulse) (x : Source) : p.feeds x = true ↔
    (p = .finding .left ∧ (x = .findingLeft ∨ x = .findingAny)) ∨ (p = .finding .right ∧ (x = .findingRight ∨ x = .findingAny)) ∨
      (p = .skip ∧ x = .skip) := by
  cases p with
  | skip => cases x <;> simp [Pulse.feeds]
  | finding r => cases r <;> cases x <;> simp [Pulse.feeds]

/-- Settles O35: each input of the router changes what it names and nothing else. -/
theorem theRouterTakesItsInputs : Obligations.TheRouterTakesItsInputs := by
  refine ⟨fun s t => ⟨fun r ht => ?_, fun l ht => ?_⟩, fun s p rest hp => ?_, fun s h rest v hlevels hv => ?_⟩
  · have hopen : (s.marking.get r).isSpraying ≠ false := by simp [MarkingUnit.isSpraying, ht]
    show Host.Outcome.next (sprayEnd r s) = _
    rw [sprayEnd, ht, ← onChange_ne hopen]
    simp only [setSpray_eq]
    rfl
  · show Host.Outcome.next (stretchEnd l s) = _
    rw [stretchEnd, ht]
    rfl
  · show Host.Outcome.next (signalPulse s) = _
    rw [signalPulse, hp]
    simp only [feeds_iff]
    rfl
  · subst hv
    show Host.Outcome.next (signalLevelChange s) = _
    rw [signalLevelChange, hlevels]
    cases h <;> rfl

/-! ### O37: SET_SIGNALS -/

theorem routeClamp_eq_none (x : RouteFields) : x.clamp = none ↔ 14 ≤ x.source ∨ 2 ≤ x.invert := by
  have hs : sourceOf x.source = none ↔ 14 ≤ x.source := by rw [sourceOf_eq]; simp
  rw [← hs, ← onOffOf_eq_none]
  unfold RouteFields.clamp
  cases sourceOf x.source <;> cases onOffOf x.invert <;> simp

theorem routeClamp_eq_some {x : RouteFields} {y : Route} (h : x.clamp = some y) :
    [Source.off, .on, .uncoupledLeft, .uncoupledRight, .allCoupled, .sprayLeft, .sprayRight, .overspeed, .hostSilent, .running,
        .findingLeft, .findingRight, .findingAny, .skip][x.source]? = some y.source ∧
      y.invert = decide (x.invert = 0) ∧ (y.stretch : Int) = max 1 (min 1000 x.stretch) := by
  unfold RouteFields.clamp at h
  split at h
  · next source invert hsource hinvert =>
    cases h
    refine ⟨(sourceOf_eq _).symm.trans hsource, onOff_of_some hinvert, ?_⟩
    show ((clampNat 1 1000 x.stretch : Nat) : Int) = _
    unfold clampNat clampInt
    omega
  · cases h

theorem exec_setSignals {s : State} {f : Frame} {rest : List Frame} (h : requestWaits s .setSignals 18 f rest) (q : SignalFields) :
    exec (.setSignals q) s = .next (setSignals q f (s.taken rest)) :=
  congrArg Host.Outcome.next (request_taken h _)

theorem applySignals_eq (new : SignalSettings) (s : State) : applySignals new s =
    { s with
      setup := { s.setup with signals := new }
      router :=
        { s.router with
          stretchEnd := Vector.ofFn (fun l =>
            if s.setup.signals.routes[l].source = new.routes[l].source then s.router.stretchEnd[l] else none) } } := rfl

theorem signalClamp_eq_none {q : SignalFields} {x : RouteFields} (hx : x ∈ q.routes) (h : x.clamp = none) : q.clamp = none := by
  unfold SignalFields.clamp
  split
  · next a b c d ha hb hc hd =>
    have hall : ∀ y ∈ q.routes, y.clamp ≠ none := by simp [SignalFields.routes, ha, hb, hc, hd]
    exact absurd h (hall x hx)
  · rfl

theorem failingLine_eq {q : SignalFields} {k : Nat} (hbefore : ∀ j, j < k → ∃ x, (q.routes.map RouteFields.clamp)[j]? = some (some x))
    {x : RouteFields} (hx : q.routes[k]? = some x) (h : x.clamp = none) : q.failingLine = k + 1 := by
  obtain ⟨hlt, hget⟩ := List.getElem?_eq_some_iff.mp hx
  have hfind : q.routes.findIdx (fun r => r.clamp.isNone) = k := by
    refine (List.findIdx_eq hlt).mpr ⟨by rw [hget, h]; rfl, fun j hj => ?_⟩
    obtain ⟨y, hy⟩ := hbefore j hj
    rw [List.getElem?_map, List.getElem?_eq_getElem (hj.trans hlt)] at hy
    rw [Option.some.inj hy]
    rfl
  rw [SignalFields.failingLine, hfind]

theorem signalFields_fits (q : SignalFields) : q.fits =
    ([q.line1.stretch, q.line2.stretch, q.line3.stretch, q.line4.stretch].all (fun v => decide (1 ≤ v ∧ v ≤ 1000)) &&
      decide (0 ≤ q.speedLimit ∧ q.speedLimit ≤ 2000)) := by
  simp [SignalFields.fits, SignalFields.routes, RouteFields.fits, within, Bool.decide_and]

/-- Settles O37: the first line that fails decides, then BUSY; taken, every route is replaced. -/
theorem setSignalsReplacesTheRoutes : Obligations.SetSignalsReplacesTheRoutes := by
  refine ⟨fun s q f rest hw => ⟨fun k hk hbefore hfail => ?_, fun a b c d ha hb hc hd => ⟨fun hbusy => ?_, fun new hstore hnew => ?_⟩⟩,
    fun x => ⟨routeClamp_eq_none x, fun y hy => routeClamp_eq_some hy⟩⟩
  · obtain ⟨x, hx, hxnone⟩ : ∃ x, q.routes[k]? = some x ∧ x.clamp = none := by
      rw [List.getElem?_map, Option.map_eq_some_iff] at hfail
      exact hfail
    have hline : q.failingLine = k + 1 := failingLine_eq hbefore hx hxnone
    have hnone : q.clamp = none := signalClamp_eq_none (List.mem_of_getElem? hx) hxnone
    rw [answersOnly, exec_setSignals hw, setSignals, hnone]
    simp only [hline]
    rfl
  · have hclamp : q.clamp = some ⟨#v[a, b, c, d], clampNat 0 2000 q.speedLimit⟩ := by simp [SignalFields.clamp, ha, hb, hc, hd]
    rw [answersOnly, exec_setSignals hw, setSignals, hclamp]
    simp [writing_of_ne hbusy]
  · have hclamp : q.clamp = some new := by
      rw [hnew]
      simp only [SignalFields.clamp, ha, hb, hc, hd]
      rfl
    rw [exec_setSignals hw, setSignals, hclamp]
    simp only [taken_writing, writing_of_none hstore, Bool.false_eq_true, if_false, applySignals_eq, signalFields_fits, doneCode]
    rfl

end Sys2Proof.Machine
end

section
/-! PROOFS. The operations of the run controller: CAL_CHANNEL (O38), VERIFY (O39). -/

namespace Sys2Proof.Machine

/-! ### A time-triggered firing -/

theorem startOperationFiring_eq (r : Rail) (ch : Channel) (s : State) : startOperationFiring r ch s =
    { s with
      firing := s.firing.set r { s.firing.get r with operationFlight := some (s.operationFlightAt r ch s.now) }
      run := { s.run with nextFiring := s.now + 100000 } } := by
  have hend : s.now + s.firingTicks r (s.channel r ch).listen =
      s.now + (s.channel r ch).listen + (s.setup.rails.get r).recovery * 100 := (Nat.add_assoc _ _ _).symm
  simp only [startOperationFiring, hend]
  rfl

/-- The run controller and a firing unit taken into an operation that starts from STOPPED. -/
theorem operation_begins {s : State} (hrun : s.run.state = .stopped) (r : Rail) (ch : Channel) (o : Operation) (st : RunState)
    (hst : st ≠ .stopped) (m : TimeMode) (echo : Option TestEcho) :
    startOperationFiring r ch (setMode r m echo ((s.setRun { s.run with operation := some o }).setRunState st)) =
      { s with
        run := { s.run with state := st, operation := some o, nextFiring := s.now + 100000 }
        firing := s.firing.set r
          { s.firing.get r with
            mode := m, generators := Vector.replicate 4 echo, operationFlight := some (s.operationFlightAt r ch s.now) }
        line := s.line.hear [.change .runState]
        router := s.router.hear [.runState st] } := by
  have hne : (s.setRun { s.run with operation := some o }).run.state ≠ st := by
    show s.run.state ≠ st
    rw [hrun]; exact Ne.symm hst
  rw [setRunState_eq, onChange_ne hne, onChange_ne hne, startOperationFiring_eq]
  cases r <;> rfl

/-! ### O38: CAL_CHANNEL -/

theorem exec_calChannel {s : State} {f : Frame} {rest : List Frame} (h : requestWaits s .calChannel 4 f rest) (q : CalFields) :
    exec (.calChannel q) s = .next (calChannel q f (s.taken rest)) :=
  congrArg Host.Outcome.next (request_taken h _)

theorem gateOf_eq_none {n : Nat} : gateOf n = none ↔ n = 0 ∨ 3 < n := by
  unfold gateOf indexBelow
  split
  · simp_all
  · split
    · simp; omega
    · simp; omega

theorem gateOf_succ (g : Gate) : gateOf (g.val + 1) = some g := by
  unfold gateOf indexBelow
  simp

/-- RANGE where a field of the head or the step names nothing. -/
theorem calChannel_range {q : CalFields} {f : Frame} (s : State)
    (h : f.rail = none ∨ f.channel = none ∨ q.gate = 0 ∨ 3 < q.gate ∨ q.step = 0 ∨ 2 < q.step) :
    calChannel q f s = s.reply f .range 0 .headOnly := by
  unfold calChannel
  dsimp only
  split
  · next r ch g hr hch hg =>
    have hgate : ¬(q.gate = 0 ∨ 3 < q.gate) := fun k => by rw [gateOf_eq_none.mpr k] at hg; cases hg
    have hstep : decide (q.step = 1 ∨ q.step = 2) = false := by
      rw [hr, hch] at h
      simp only [reduceCtorEq, false_or] at h
      simp only [decide_eq_false_iff_not]
      omega
    rw [hstep]
    split
    · next h => cases h
    · rfl
  · rfl

theorem calGate_eq_none {x : ChannelRecord} {g : Gate} (h : x.gates[g] = none ∨ ∃ y, x.gates[g] = some y ∧ y.mode = .absent) :
    calGate x g = none := by
  unfold calGate
  obtain hnone | ⟨y, hy, hmode⟩ := h
  · rw [hnone]
  · rw [hy]; exact if_pos hmode

theorem calGate_eq_some {x : ChannelRecord} {g : Gate} {y : FlawGate} (hy : x.gates[g] = some y) (hmode : y.mode ≠ .absent) :
    calGate x g = some y := by
  unfold calGate
  rw [hy]; exact if_neg hmode

/-- CAL_CHANNEL of a rail, a channel, a gate and a step that exist, where the gate cannot be calibrated. -/
theorem calChannel_noGate {q : CalFields} {f : Frame} {s : State} {r : Rail} {ch : Channel} {g : Gate} (hr : f.rail = some r)
    (hch : f.channel = some ch) (hg : q.gate = g.val + 1) (hgate : calGate (s.channel r ch) g = none) :
    calChannel q f s = s.reply f .range 0 .headOnly := by
  simp only [calChannel, hr, hch, hg, gateOf_succ, hgate]

/-- CAL_CHANNEL of a gate that can be calibrated: the first check that fails answers; else the step begins. -/
theorem calChannel_eq {q : CalFields} {f : Frame} {s : State} {r : Rail} {ch : Channel} {g : Gate} {y : FlawGate}
    (hr : f.rail = some r) (hch : f.channel = some ch) (hg : q.gate = g.val + 1) (hstep : q.step = 1 ∨ q.step = 2)
    (hgate : calGate (s.channel r ch) g = some y) {o : Option ReplyCode} {depth : Nat} (hdepth : clampNat 0 2500 q.depth = depth)
    (ho : checkCal r ch g (q.step == 2) depth y s = o) :
    calChannel q f s =
      o.elim
        ((beginCal ⟨r, ch, g, q.step == 2, depth, 0, none⟩ s).reply f (doneCode (within 0 2500 q.depth)) 0 (.calDepth depth))
        (fun code => s.reply f code 0 .headOnly) := by
  subst hdepth ho
  unfold calChannel
  simp only [hr, hch, hg, gateOf_succ, hgate, decide_eq_true hstep]
  cases checkCal r ch g (q.step == 2) (clampNat 0 2500 q.depth) y s <;> rfl

theorem serves_iff (p : CalPoint) (r : Rail) (ch : Channel) (g : Gate) (depth : Nat) :
    p.serves r ch g depth = true ↔ p.rail = r ∧ p.channel = ch ∧ p.gate = g ∧ p.depth < depth := by
  simp [CalPoint.serves, and_assoc]

/-- Settles O38: RANGE for what names nothing, then BUSY, STATE, CONFLICT and ORDER; taken, the step begins and its first firing
starts. -/
theorem calChannelBeginsAStep : Obligations.CalChannelBeginsAStep := by
  intro s q f rest hw
  refine ⟨fun h => (exec_calChannel hw q).trans (congrArg _ (calChannel_range _ h)), fun r ch g hr hch hg hstep => ⟨fun hgate => ?_,
    fun y depth hy hmode hdepth => ?_⟩⟩
  · exact (exec_calChannel hw q).trans
      (congrArg _ (calChannel_noGate hr hch hg (calGate_eq_none (x := (s.taken rest).channel r ch) hgate)))
  have hgate : calGate ((s.taken rest).channel r ch) g = some y := calGate_eq_some hy hmode
  have hclamp : clampNat 0 2500 q.depth = depth := hdepth.symm
  have hexec {o : Option ReplyCode} (ho : checkCal r ch g (q.step == 2) depth y (s.taken rest) = o) :=
    (exec_calChannel hw q).trans (congrArg Host.Outcome.next (calChannel_eq hr hch hg hstep hgate hclamp ho))
  have hcheck : checkCal r ch g (q.step == 2) depth y (s.taken rest) =
      if s.writing then some .busy
      else if !s.stopped then some .state
      else if (s.channel r ch).listen ≤ (s.channel r ch).interfaceStart ∨ (s.channel r ch).listen ≤ y.start then some .conflict
      else if q.step == 2 && !s.run.pendingPoint.any (fun p => p.serves r ch g depth) then some .order
      else none := rfl
  refine ⟨fun hbusy => hexec (o := some .busy) ?_, fun hstore hstate => hexec (o := some .state) ?_,
    fun hstore hstop hwin => hexec (o := some .conflict) ?_, fun hstore hstop hwin1 hwin2 => ⟨fun htwo hnone => hexec (o := some .order) ?_,
      fun hok => (hexec (o := none) ?_).trans ?_⟩⟩
  · rw [hcheck, writing_of_ne hbusy, if_pos rfl]
  · simp [hcheck, writing_of_none hstore, stopped_of_ne hstate]
  · simp [hcheck, writing_of_none hstore, stopped_of_eq hstop, hwin]
  · have hserves : s.run.pendingPoint.any (fun p => p.serves r ch g depth) = false := by
      rw [Option.any_eq_false]
      exact fun p hp => Bool.eq_false_iff.mpr (fun k => hnone p hp ((serves_iff p r ch g depth).mp k))
    rw [hcheck]
    simp [writing_of_none hstore, stopped_of_eq hstop, hserves, htwo, hwin1, hwin2]
  · have hserves : (q.step == 2 && !s.run.pendingPoint.any (fun p => p.serves r ch g depth)) = false := by
      obtain hone | ⟨p, hp, hp'⟩ := hok
      · rw [hone]; rfl
      · simp [hp, (serves_iff p r ch g depth).mpr hp']
    rw [hcheck, hserves]
    simp [writing_of_none hstore, stopped_of_eq hstop, hwin1, hwin2]
  · have hstop' : (s.taken rest).run.state = .stopped := hstop
    have hcode : doneCode (within 0 2500 q.depth) = if 0 ≤ q.depth ∧ q.depth ≤ 2500 then .ok else .clamped := doneCode_eq within_iff
    show Host.Outcome.next ((beginCal _ (s.taken rest)).reply f _ 0 _) = _
    rw [beginCal, operation_begins hstop' _ _ _ _ (by decide), hcode]
    rfl

/-! ### O39: VERIFY -/

theorem exec_verify {s : State} {f : Frame} {rest : List Frame} (h : requestWaits s .verify 8 f rest) (q : VerifyFields) :
    exec (.verify q) s = .next (verify q f (s.taken rest)) :=
  congrArg Host.Outcome.next (request_taken h _)

theorem dedup_reverse_append_singleton (l : List Channel) (ch : Channel) :
    (l ++ [ch]).reverse.dedup.reverse =
      if l.reverse.dedup.reverse.contains ch then l.reverse.dedup.reverse else l.reverse.dedup.reverse ++ [ch] := by
  by_cases h : ch ∈ l
  · have h' : ch ∈ l.reverse := List.mem_reverse.mpr h
    simp [List.dedup_cons_of_mem h', h]
  · have h' : ch ∉ l.reverse := fun k => h (List.mem_reverse.mp k)
    simp [List.dedup_cons_of_notMem h', h]

/-- The channels in order of first appearance: the plan's channels without what repeats an earlier one. -/
theorem firstAppearance_eq (p : Plan) : firstAppearance p = p.flatten.reverse.dedup.reverse := by
  unfold firstAppearance
  induction p.flatten using List.reverseRecOn with
  | nil => rfl
  | append_singleton l ch ih => rw [List.foldl_append, ih, dedup_reverse_append_singleton]; rfl

theorem verifyFields_fits (q : VerifyFields) : q.fits = true ↔
    0 ≤ q.d1 ∧ q.d1 ≤ 8000 ∧ 0 ≤ q.a1 ∧ q.a1 ≤ 4095 ∧ 0 ≤ q.d2 ∧ q.d2 ≤ 8000 ∧ 0 ≤ q.a2 ∧ q.a2 ≤ 4095 := by
  simp [VerifyFields.fits, within_iff, and_assoc]

/-- Settles O39: RANGE, BUSY, STATE or CONFLICT for an empty plan; taken, the verification begins with the plan's first channel. -/
theorem verifyBeginsAVerification : Obligations.VerifyBeginsAVerification := by
  intro s q f rest hw
  refine ⟨fun hr => ?_, fun r e hr he => ⟨fun hbusy => ?_, fun hstore hstate => ?_, fun hstore hstop hempty => ?_,
    fun order ch more hstore hstop hplan horder hfirst => ?_⟩⟩
  · rw [answersOnly, exec_verify hw, verify, hr]
    rfl
  · rw [answersOnly, exec_verify hw, verify, hr]
    simp [writing_of_ne hbusy]
  · rw [answersOnly, exec_verify hw, verify, hr]
    simp [writing_of_none hstore, stopped_of_ne hstate]
  · rw [answersOnly, exec_verify hw, verify, hr]
    simp [writing_of_none hstore, stopped_of_eq hstop, hempty]
  · have hclamp : q.clamp = e := he.symm
    have hstop' : (s.taken rest).run.state = .stopped := hstop
    have hlist : firstAppearance ((s.taken rest).setup.plans.get r) = order := by rw [horder, firstAppearance_eq]; rfl
    have hnonempty : (s.setup.plans.get r).isEmpty = false := List.isEmpty_eq_false_iff.mpr hplan
    have hbegin : beginVerify r e (s.taken rest) = startOperationFiring r ch (setMode r .verify (some e)
        (((s.taken rest).setRun { (s.taken rest).run with operation := some (.verification ⟨r, e, order, []⟩) }).setRunState
          .verifying)) := by
      simp only [beginVerify, hlist, hfirst]
    rw [exec_verify hw, verify, hr]
    simp only [taken_writing, taken_stopped, taken_setup, writing_of_none hstore, stopped_of_eq hstop, hnonempty, Bool.not_true,
      Bool.false_eq_true, if_false, hclamp, hbegin, operation_begins hstop' _ _ _ _ (by decide : RunState.verifying ≠ .stopped),
      doneCode_eq (verifyFields_fits q)]
    rfl

end Sys2Proof.Machine
end

section
/-! PROOFS. Firings of an operation: a calibration firing completes (O40); the next firing starts, a verification firing completes,
the signature (O41). -/

namespace Sys2Proof.Machine

/-! ### O40: a calibration firing completes -/

/-- An operation ends with its record, whatever the firing's completion changed before. -/
theorem endOperation_eq {t : State} (hrun : t.run.state ≠ .stopped) (r : Rail) (x : Record) :
    endOperation r (t.offer x) =
      { t with
        firing := t.firing.set r
          { t.firing.get r with mode := .off, generators := Vector.replicate 4 none, operationFlight := none }
        run := { t.run with operation := none, state := .stopped }
        line := t.line.hear [.offer x, .change .runState]
        router := t.router.hear [.runState .stopped] } := by
  unfold endOperation
  rw [setRunState_eq, onChange_ne (b := RunState.stopped) (by exact hrun), onChange_ne (by exact hrun)]
  have hline : (t.line.hear [.offer x]).hear [.change .runState] = t.line.hear [.offer x, .change .runState] := hear_hear ..
  rw [← hline]
  rfl

/-- The state in which a firing of an operation has completed: its time has come and nothing is in flight. -/
def State.landed (s : State) (r : Rail) (endTime : Nat) : State :=
  (s.advanceTo endTime).setFiring r { s.firing.get r with operationFlight := none }

theorem endOperation_landed {s : State} (hrun : s.run.state ≠ .stopped) (r : Rail) (endTime : Nat) (x : Record) :
    endOperation r ((s.landed r endTime).offer x) = s.afterOperation r endTime x := by
  rw [endOperation_eq (by exact hrun)]
  cases r <;> rfl

theorem betterHit_hit {best : Option Hit} {h : Hit} (hbetter : best = none ∨ ∃ b, best = some b ∧ b.amplitude < h.amplitude) :
    betterHit best (.hit h) = some h := by
  obtain rfl | ⟨b, rfl, hlt⟩ := hbetter
  · rfl
  · exact if_pos hlt

theorem betterHit_noHit {o : GateOutcome} (ho : ∀ h, o ≠ .hit h) (best : Option Hit) : betterHit best o = best := by
  cases o with
  | hit h => exact absurd rfl (ho h)
  | absentGate => rfl
  | notEvaluated => rfl
  | noHit => rfl

/-- The hit that three properties of a better hit name. -/
theorem betterHit_eq {best new : Option Hit} {o : GateOutcome}
    (hbetter : ∀ h, o = .hit h → (best = none ∨ ∃ b, best = some b ∧ b.amplitude < h.amplitude) → new = some h)
    (hworse : ∀ h b, o = .hit h → best = some b → h.amplitude ≤ b.amplitude → new = best)
    (hnone : (∀ h, o ≠ .hit h) → new = best) : betterHit best o = new := by
  by_cases ho : ∀ h, o ≠ .hit h
  · rw [betterHit_noHit ho, hnone ho]
  simp only [not_forall, not_not] at ho
  obtain ⟨h, rfl⟩ := ho
  by_cases hb : best = none ∨ ∃ b, best = some b ∧ b.amplitude < h.amplitude
  · rw [betterHit_hit hb, hbetter h rfl hb]
  · cases best with
    | none => exact absurd (.inl rfl) hb
    | some b =>
      have hle : ¬ b.amplitude < h.amplitude := fun k => hb (.inr ⟨b, rfl, k⟩)
      rw [hworse h b rfl rfl (Nat.le_of_not_lt hle)]
      exact if_neg hle

section Completion

variable {s : State} {signal : List Nat} {c d : CalStep} {f : OperationFlight}
  (hop : s.run.operation = some (.calibration c)) (hf : (s.firing.get c.rail).operationFlight = some f)
  (hd : d = { c with
    done := c.done + 1
    best := betterHit c.best (gateResult f.fired.record (recorded f.fired.record.listen signal)).outcomes[c.gate] })
include hop hf hd

theorem calFiringCompletion_more (hmore : d.done < 16) : calFiringCompletion signal s =
    (s.landed c.rail f.endTime).setRun { s.run with operation := some (.calibration d) } := by
  subst hd
  unfold calFiringCompletion
  simp only [hop, hf]
  exact if_pos hmore

theorem calFiringCompletion_waits (hlast : d.done = 16) (hwait : s.line.inbox ≠ []) : calFiringCompletion signal s = s := by
  subst hd
  unfold calFiringCompletion
  simp only [hop, hf]
  rw [if_neg (by show ¬ c.done + 1 < 16; simp only at hlast; omega), if_neg (by simpa using hwait)]

theorem calFiringCompletion_last (hlast : d.done = 16) (hempty : s.line.inbox = []) :
    calFiringCompletion signal s = endCal d (s.landed c.rail f.endTime) := by
  subst hd
  unfold calFiringCompletion
  simp only [hop, hf]
  rw [if_neg (by show ¬ c.done + 1 < 16; simp only at hlast; omega), if_pos (by simp [hempty])]
  rfl

end Completion

/-- The record offered when a step has had its sixteen firings. -/
theorem calRecord_eq {s : State} {c : CalStep} {x : ChannelRecord} (hdone : c.done = 16) (hx : s.channel c.rail c.channel = x)
    {first : Option CalPoint} {point : Option (Nat × Nat)}
    (hfirst : (if c.second then first.map (fun p => (p.depth, p.time)) else none) = point) (result : CalResult)
    (best : Option Hit) : calRecord s c result best first = calResultOf c x result best point := by
  subst hx hfirst
  simp only [calRecord, hdone]
  rfl

theorem calOutcome_order {p : CalPoint} {depth : Nat} {h : Hit} (hclose : h.time < p.time + 16) :
    calOutcome p depth (some h) = (.order, none) := if_pos hclose

section Slope

variable {p : CalPoint} {depth : Nat} {h : Hit} {kd z : Int} (hfar : p.time + 16 ≤ h.time)
  (hkd : kd = roundDiv (((depth : Int) - p.depth) * 65536) (h.time - p.time))
  (hz : z = (p.time : Int) - roundDiv ((p.depth : Int) * 65536) kd.toNat)
include hfar hkd hz

theorem calOutcome_range (hout : kd < 1 ∨ 65535 < kd ∨ z < -512 ∨ 1023 < z) : calOutcome p depth (some h) = (.range, none) := by
  subst hz hkd
  unfold calOutcome
  simp only
  rw [if_neg (by omega)]
  by_cases hk : roundDiv (((depth : Int) - p.depth) * 65536) (h.time - p.time) < 1 ∨
      65535 < roundDiv (((depth : Int) - p.depth) * 65536) (h.time - p.time)
  · exact if_pos hk
  · rw [if_neg hk, if_pos (by omega)]

theorem calOutcome_done (hk1 : 1 ≤ kd) (hk2 : kd ≤ 65535) (hz1 : -512 ≤ z) (hz2 : z ≤ 1023) :
    calOutcome p depth (some h) = (.done, some (kd.toNat, z)) := by
  subst hz hkd
  unfold calOutcome
  simp only
  rw [if_neg (by omega), if_neg (by omega), if_neg (by omega)]

end Slope

section EndOfStep

variable {s : State} {d : CalStep} {endTime : Nat} (hrun : s.run.state = .calibrating) (hdone : d.done = 16)
include hrun hdone

theorem endCal_first_noEcho (hfirst : d.second = false) (hbest : d.best = none) : endCal d (s.landed d.rail endTime) =
    s.afterOperation d.rail endTime (calResultOf d (s.channel d.rail d.channel) .noEcho none none) := by
  have hne : s.run.state ≠ .stopped := by rw [hrun]; decide
  unfold endCal
  simp only [hfirst, Bool.false_eq_true, if_false, hbest]
  rw [endOperation_landed hne, calRecord_eq hdone rfl (if_neg (by simp [hfirst]))]
  rfl

theorem endCal_first_done (hfirst : d.second = false) {h : Hit} (hbest : d.best = some h) : endCal d (s.landed d.rail endTime) =
    ({ s with run := { s.run with pendingPoint := some ⟨d.rail, d.channel, d.gate, d.depth, h.time⟩ } } : State).afterOperation
      d.rail endTime (calResultOf d (s.channel d.rail d.channel) .step1Done (some h) none) := by
  unfold endCal
  simp only [hfirst, Bool.false_eq_true, if_false, hbest]
  rw [calRecord_eq hdone rfl (if_neg (by simp [hfirst]))]
  exact endOperation_landed (s := { s with run := { s.run with pendingPoint := _ } })
    (by show s.run.state ≠ _; rw [hrun]; decide) d.rail endTime _

theorem endCal_second_plain (hsecond : d.second = true) {p : CalPoint} (hp : s.run.pendingPoint = some p) {result : CalResult}
    (hout : calOutcome p d.depth d.best = (result, none)) : endCal d (s.landed d.rail endTime) =
    ({ s with run := { s.run with pendingPoint := none } } : State).afterOperation d.rail endTime
      (calResultOf d (s.channel d.rail d.channel) result d.best (some (p.depth, p.time))) := by
  have hp' : (s.landed d.rail endTime).run.pendingPoint = some p := hp
  unfold endCal
  simp only [hsecond, if_true, hp', hout]
  rw [calRecord_eq hdone rfl (if_pos hsecond)]
  exact endOperation_landed (s := { s with run := { s.run with pendingPoint := none } })
    (by show s.run.state ≠ _; rw [hrun]; decide) d.rail endTime _

theorem endCal_second_done (hsecond : d.second = true) {p : CalPoint} (hp : s.run.pendingPoint = some p) {kd : Nat} {z : Int}
    (hout : calOutcome p d.depth d.best = (.done, some (kd, z))) {x : ChannelRecord}
    (hx : x = { s.channel d.rail d.channel with kd := kd, zero := z }) : endCal d (s.landed d.rail endTime) =
    ({ s with
        run := { s.run with pendingPoint := none }
        setup := { s.setup with
          channels := s.setup.channels.set d.rail (setAt (s.setup.channels.get d.rail) d.channel x) } } : State).afterOperation
      d.rail endTime (calResultOf d x .done d.best (some (p.depth, p.time))) := by
  have hp' : (s.landed d.rail endTime).run.pendingPoint = some p := hp
  have hx' : x = { (s.landed d.rail endTime).channel d.rail d.channel with kd := kd, zero := z } := hx
  have hnew (run : RunControl) :
      (((s.landed d.rail endTime).setChannelRecord d.rail d.channel x).setRun run).channel d.rail d.channel = x := by
    unfold State.setChannelRecord State.channel
    cases d.rail <;> exact setAt_get_same _ _ _
  unfold endCal
  simp only [hsecond, if_true, hp', hout, ← hx']
  rw [calRecord_eq (x := x) hdone (hnew _) (if_pos hsecond)]
  exact endOperation_landed (s := { s with run := { s.run with pendingPoint := none }, setup := { s.setup with
          channels := s.setup.channels.set d.rail (setAt (s.setup.channels.get d.rail) d.channel x) } })
    (by show s.run.state ≠ _; rw [hrun]; decide) d.rail endTime _

end EndOfStep

/-- Settles O40: the firing is counted and its hit compared; the sixteenth waits for the line interface, then ends the step. -/
theorem aCalibrationFiringCompletes : Obligations.ACalibrationFiringCompletes := by
  intro s signal c d f o hop hf ho hrail hch hgate hsecond hdepth hcount hbetter hworse hnone
  have hd : d = { c with
      done := c.done + 1
      best := betterHit c.best (gateResult f.fired.record (recorded f.fired.record.listen signal)).outcomes[c.gate] } := by
    rw [← ho, betterHit_eq hbetter hworse hnone, ← hcount, ← hrail, ← hch, ← hgate, ← hsecond, ← hdepth]
  refine ⟨fun hmore => congrArg Host.Outcome.next (calFiringCompletion_more hop hf hd hmore),
    fun hlast hwait => congrArg Host.Outcome.next (calFiringCompletion_waits hop hf hd hlast hwait), fun hlast hempty hrun => ?_⟩
  have hexec : exec (.calFiringCompletion signal) s = .next (endCal d (s.landed c.rail f.endTime)) :=
    congrArg Host.Outcome.next (calFiringCompletion_last hop hf hd hlast hempty)
  rw [hexec, ← hrail, ← hch, ← hgate, ← hsecond, ← hdepth]
  refine ⟨fun hfirst => ⟨fun hbest => congrArg _ (endCal_first_noEcho hrun hlast hfirst hbest),
    fun h hbest => congrArg _ (endCal_first_done hrun hlast hfirst hbest)⟩, fun p hsec hp t ht => ?_⟩
  subst ht
  refine ⟨fun hbest => ?_, fun h hbest hclose => ?_, fun h kd z x hbest hfar hkd hz hx => ⟨fun hout => ?_, fun hk1 hk2 hz1 hz2 => ?_⟩⟩
  · have hout : calOutcome p d.depth d.best = (.noEcho, none) := by rw [hbest]; rfl
    rw [endCal_second_plain hrun hlast hsec hp hout, hbest]
  · have hout : calOutcome p d.depth d.best = (.order, none) := by rw [hbest]; exact calOutcome_order hclose
    rw [endCal_second_plain hrun hlast hsec hp hout, hbest]
  · have hout' : calOutcome p d.depth d.best = (.range, none) := by rw [hbest]; exact calOutcome_range hfar hkd hz hout
    rw [endCal_second_plain hrun hlast hsec hp hout', hbest]
  · have hout' : calOutcome p d.depth d.best = (.done, some (kd.toNat, z)) := by
      rw [hbest]; exact calOutcome_done hfar hkd hz hk1 hk2 hz1 hz2
    rw [endCal_second_done hrun hlast hsec hp hout' hx, hbest]

/-! ### O41: the firings of an operation -/

theorem calFiringStart_starts {s : State} {c : CalStep} (hop : s.run.operation = some (.calibration c)) (hmore : c.done < 16)
    (hidle : (s.firing.get c.rail).operationFlight = none) :
    calFiringStart s = startOperationFiring c.rail c.channel (s.advanceTo s.run.nextFiring) := by
  unfold calFiringStart
  simp only [hop]
  exact if_pos ⟨hmore, hidle⟩

theorem verifyFiringStart_starts {s : State} {v : Verification} {ch : Channel} (hop : s.run.operation = some (.verification v))
    (hnext : v.order[v.results.length]? = some ch) (hidle : (s.firing.get v.rail).operationFlight = none) :
    verifyFiringStart s = startOperationFiring v.rail ch (s.advanceTo s.run.nextFiring) := by
  unfold verifyFiringStart
  simp only [hop, hnext, hidle]

/-- What a verification enters for the operation flight that completes. -/
def landedEntry (u : FiringUnit) (f : OperationFlight) : VerifyEntry :=
  verifyEntry f.fired.channel
    (gateResult f.fired.record (generatorSamples u.generators[f.fired.record.lane] f.fired.record.listen))

section VerifyCompletion

variable {s : State} {v w : Verification} {f : OperationFlight} (hop : s.run.operation = some (.verification v))
  (hf : (s.firing.get v.rail).operationFlight = some f)
  (hw : w = { v with results := v.results ++ [landedEntry (s.firing.get v.rail) f] })
include hop hf hw

theorem verifyFiringCompletion_more (hmore : w.results.length < w.order.length) : verifyFiringCompletion s =
    (s.landed v.rail f.endTime).setRun { s.run with operation := some (.verification w) } := by
  subst hw
  unfold verifyFiringCompletion
  simp only [hop, hf]
  exact if_pos hmore

theorem verifyFiringCompletion_waits (hlast : w.order.length ≤ w.results.length) (hwait : s.line.inbox ≠ []) :
    verifyFiringCompletion s = s := by
  subst hw
  unfold verifyFiringCompletion
  simp only [hop, hf]
  exact (if_neg (Nat.not_lt.mpr hlast)).trans (if_neg (by simpa using hwait))

theorem verifyFiringCompletion_last (hlast : w.order.length ≤ w.results.length) (hempty : s.line.inbox = []) :
    verifyFiringCompletion s = endOperation v.rail
      ((s.landed v.rail f.endTime).offer (.verifyResult ⟨v.rail, v.echo, w.results, some (signature w.results)⟩)) := by
  subst hw
  unfold verifyFiringCompletion
  simp only [hop, hf]
  exact (if_neg (Nat.not_lt.mpr hlast)).trans (if_pos (by simp [hempty]))

end VerifyCompletion

theorem generatorSamples_some (e : TestEcho) (listen : Nat) : generatorSamples (some e) listen = (List.range listen).map (fun k =>
    max (if e.d1 ≤ k ∧ k ≤ e.d1 + 7 then e.a1 else 0) (if e.d1 + e.d2 ≤ k ∧ k ≤ e.d1 + e.d2 + 7 then e.a2 else 0)) := rfl

theorem bytes2_natCast (n : Nat) : bytes2 n = [BitVec.ofNat 8 (n / 256), BitVec.ofNat 8 n] := by
  have hhigh : ((n : Int) / 256) = ((n / 256 : Nat) : Int) := rfl
  rw [bytes2, hhigh, BitVec.ofInt_natCast, BitVec.ofInt_natCast]

/-- The values of an entry, with a flaw gate's pair written by any function that writes it so. -/
theorem values_eq {hit : Option Hit → List Nat} (hnone : hit none = [0xFFFF, 0]) (hsome : ∀ h, hit (some h) = [h.time, h.amplitude])
    (e : VerifyEntry) :
    e.values = e.channel.val :: e.interface.getD 0xFFFF :: (hit e.hits[0] ++ hit e.hits[1] ++ hit e.hits[2]) := by
  have hhit (o : Option Hit) : o.elim [0xFFFF, 0] (fun h => [h.time, h.amplitude]) = hit o := by
    cases o with
    | none => exact hnone.symm
    | some h => exact (hsome h).symm
  simp only [VerifyEntry.values, hhit]
  simp [List.finRange_succ]

/-- Settles O41: an operation's next firing after its interval; a verification firing entered, the last with the result. -/
theorem operationFiringsStartAndVerify : Obligations.OperationFiringsStartAndVerify := by
  refine ⟨fun s start hstart => ⟨fun c hop hmore hidle => ?_, fun v ch hop hnext hidle => ?_⟩,
    fun s v w f e x res hop hf hx hgen hres hw => ?_, fun es hit hnone hsome => ?_⟩
  · subst hstart
    refine congrArg Host.Outcome.next ((calFiringStart_starts hop hmore hidle).trans ?_)
    rw [startOperationFiring_eq]
    rfl
  · subst hstart
    refine congrArg Host.Outcome.next ((verifyFiringStart_starts hop hnext hidle).trans ?_)
    rw [startOperationFiring_eq]
    rfl
  · subst hx
    have hentry : landedEntry (s.firing.get v.rail) f = verifyEntry f.fired.channel res := by
      rw [landedEntry, hgen, generatorSamples_some, hres]
    have hhits : (fun g : Gate => res.outcomes[g].toHit) = fun g => match res.outcomes[g] with | .hit h => some h | _ => none := by
      funext g
      cases res.outcomes[g] <;> rfl
    have hw' : w = { v with results := v.results ++ [landedEntry (s.firing.get v.rail) f] } := by
      rw [hw, hentry]
      exact congrArg (fun hits : Gate → Option Hit =>
        ({ v with results := v.results ++ [⟨f.fired.channel, res.interface.map Hit.time, Vector.ofFn hits⟩] } : Verification)) hhits.symm
    refine ⟨fun hmore => congrArg Host.Outcome.next (verifyFiringCompletion_more hop hf hw' hmore),
      fun hlast hwait => congrArg Host.Outcome.next (verifyFiringCompletion_waits hop hf hw' hlast hwait),
      fun hlast hempty hrun => congrArg Host.Outcome.next ((verifyFiringCompletion_last hop hf hw' hlast hempty).trans ?_)⟩
    exact endOperation_landed (by rw [hrun]; decide) v.rail f.endTime _
  · have hvalues : VerifyEntry.values = fun e =>
        e.channel.val :: e.interface.getD 0xFFFF :: (hit e.hits[0] ++ hit e.hits[1] ++ hit e.hits[2]) :=
      funext (values_eq hnone hsome)
    rw [signature, hvalues]
    simp [List.flatMap_assoc, bytes2_natCast]

end Sys2Proof.Machine
end

section
/-! PROOFS. Coverage set anew; starting, stopping and flushing a run (O42). -/

namespace Sys2Proof.Machine

/-! ### Coverage set anew (R73) -/

theorem flatMap_onChange {α : Type} [DecidableEq α] {β : Type} (xs : List Channel) (a b : Channel → α) (x : Channel → β) :
    (xs.flatMap fun ch => onChange (a ch) (b ch) (x ch)) = (xs.filter fun ch => a ch != b ch).map x := by
  induction xs with
  | nil => rfl
  | cons ch xs ih =>
    rw [List.flatMap_cons, ih]
    by_cases h : a ch = b ch
    · rw [h, onChange_self, List.filter_cons_of_neg (by simp [h]), List.nil_append]
    · rw [onChange_ne h, List.filter_cons_of_pos (by simp [h])]
      rfl

/-- A rail whose coverage has been set anew from its active plan, with the changes of coupling state handed on. -/
theorem resetCoverage_covering (s : State) (r : Rail) : s.resetCoverage r =
    s.covering r ((s.echo.get r).anew (s.setup.plans.get r)).cover (s.echo.get r).snapshot
      (anewItems r (s.echo.get r) (s.setup.plans.get r)) (anewLevels r (s.echo.get r) (s.setup.plans.get r)) := by
  have hsnapshot : (List.finRange 12).foldl (fun p _ => p) (s.echo.get r).snapshot = (s.echo.get r).snapshot := by
    induction List.finRange 12 with
    | nil => rfl
    | cons _ _ ih => exact ih
  have hfold := foldl_covering (r := r) (step := fun s ch => s.setCover r ch (Cover.fresh (s.inPlan r ch))) (u := s.setup)
    (F := fun ch _ => Cover.fresh ((s.setup.plans.get r).has ch)) (G := fun _ p => p)
    (I := fun ch c _ => onChange c.coupling (if (s.setup.plans.get r).has ch then .unknown else .inactive) (.change (.coupling r ch)))
    (L := fun ch c => onChange c.coupling (if (s.setup.plans.get r).has ch then .unknown else .inactive)
      (.coupling r ch (if (s.setup.plans.get r).has ch then .unknown else .inactive)))
    (fun t ch ht => by rw [setCover_covering, State.inPlan, ht]; rfl) (fun _ _ _ _ _ => rfl) (List.nodup_finRange 12) rfl
  unfold State.resetCoverage
  rw [hfold, hsnapshot, flatMap_onChange, flatMap_onChange]
  simp only [List.mem_finRange, if_true]
  rfl

/-! ### O42: RUN_START, RUN_STOP and FLUSH -/

theorem startRun_eq {s : State} (hrun : s.run.state = .stopped) : startRun s =
    { s with
      firing := ⟨{ s.firing.left with pointer := 0, flight := none, held := none },
        { s.firing.right with pointer := 0, flight := none, held := none }⟩
      echo := ⟨s.echo.left.anew s.setup.plans.left, s.echo.right.anew s.setup.plans.right⟩
      run := { s.run with state := .running }
      line := s.line.hear (anewItems .left s.echo.left s.setup.plans.left ++ anewItems .right s.echo.right s.setup.plans.right ++
        [.change .runState])
      router := s.router.hear (anewLevels .left s.echo.left s.setup.plans.left ++
        anewLevels .right s.echo.right s.setup.plans.right ++ [.runState .running]) } := by
  have hne : s.run.state ≠ .running := by rw [hrun]; decide
  unfold startRun bothRails
  simp only [List.foldl_cons, List.foldl_nil, resetCoverage_covering]
  rw [setRunState_eq, onChange_ne (by exact hne), onChange_ne (by exact hne)]
  simp only [State.covering, State.setFiring, hear_hear, Router.hear_hear]
  rfl

theorem cancelSnapshot_eq (r : Rail) (s : State) : cancelSnapshot r s =
    s.covering r (s.echo.get r).cover .idle
      ((s.echo.get r).snapshot.channel.toList.map (fun ch => .offer (.snapshot (.cancelled r ch)))) [] := by
  cases h : (s.echo.get r).snapshot.channel with
  | some ch => exact cancelSnapshot_covering h
  | none =>
    have hidle : (s.echo.get r).snapshot = .idle := by
      cases hs : (s.echo.get r).snapshot with
      | idle => rfl
      | waiting ch => rw [hs] at h; cases h
      | bound ch pf => rw [hs] at h; cases h
    have hsame : cancelSnapshot r s = s := by unfold cancelSnapshot; rw [h]
    rw [hsame, ← hidle]
    exact (covering_self s r).symm

/-- What RUN_STOP does at a rail: the held request dropped, the snapshot cancelled, and an idle rail's drain notice sent. -/
theorem drainFiring_eq {r : Rail} {s : State} (hrun : s.run.state = .draining) :
    drainFiring r (cancelSnapshot r s) =
      { s with
        firing := s.firing.set r { s.firing.get r with held := none }
        echo := s.echo.set r
          { s.echo.get r with
            snapshot := .idle, inbox := (s.echo.get r).inbox ++ if (s.firing.get r).flight = none then [.drain] else [] }
        line := s.line.hear
          ((s.echo.get r).snapshot.channel.toList.map (fun ch => .offer (.snapshot (.cancelled r ch)))) } := by
  rw [cancelSnapshot_eq]
  unfold drainFiring sendDrainNotice State.covering
  by_cases hflight : (s.firing.get r).flight = none
  · have hidle : (s.firing.set r { s.firing.get r with held := none }).get r =
        { s.firing.get r with held := none } := Rails.get_set_same _ _ _
    rw [if_pos ⟨hrun, by cases r <;> exact hflight⟩, if_pos hflight]
    cases r <;> simp [State.setFiring, State.toEcho, State.setEcho, Rails.set, Rails.get]
  · rw [if_neg fun h => hflight (by cases r <;> exact h.2), if_neg hflight]
    cases r <;> simp [State.setFiring, Rails.set, Rails.get]

theorem stopRun_eq {s : State} (hrun : s.run.state = .running) {stopped : FiringUnit → EchoProcessor → EchoProcessor}
    (hstopped : ∀ u e, stopped u e = { e with snapshot := .idle, inbox := e.inbox ++ if u.flight = none then [.drain] else [] }) :
    stopRun s =
      { s with
        firing := ⟨{ s.firing.left with held := none }, { s.firing.right with held := none }⟩
        echo := ⟨stopped s.firing.left s.echo.left, stopped s.firing.right s.echo.right⟩
        run := { s.run with state := .draining, drained := ⟨false, false⟩ }
        line := s.line.hear (.change .runState ::
          ((s.echo.left.snapshot.channel.toList.map (fun ch => .offer (.snapshot (.cancelled .left ch)))) ++
            s.echo.right.snapshot.channel.toList.map (fun ch => .offer (.snapshot (.cancelled .right ch)))))
        router := s.router.hear [.runState .draining] } := by
  have hne : s.run.state ≠ .draining := by rw [hrun]; decide
  unfold stopRun bothRails
  rw [setRunState_eq, onChange_ne (by exact hne), onChange_ne (by exact hne)]
  simp only [List.foldl_cons, List.foldl_nil]
  rw [drainFiring_eq (r := .left) (by rfl), drainFiring_eq (r := .right) (by rfl)]
  simp only [hear_hear, hstopped]
  rfl

/-- Settles O42: the checks of RUN_START, RUN_STOP and FLUSH, and what each does when taken. -/
theorem runsStartStopAndFlush : Obligations.RunsStartStopAndFlush := by
  intro s f rest
  refine ⟨fun hw => ?_, fun hw => ?_, fun hw => ?_⟩
  · have hexec : exec .runStart s = .next (runStart f (s.taken rest)) := congrArg Host.Outcome.next (request_taken hw _)
    refine ⟨fun h => ?_, fun hstop hbusy => ?_, fun hstop hstore hleft hright => ?_, fun hstop hstore hplan => ?_⟩
    · rw [answersOnly, hexec, runStart, taken_stopped, stopped_of_ne h]
      rfl
    · rw [answersOnly, hexec, runStart, taken_stopped, stopped_of_eq hstop, taken_writing, writing_of_ne hbusy]
      rfl
    · rw [answersOnly, hexec, runStart, taken_stopped, stopped_of_eq hstop, taken_writing, writing_of_none hstore, taken_setup, hleft,
        hright]
      rfl
    · have hplans : (s.setup.plans.left.isEmpty && s.setup.plans.right.isEmpty) = false := by
        obtain h | h := hplan <;> simp [h]
      rw [hexec, runStart, taken_stopped, stopped_of_eq hstop, taken_writing, writing_of_none hstore, taken_setup, hplans,
        startRun_eq (s := s.taken rest) hstop]
      rfl
  · have hexec : exec .runStop s = .next (runStop f (s.taken rest)) := congrArg Host.Outcome.next (request_taken hw _)
    refine ⟨fun h => ?_, fun stopped hstopped hrun => ?_⟩
    · rw [answersOnly, hexec, runStop, taken_run, if_neg h]
      rfl
    · rw [hexec, runStop, taken_run, if_pos hrun, stopRun_eq (s := s.taken rest) hrun hstopped]
      rfl
  · have hexec : exec .flush s = .next (flush f (s.taken rest)) := congrArg Host.Outcome.next (request_taken hw _)
    refine ⟨fun h => ?_, fun h => ?_⟩
    · rw [answersOnly, hexec, flush, taken_run, if_neg h]
      rfl
    · rw [hexec, flush, taken_run, if_pos h]
      rfl

end Sys2Proof.Machine
end

section
/-! PROOFS. RESTART (O43). -/

namespace Sys2Proof.Machine

/-- The record of an operation in flight, as the line interface is handed it. -/
def abortItems (s : State) : List LineItem := (s.run.operation.map fun o => .offer (abortRecord s o)).toList

theorem abortOperation_eq (s : State) : abortOperation s = { s with line := s.line.hear (abortItems s) } := by
  unfold abortOperation abortItems
  cases s.run.operation with
  | none => simp
  | some o => rfl

theorem restartRun_eq (s : State) : restartRun s =
    { s with
      run := { s.run with
        state := .stopped, drained := ⟨false, false⟩, operation := none, pendingPoint := none, suppressed := 0
        drainNotices := ⟨false, false⟩ }
      line := s.line.hear (abortItems s ++ onChange s.run.state .stopped (.change .runState))
      router := s.router.hear (onChange s.run.state .stopped (.runState .stopped)) } := by
  unfold restartRun
  rw [abortOperation_eq, setRunState_eq, ← hear_hear]
  rfl

/-- What a RESTART hands to the line interface from a rail whose active plan is `p`. -/
def restartItems (r : Rail) (e : EchoProcessor) (p : Plan) : List LineItem :=
  e.snapshot.channel.toList.map (fun ch => .offer (.snapshot (.cancelled r ch))) ++ anewItems r e p

theorem restartRail_eq (r : Rail) (s : State) : restartRail s r =
    { s with
      firing := s.firing.set r (s.firing.get r).restarted
      echo := s.echo.set r { (s.echo.get r).anew (s.setup.plans.get r) with snapshot := .idle, inbox := [] }
      tracker := s.tracker.set r .powerOn
      assembler := s.assembler.set r .powerOn
      line := s.line.hear (restartItems r (s.echo.get r) (s.setup.plans.get r))
      router := s.router.hear (anewLevels r (s.echo.get r) (s.setup.plans.get r)) } := by
  unfold restartRail
  dsimp only
  rw [cancelSnapshot_eq, resetCoverage_covering, covering_covering, covering_echo]
  simp only [State.covering, State.setFiring, List.nil_append]
  cases r <;> rfl

theorem restartMarking_eq (r : Rail) (s : State) : restartMarking s r =
    { s with
      marking := s.marking.set r { s.marking.get r with queue := [], sprayEnd := none }
      line := s.line.hear (discardedItems r (s.marking.get r).queue)
      router := s.router.hear (onChange (s.marking.get r).sprayEnd.isSome false (.gun r false)) } := by
  unfold restartMarking
  rw [discardMarks_eq, setSpray_eq]
  cases r <;> rfl

/-- The unit after a taken RESTART. -/
def State.restarted (s : State) : State :=
  { s with
    run := { s.run with
      state := .stopped, drained := ⟨false, false⟩, operation := none, pendingPoint := none, suppressed := 0
      drainNotices := ⟨false, false⟩ }
    firing := ⟨s.firing.left.restarted, s.firing.right.restarted⟩
    echo := ⟨{ s.echo.left.anew s.setup.plans.left with snapshot := .idle, inbox := [] },
      { s.echo.right.anew s.setup.plans.right with snapshot := .idle, inbox := [] }⟩
    tracker := ⟨.powerOn, .powerOn⟩
    assembler := ⟨.powerOn, .powerOn⟩
    landmarks := { s.landmarks with entries := [] }
    marking := ⟨{ s.marking.left with queue := [], sprayEnd := none }, { s.marking.right with queue := [], sprayEnd := none }⟩
    router :=
      { s.router.hear (onChange s.run.state .stopped (.runState .stopped) ++
          anewLevels .left s.echo.left s.setup.plans.left ++ anewLevels .right s.echo.right s.setup.plans.right ++
          onChange s.marking.left.sprayEnd.isSome false (.gun .left false) ++
          onChange s.marking.right.sprayEnd.isSome false (.gun .right false)) with stretchEnd := Vector.replicate 4 none }
    line :=
      { s.line with
        queue := [], bundle := ⟨.empty, 0, none⟩, tag := 0, changes := ⟨false, false, false, false, ⟨0, 0⟩⟩
        frameErrors := 0, overruns := 0, dropped := 0, lost := 0, loss := false
        inbox := abortItems s ++ onChange s.run.state .stopped (.change .runState) ++
          restartItems .left s.echo.left s.setup.plans.left ++ restartItems .right s.echo.right s.setup.plans.right ++
          discardedItems .left s.marking.left.queue ++ discardedItems .right s.marking.right.queue } }

theorem takeRestart_eq (s : State) : takeRestart s = s.restarted := by
  unfold takeRestart bothRails
  simp only [List.foldl_cons, List.foldl_nil, restartRun_eq, restartRail_eq, restartMarking_eq, State.setLandmarks, hear_hear,
    Router.hear_hear, List.append_assoc]
  unfold State.restarted
  simp only [List.append_assoc]
  rfl

/-- Settles O43: BUSY while the store is WRITING; taken, each block is as its rule for RESTART leaves it. -/
theorem restartClearsTheUnit : Obligations.RestartClearsTheUnit := by
  intro s f rest hw
  have hexec : exec .restart s = .next (restart f (s.taken rest)) := congrArg Host.Outcome.next (request_taken hw _)
  refine ⟨fun hbusy => ?_, fun hstore => ⟨(s.taken rest).restarted.reply f .ok 0 .headOnly, ?_, rfl, rfl, rfl, rfl, fun r => ?_, rfl,
    fun l => ?_, rfl, rfl, ?_, ?_⟩⟩
  · rw [answersOnly, hexec, restart, taken_writing, writing_of_ne hbusy]
    rfl
  · rw [hexec, restart, taken_writing, writing_of_none hstore, takeRestart_eq]
    rfl
  · cases r <;> exact ⟨rfl, rfl, rfl, rfl, rfl⟩
  · exact Vector.getElem_replicate ..
  · show s.router.levels ++ _ = _
    simp only [List.append_assoc]
    rfl
  · have hitems (abort : List LineItem) (h : abortItems (s.taken rest) = abort) :
        (s.taken rest).restarted.line.inbox = abort ++ onChange s.run.state .stopped (.change .runState) ++
          s.echo.left.snapshot.channel.toList.map (fun ch => .offer (.snapshot (.cancelled .left ch))) ++
          anewItems .left s.echo.left s.setup.plans.left ++
          s.echo.right.snapshot.channel.toList.map (fun ch => .offer (.snapshot (.cancelled .right ch))) ++
          anewItems .right s.echo.right s.setup.plans.right ++
          discardedItems .left s.marking.left.queue ++ discardedItems .right s.marking.right.queue := by
      subst h
      simp [State.restarted, restartItems]
    have hline : ∀ inbox, (s.taken rest).restarted.line.inbox = inbox →
        ((s.taken rest).restarted.reply f .ok 0 .headOnly).line = answeredLine
          { s.line with
            queue := [], bundle := ⟨.empty, 0, none⟩, tag := 0, changes := ⟨false, false, false, false, ⟨0, 0⟩⟩
            frameErrors := 0, overruns := 0, dropped := 0, lost := 0, loss := false, inbox := inbox } f rest .ok 0 .headOnly := by
      rintro _ rfl
      rfl
    refine hline _ (hitems _ ?_)
    unfold abortItems
    rw [taken_run]
    rcases s.run.operation with _ | c | v <;> rfl

end Sys2Proof.Machine
end

section
/-! PROOFS. The setup store (O44), and SET_REPORTING (O51). -/

namespace Sys2Proof.Machine

/-! ### Reporting settings taken (R182) -/

theorem applyReporting_eq (new : ReportingSettings) (s : State) : applyReporting new s =
    { s with
      setup := { s.setup with reporting := new }
      line :=
        { s.line.hear (if new.silenceLimit = 0 then onChange s.line.silence false (.change .silence) else []) with
          bundle :=
            if s.line.bundle.state = .open ∧ new.cap < bodyLength (s.line.queue.take s.line.bundle.held) then
              { s.line.bundle with state := .ready, flushEnd := none }
            else s.line.bundle
          statusEnd := if new.statusInterval = 0 then none else some (s.now + new.statusInterval * 100000)
          silenceEnd := if new.silenceLimit = 0 then none else some (s.now + new.silenceLimit * 100000000)
          silence := if new.silenceLimit = 0 then false else s.line.silence }
      router := s.router.hear (if new.silenceLimit = 0 then onChange s.line.silence false (.silence false) else []) } := by
  unfold applyReporting
  by_cases h : new.silenceLimit = 0
  · simp only [if_pos h, setSilence_eq]
    rw [timerFrom, timerFrom, if_pos h]
    rfl
  · simp only [if_neg h, hear_nil, Router.hear_nil]
    rw [timerFrom, timerFrom, if_neg h]
    rfl

/-! ### O44: SETUP_SAVE and SETUP_RELOAD -/

theorem takeImageRecords_eq (image : Setup) (s : State) : takeImageRecords image s =
    { s with
      setup := { s.setup with
        rails := image.rails, channels := image.channels, plans := image.plans, patterns := image.patterns }
      firing := ⟨{ s.firing.left with staged := none, pointer := 0 }, { s.firing.right with staged := none, pointer := 0 }⟩
      echo := ⟨s.echo.left.anew image.plans.left, s.echo.right.anew image.plans.right⟩
      line := s.line.hear (anewItems .left s.echo.left image.plans.left ++ anewItems .right s.echo.right image.plans.right)
      router := s.router.hear (anewLevels .left s.echo.left image.plans.left ++ anewLevels .right s.echo.right image.plans.right) } := by
  unfold takeImageRecords bothRails
  simp only [List.foldl_cons, List.foldl_nil, resetCoverage_covering]
  simp only [State.covering, State.setFiring, State.setSetup, hear_hear, Router.hear_hear]
  rfl

/-- The whole unit once an image has been taken, with motion by the new standstill time. -/
theorem applyImage_eq (image : Setup) (s : State) (m : Motion)
    (hm : m = if s.travel.lastCount.any (fun k => decide (image.travel.standstill * 100000 < s.now - k)) then .standstill
      else s.travel.motion) :
    applyImage image s =
      { s with
        setup := image
        travel := { s.travel with motion := m }
        marking := s.markingAt m
        run := { s.run with pendingPoint := none, source := .stored }
        firing := ⟨{ s.firing.left with staged := none, pointer := 0 }, { s.firing.right with staged := none, pointer := 0 }⟩
        echo := ⟨s.echo.left.anew image.plans.left, s.echo.right.anew image.plans.right⟩
        router :=
          { s.router with
            stretchEnd := Vector.ofFn (fun l =>
              if s.setup.signals.routes[l].source = image.signals.routes[l].source then s.router.stretchEnd[l] else none)
            levels := s.router.levels ++ anewLevels .left s.echo.left image.plans.left ++
              anewLevels .right s.echo.right image.plans.right ++
              (if image.reporting.silenceLimit = 0 then onChange s.line.silence false (.silence false) else []) }
        line :=
          { s.line with
            bundle :=
              if s.line.bundle.state = .open ∧ image.reporting.cap < bodyLength (s.line.queue.take s.line.bundle.held) then
                { s.line.bundle with state := .ready, flushEnd := none }
              else s.line.bundle
            silence := if image.reporting.silenceLimit = 0 then false else s.line.silence
            statusEnd :=
              if image.reporting.statusInterval = 0 then none else some (s.now + image.reporting.statusInterval * 100000)
            silenceEnd :=
              if image.reporting.silenceLimit = 0 then none else some (s.now + image.reporting.silenceLimit * 100000000)
            inbox := s.line.inbox ++ onChange s.travel.motion m (.change .motion) ++
              anewItems .left s.echo.left image.plans.left ++ anewItems .right s.echo.right image.plans.right ++
              (if image.reporting.silenceLimit = 0 then onChange s.line.silence false (.change .silence) else []) } } := by
  unfold applyImage
  rw [applyTravel_eq s image.travel m hm, setMotion_eq, takeImageRecords_eq, applySignals_eq, applyReporting_eq]
  simp only [State.setSetup, State.setRun, Line.hear, Router.hear, List.append_assoc]
  rfl

/-- Settles O44: the store's saving and its completion; a reload's checks, and every part of the unit as the image leaves it. -/
theorem theSetupIsSavedAndReloaded : Obligations.TheSetupIsSavedAndReloaded := by
  refine ⟨fun s => ⟨fun f rest hw => ?_, fun image matched hwriting => ?_⟩, fun s f rest hw => ?_⟩
  · have hexec : exec .setupSave s = .next (setupSave f (s.taken rest)) := congrArg Host.Outcome.next (request_taken hw _)
    refine ⟨fun h => ?_, fun hstop hbusy => ?_, fun hstop hstore => ?_⟩
    · rw [answersOnly, hexec, setupSave, taken_stopped, stopped_of_ne h]
      rfl
    · rw [answersOnly, hexec, setupSave, taken_stopped, stopped_of_eq hstop, taken_writing, writing_of_ne hbusy]
      rfl
    · rw [hexec, setupSave, taken_stopped, stopped_of_eq hstop, taken_writing, writing_of_none hstore]
      rfl
  · show Host.Outcome.next (setupSaveComplete matched s) = _
    simp only [setupSaveComplete, hwriting]
    rfl
  · have hexec : exec .setupReload s = .next (setupReload f (s.taken rest)) := congrArg Host.Outcome.next (request_taken hw _)
    refine ⟨fun h => ?_, fun hstop hbusy => ?_, fun hstop hstore hnone => ?_, fun image m hstop hstore himage hm =>
      ⟨(applyImage image (s.taken rest)).reply f .ok 0 .headOnly, ?_, ?_⟩⟩
    · rw [answersOnly, hexec, setupReload, taken_stopped, stopped_of_ne h]
      rfl
    · rw [answersOnly, hexec, setupReload, taken_stopped, stopped_of_eq hstop, taken_writing, writing_of_ne hbusy]
      rfl
    · rw [answersOnly, hexec, setupReload, taken_stopped, stopped_of_eq hstop, taken_writing, writing_of_none hstore, taken_run, hnone]
      rfl
    · rw [hexec, setupReload, taken_stopped, stopped_of_eq hstop, taken_writing, writing_of_none hstore, taken_run, himage]
      rfl
    · rw [applyImage_eq image (s.taken rest) m hm]
      exact ⟨rfl, rfl, rfl, rfl, rfl, fun r => by cases r <;> exact ⟨rfl, rfl⟩, rfl, rfl⟩

/-! ### O51: SET_REPORTING -/

theorem onOffOf_of_le_one {n : Nat} (h : n ≤ 1) : onOffOf n = some (decide (n = 0)) := by
  obtain rfl | rfl : n = 0 ∨ n = 1 := by omega
  · rfl
  · rfl

theorem reportingClamp_eq_none {q : ReportingFields} (h : 1 < q.statusOnChange ∨ 4096 ≤ q.hitLeft.toNat ∨ 4096 ≤ q.hitRight.toNat) :
    q.clamp = none := by
  unfold ReportingFields.clamp
  split
  · next b hb =>
    have hflag : ¬ 1 < q.statusOnChange := fun k => by rw [onOffOf_eq_none.mpr k] at hb; cases hb
    have hset : (namesAbove11 q.hitLeft || namesAbove11 q.hitRight) = true := by
      simpa [namesAbove11] using h.resolve_left hflag
    rw [if_pos hset]
  · rfl

theorem reportingClamp_eq_some {q : ReportingFields} (hflag : q.statusOnChange ≤ 1) (hleft : q.hitLeft.toNat < 4096)
    (hright : q.hitRight.toNat < 4096) : q.clamp = some
      ⟨clampNat 1 256 q.highWater, clampNat 128 2040 q.cap, clampNat 1 50 q.flushDelay, clampInterval q.statusInterval,
        decide (q.statusOnChange = 0), ⟨q.hitLeft, q.hitRight⟩, clampNat 0 60 q.silenceLimit⟩ := by
  have hset : (namesAbove11 q.hitLeft || namesAbove11 q.hitRight) = false := by
    simp [namesAbove11, hleft, hright]
  simp only [ReportingFields.clamp, onOffOf_of_le_one hflag, hset]
  rfl

theorem reportingFields_fits (q : ReportingFields) : q.fits = true ↔
    1 ≤ q.highWater ∧ q.highWater ≤ 256 ∧ 128 ≤ q.cap ∧ q.cap ≤ 2040 ∧ 1 ≤ q.flushDelay ∧ q.flushDelay ≤ 50 ∧
      (q.statusInterval = 0 ∨ 100 ≤ q.statusInterval ∧ q.statusInterval ≤ 10000) ∧ 0 ≤ q.silenceLimit ∧ q.silenceLimit ≤ 60 := by
  simp [ReportingFields.fits, within_iff, and_assoc]

/-- Settles O51: RANGE and BUSY with the settings in force; taken, the settings replaced and the line retuned. -/
theorem setReportingRetunesTheLine : Obligations.SetReportingRetunesTheLine := by
  intro s q f rest hw
  have hexec : exec (.setReporting q) s = .next (setReporting q f (s.taken rest)) := congrArg Host.Outcome.next (request_taken hw _)
  refine ⟨fun h => ?_, fun hflag hleft hright => ⟨fun hbusy => ?_, fun new b hstore hnew hb => ?_⟩⟩
  · rw [answersOnly, hexec, setReporting, reportingClamp_eq_none h]
    rfl
  · rw [answersOnly, hexec, setReporting, reportingClamp_eq_some hflag hleft hright]
    simp [writing_of_ne hbusy]
  · have hclamp : q.clamp = some new := by rw [reportingClamp_eq_some hflag hleft hright, hnew]; rfl
    have htaken : setReporting q f (s.taken rest) =
        (applyReporting new (s.taken rest)).reply f (doneCode q.fits) 0 (.reporting new) := by
      have hsetup : (applyReporting new (s.taken rest)).setup.reporting = new := by rw [applyReporting_eq]
      simp [setReporting, hclamp, writing_of_none hstore, hsetup]
    rw [hexec, htaken, applyReporting_eq, doneCode_eq (reportingFields_fits q), hb]
    rfl

end Sys2Proof.Machine
end

section
/-! PROOFS. The frame receiver (O45). -/

namespace Sys2Proof.Machine

theorem inFrame_of_ne {x : Receiver} (hhunt : x ≠ .hunt) (hsync : x ≠ .sync) : x.inFrame = true := by
  cases x with
  | hunt => exact absurd rfl hhunt
  | sync => exact absurd rfl hsync
  | length => rfl
  | body => rfl
  | check => rfl

theorem receive_without_stop {x : Receiver} (hhunt : x ≠ .hunt) (hsync : x ≠ .sync) (b : Byte) :
    x.receive b false = .discarded := by
  rw [Receiver.receive, inFrame_of_ne hhunt hsync]
  rfl

theorem takeByte_length {h b : Byte} (hlen : 4 ≤ h.toNat * 256 + b.toNat ∧ h.toNat * 256 + b.toNat ≤ 2040) :
    Receiver.takeByte (.length (some h)) b = .moved (.body h b []) := by
  have hin : lengthInRange (word2 h b) = true := lengthInRange_iff.mpr hlen
  rw [Receiver.takeByte, if_pos hin]

theorem takeByte_length_discards {h b : Byte} (hlen : h.toNat * 256 + b.toNat < 4 ∨ 2040 < h.toNat * 256 + b.toNat) :
    Receiver.takeByte (.length (some h)) b = .discarded := by
  have hout : ¬ lengthInRange (word2 h b) = true := by rw [lengthInRange_iff, word2]; omega
  rw [Receiver.takeByte, if_neg hout]

theorem takeByte_body {h l : Byte} {got : List Byte} (hmore : got.length + 1 < h.toNat * 256 + l.toNat) (b : Byte) :
    Receiver.takeByte (.body h l got) b = .moved (.body h l (got ++ [b])) := by
  rw [Receiver.takeByte, if_pos (by rw [List.length_append]; exact hmore)]

theorem takeByte_body_ends {h l : Byte} {got : List Byte} (hlast : h.toNat * 256 + l.toNat ≤ got.length + 1) (b : Byte) :
    Receiver.takeByte (.body h l got) b = .moved (.check h l (got ++ [b]) none) := by
  rw [Receiver.takeByte, if_neg (by rw [List.length_append]; exact Nat.not_lt.mpr hlast)]

theorem takeByte_valid {h l c b : Byte} {whole : List Byte} (hcrc : crc16 (h :: l :: whole) = c ++ b) :
    Receiver.takeByte (.check h l whole (some c)) b = .valid whole := by
  rw [Receiver.takeByte, if_pos hcrc]

theorem takeByte_wrong {h l c b : Byte} {whole : List Byte} (hcrc : crc16 (h :: l :: whole) ≠ c ++ b) :
    Receiver.takeByte (.check h l whole (some c)) b = .discarded := by
  rw [Receiver.takeByte, if_neg hcrc]

/-- A byte that neither completes nor discards a frame moves the receiver. -/
theorem lineByteReceived_moves {s : State} {b : Byte} {stop : Bool} {x : Receiver} (h : s.line.receiver.receive b stop = .moved x) :
    exec (.lineByteReceived b stop) s = .next { s with line := { s.line with receiver := x } } := by
  show Host.Outcome.next (lineByteReceived b stop s) = _
  rw [lineByteReceived, h]
  rfl

theorem acceptFrame_eq (s : State) (body : List Byte) : acceptFrame body s = s.accepting body := by
  have hinput : (s.line.input.length < Config.inputCapacity) ↔ s.line.input.length < 4 := Iff.rfl
  unfold acceptFrame State.accepting
  simp only [setSilence_eq]
  by_cases hroom : s.line.input.length < 4
  · simp only [if_pos hroom]
    exact if_pos hroom
  · simp only [if_neg hroom, List.append_nil]
    exact if_neg hroom

/-- Settles O45: the receiver's transitions, a valid frame accepted, and what discards a frame. -/
theorem bytesMakeFrames : Obligations.BytesMakeFrames := by
  intro s b
  refine ⟨fun x hx => lineByteReceived_moves ?_, fun h l c whole hcheck hcrc => ?_, fun stop hdiscard => ?_, fun hout => ⟨?_, ?_⟩,
    fun hhunt hsync => ?_⟩
  · show s.line.receiver.takeByte b = .moved x
    obtain ⟨hr, rfl, rfl⟩ | ⟨hr, hb, rfl⟩ | ⟨hr, rfl, rfl⟩ | ⟨hr, rfl, rfl⟩ | ⟨hr, hb, hb', rfl⟩ | ⟨hr, rfl⟩ | ⟨h, hr, h1, h2, rfl⟩ |
      ⟨h, l, got, hr, hlen, rfl⟩ | ⟨h, l, got, hr, hlen, rfl⟩ | ⟨h, l, whole, hr, rfl⟩ := hx <;> rw [hr]
    · rfl
    · exact congrArg ByteOutcome.moved (if_neg hb)
    · rfl
    · rfl
    · exact congrArg ByteOutcome.moved ((if_neg hb).trans (if_neg hb'))
    · rfl
    · exact takeByte_length ⟨h1, h2⟩
    · exact takeByte_body hlen b
    · exact takeByte_body_ends hlen b
    · rfl
  · have hvalid : s.line.receiver.receive b true = .valid whole := by rw [hcheck]; exact takeByte_valid hcrc
    constructor
    · show Host.Outcome.next (lineByteReceived b true s) = _
      rw [lineByteReceived, hvalid, ← acceptFrame_eq]
      rfl
    · show Host.Outcome.next (frameReceived b s) = _
      rw [frameReceived, hvalid, ← acceptFrame_eq]
  · have hdiscarded : s.line.receiver.receive b stop = .discarded := by
      obtain ⟨rfl, h, hr, hlen⟩ | ⟨rfl, h, l, c, whole, hr, hcrc⟩ | ⟨rfl, hhunt, hsync⟩ := hdiscard
      · rw [hr]; exact takeByte_length_discards hlen
      · rw [hr]; exact takeByte_wrong hcrc
      · exact receive_without_stop hhunt hsync b
    constructor
    · show Host.Outcome.next (lineByteReceived b stop s) = _
      rw [lineByteReceived, hdiscarded]
      rfl
    · show Host.Outcome.next (frameError b stop s) = _
      rw [frameError, hdiscarded]
      rfl
  · refine lineByteReceived_moves ?_
    obtain hr | hr := hout <;> rw [hr] <;> rfl
  · show Host.Outcome.next (interByteTimeout s) = _
    obtain hr | hr := hout <;> rw [interByteTimeout, hr] <;> rfl
  · show Host.Outcome.next (interByteTimeout s) = _
    rw [interByteTimeout, inFrame_of_ne hhunt hsync]
    rfl

end Sys2Proof.Machine
end

section
/-! PROOFS. Requests that do not fit (O46), and commands with nothing to take (O4). -/

namespace Sys2Proof.Machine

/-! ### Every request command goes by `request` -/

/-- What a request command does once its request has left the buffer. -/
def requestAct : Instr → Frame → State → State
  | .identify => identify
  | .readStatus => readStatus
  | .setReporting q => setReporting q
  | .setTravel q => setTravel q
  | .setPosition p => setPosition p
  | .odoCalBegin => odoCalBegin
  | .odoCalEnd d => odoCalEnd d
  | .setChannel q => setChannel q
  | .readChannel => readChannel
  | .stagePlan groups => stagePlan groups
  | .readPlan => readPlan
  | .setRail q => setRail q
  | .setLevels q => setLevels q
  | .snapshot => snapshot
  | .calChannel q => calChannel q
  | .addLandmarks es => addLandmarks es
  | .clearLandmarks d => clearLandmarks d
  | .readLandmarks => readLandmarks
  | .setPattern q => setPattern q
  | .readPattern i => readPattern i
  | .setSignals q => setSignals q
  | .runStart => runStart
  | .runStop => runStop
  | .flush => flush
  | .restart => restart
  | .verify q => verify q
  | .setupSave => setupSave
  | .setupReload => setupReload
  | _ => fun _ s => s

theorem setChannel_size (q : ChannelFields) : q.size = 90 + 4 * q.curve.length := by
  simp only [ChannelFields.size, GateFields.size]
  omega

theorem setPattern_size (q : SetPatternFields) : q.size = if q.entry = none then 2 else 19 := by
  unfold SetPatternFields.size
  cases q.entry <;> rfl

/-- A request command other than SET_CHANNEL takes its request as its kind and size say, whatever it then does. -/
theorem exec_request {c : Instr} {k : RequestKind} {n : Nat} (hc : requestOf c = some (k, n))
    (hne : ∀ q, c ≠ .setChannel q) (s : State) : exec c s = .next (request k n s (requestAct c)) := by
  cases c <;> cases hc
  case setChannel q => exact absurd rfl (hne q)
  case setPattern q => rw [← setPattern_size]; rfl
  all_goals rfl

theorem exec_request_length {c : Instr} {k : RequestKind} {n : Nat} {s : State} {f : Frame} {rest : List Frame}
    (hc : requestOf c = some (k, n)) (hheads : requestHeads s k f rest) (hlen : f.body.length ≠ 4 + n)
    (hleaves : ∀ q r ch, c = .setChannel q → f.rail = some r → f.channel = some ch → ¬s.leaves r ch) :
    exec c s = .next (answered s f rest .length 0 .headOnly) := by
  by_cases hset : ∃ q, c = .setChannel q
  · obtain ⟨q, rfl⟩ := hset
    cases hc
    have htaken := execSetChannel_taken hheads.1 (fun r ch => hleaves q r ch rfl) q
    rw [setChannel_size, request_length hheads hlen] at htaken
    exact htaken
  · rw [exec_request hc (fun q h => hset ⟨q, h⟩), request_length hheads hlen]

/-- A request command with no request that fits changes nothing. -/
theorem exec_request_unfit {c : Instr} {k : RequestKind} {n : Nat} {s : State} (hc : requestOf c = some (k, n))
    (hfit : ¬ s.requestFits k) : exec c s = .next s := by
  by_cases hset : ∃ q, c = .setChannel q
  · obtain ⟨q, rfl⟩ := hset
    cases hc
    show Host.Outcome.next _ = _
    rw [request_none (takeRequest_none hfit), ite_self]
  · rw [exec_request hc (fun q h => hset ⟨q, h⟩), request_none (takeRequest_none hfit)]

/-! ### O46: unfit requests -/

theorem namesRequest_eq_false {k : Byte} : namesRequest k = false ↔ k.toNat = 0 ∨ 0x1C < k.toNat := by
  rw [namesRequest, Bool.and_eq_false_iff, decide_eq_false_iff_not, decide_eq_false_iff_not]
  omega

theorem unknownRequest_taken {s : State} {f : Frame} {rest : List Frame} (hin : s.line.input = f :: rest)
    (hroom : s.line.replies.length < 4) (hkind : f.kind.toNat = 0 ∨ 0x1C < f.kind.toNat) :
    unknownRequest s = answered s f rest .unknown 0 .headOnly := by
  simp only [unknownRequest, hin]
  exact if_pos ⟨hroom, namesRequest_eq_false.mpr hkind⟩

theorem unknownRequest_idle {s : State}
    (h : ¬ ∃ f rest, s.line.input = f :: rest ∧ s.line.replies.length < 4 ∧ (f.kind.toNat = 0 ∨ 0x1C < f.kind.toNat)) :
    unknownRequest s = s := by
  unfold unknownRequest
  split
  · rfl
  · next f rest hin => exact if_neg fun ⟨hroom, hkind⟩ => h ⟨f, rest, hin, hroom, namesRequest_eq_false.mp hkind⟩

theorem railOf_eq (b : Byte) : railOf b.toNat = if b = 0 then some .left else if b = 1 then some .right else none := by
  by_cases h0 : b = 0
  · subst h0; rfl
  by_cases h1 : b = 1
  · subst h1; rfl
  rw [if_neg h0, if_neg h1]
  have hn0 : b.toNat ≠ 0 := fun h => h0 (BitVec.eq_of_toNat_eq h)
  have hn1 : b.toNat ≠ 1 := fun h => h1 (BitVec.eq_of_toNat_eq h)
  match hb : b.toNat, hn0, hn1 with
  | n + 2, _, _ => rfl

theorem indexBelow_eq_some {n v : Nat} {i : Fin n} : indexBelow n v = some i ↔ v = i.val := by
  unfold indexBelow
  split
  · simp [Fin.ext_iff]
  · next h => exact ⟨nofun, fun e => absurd (e ▸ i.isLt) h⟩

/-- Settles O46: an unknown kind and a wrong length are answered; with four replies waiting nothing is taken. -/
theorem unfitRequestsAreAnswered : Obligations.UnfitRequestsAreAnswered := by
  refine ⟨fun s f rest => ⟨fun hin hroom hkind => congrArg Host.Outcome.next (unknownRequest_taken hin hroom hkind),
    fun c k n hc hheads hlen hleaves => exec_request_length hc hheads hlen hleaves, fun hfull c hc => ?_⟩, by decide,
    fun k t r c fields f hf => ?_⟩
  · obtain rfl | hc := hc
    · exact congrArg Host.Outcome.next (unknownRequest_idle fun ⟨_, _, _, hroom, _⟩ => absurd hroom (Nat.not_lt.mpr hfull))
    · obtain ⟨⟨k, n⟩, hkn⟩ := Option.ne_none_iff_exists'.mp hc
      exact exec_request_unfit hkn fun ⟨_, _, _, hroom, _⟩ => absurd hroom (Nat.not_lt.mpr hfull)
  · subst hf
    exact ⟨rfl, rfl, railOf_eq r, fun ch => indexBelow_eq_some⟩

end Sys2Proof.Machine
end

section
/-! PROOFS. Commands with nothing to take (O4). -/

namespace Sys2Proof.Machine

section Idle

variable {s : State} {r : Rail}

/-! ### The travel unit, the firing units and the router -/

theorem encoderCount_idle {e : Edge} (h : ¬ countSign s.setup.travel.sense e ≠ none) : encoderCount e s = s := by
  simp only [encoderCount, not_not.mp h]

theorem standstillExpiry_idle (h : ¬ (s.travel.lastCount ≠ none ∧ s.travel.motion ≠ .standstill)) : standstillExpiry s = s := by
  unfold standstillExpiry
  split
  · rfl
  · next t ht => exact if_pos (not_not.mp fun hm => h ⟨by rw [ht]; nofun, hm⟩)

theorem pitchEvent_without_event (h : ¬ (s.firing.get r).pitchEvents ≠ []) : pitchEvent r s = s := by
  simp only [pitchEvent, not_not.mp h]

theorem groupCompletion_idle (h : ¬ (s.firing.get r).flight ≠ none) (l : LaneSamples) : groupCompletion r l s = s := by
  simp only [groupCompletion, not_not.mp h]

theorem frontierRetirement_idle (h : ¬ s.landmarks.frontiers ≠ []) : frontierRetirement s = s := by
  simp only [frontierRetirement, not_not.mp h]

theorem carPositionChange_idle (h : ¬ (s.marking.get r).moves ≠ []) : carPositionChange r s = s := by
  simp only [carPositionChange, not_not.mp h]

theorem markRequest_idle (h : ¬ (s.marking.get r).requests ≠ []) : markRequest r s = s := by
  simp only [markRequest, not_not.mp h]

theorem sprayEnd_idle (h : ¬ (s.marking.get r).sprayEnd ≠ none) : sprayEnd r s = s := by
  simp only [sprayEnd, not_not.mp h]

theorem signalPulse_idle (h : ¬ s.router.pulses ≠ []) : signalPulse s = s := by
  simp only [signalPulse, not_not.mp h]

theorem signalLevelChange_idle (h : ¬ s.router.levels ≠ []) : signalLevelChange s = s := by
  simp only [signalLevelChange, not_not.mp h]

theorem stretchEnd_idle {l : SignalLine} (h : ¬ s.router.stretchEnd[l] ≠ none) : stretchEnd l s = s := by
  simp only [stretchEnd, not_not.mp h]

/-! ### The echo processors -/

/-- An input whose turn it is stands first, with no completion in tracking. -/
theorem echoTurn_some {x : EchoItem} (h : s.echoTurn r = some x) : (s.echo.get r).inbox.head? = some x ∧ ¬ s.tracks r := by
  by_cases ht : s.tracks r
  · rw [echoTurn_waits ht] at h; cases h
  · exact ⟨(echoTurn_first ht).symm.trans h, ht⟩

theorem completionProcessing_idle (h : ¬ ((∃ pf g cs, (s.echo.get r).inbox.head? = some (.completion pf g cs)) ∧ ¬s.tracks r)) :
    completionProcessing r s = s := by
  unfold completionProcessing
  split
  · next pf g cs hx => exact absurd ⟨⟨pf, g, cs, (echoTurn_some hx).1⟩, (echoTurn_some hx).2⟩ h
  · rfl

theorem commitHandover_idle (h : ¬ ((∃ a b, (s.echo.get r).inbox.head? = some (.commit a b)) ∧ ¬s.tracks r)) :
    commitHandover r s = s := by
  unfold commitHandover
  split
  · next a b hx => exact absurd ⟨⟨a, b, (echoTurn_some hx).1⟩, (echoTurn_some hx).2⟩ h
  · rfl

theorem echoFlushNotice_idle (h : ¬ ((s.echo.get r).inbox.head? = some .flush ∧ ¬s.tracks r)) : echoFlushNotice r s = s := by
  unfold echoFlushNotice
  split
  · next hx => exact absurd (echoTurn_some hx) h
  · rfl

theorem echoDrainNotice_idle (h : ¬ ((s.echo.get r).inbox.head? = some .drain ∧ ¬s.tracks r)) : echoDrainNotice r s = s := by
  unfold echoDrainNotice
  split
  · next hx => exact absurd (echoTurn_some hx) h
  · rfl

/-! ### The trackers -/

theorem trackerHit_idle (h : ¬ ∃ k, (s.tracker.get r).inbox.head? = some (.hit k) ∧ ¬s.streams r k) : trackerHit r s = s := by
  unfold trackerHit
  split
  · next k hk => exact if_pos (not_not.mp fun hw => h ⟨k, hk, fun hs => hw ((hitRecordWaits_iff s r k).mpr hs)⟩)
  · rfl

theorem channelEndNotice_idle (h : ¬ ∃ ch pf, (s.tracker.get r).inbox.head? = some (.channelEnd ch pf)) :
    channelEndNotice r s = s := by
  unfold channelEndNotice
  split
  · next ch pf hx => exact absurd ⟨ch, pf, hx⟩ h
  · rfl

theorem trackerCompletionNotice_idle (h : ¬ ∃ pf, (s.tracker.get r).inbox.head? = some (.completion pf)) :
    trackerCompletionNotice r s = s := by
  unfold trackerCompletionNotice
  split
  · next pf hx => exact absurd ⟨pf, hx⟩ h
  · rfl

theorem trackerCommitLeaving_idle (h : ¬ ∃ chs, (s.tracker.get r).inbox.head? = some (.leaving chs)) :
    trackerCommitLeaving r s = s := by
  unfold trackerCommitLeaving
  split
  · next chs hx => exact absurd ⟨chs, hx⟩ h
  · rfl

theorem trackerFlushNotice_idle (h : ¬ (s.tracker.get r).inbox.head? = some .flush) : trackerFlushNotice r s = s := by
  unfold trackerFlushNotice
  split
  · next hx => exact absurd hx h
  · rfl

theorem trackerDrainNotice_idle (h : ¬ (s.tracker.get r).inbox.head? = some .drain) : trackerDrainNotice r s = s := by
  unfold trackerDrainNotice
  split
  · next hx => exact absurd hx h
  · rfl

/-! ### The finding assemblers and the run controller -/

theorem takeIndication_idle (h : ¬ ∃ i, (s.assembler.get r).inbox.head? = some (.indication i)) : takeIndication r s = s := by
  unfold takeIndication
  split
  · next i hx => exact absurd ⟨i, hx⟩ h
  · rfl

theorem settleCheck_idle (h : ¬ ∃ pf, (s.assembler.get r).inbox.head? = some (.completion pf)) : settleCheck r s = s := by
  unfold settleCheck
  split
  · next pf hx => exact absurd ⟨pf, hx⟩ h
  · rfl

theorem assemblerFlushNotice_idle (h : ¬ (s.assembler.get r).inbox.head? = some .flush) : assemblerFlushNotice r s = s := by
  unfold assemblerFlushNotice
  split
  · next hx => exact absurd hx h
  · rfl

theorem assemblerDrainNotice_idle (h : ¬ (s.assembler.get r).inbox.head? = some .drain) : assemblerDrainNotice r s = s := by
  unfold assemblerDrainNotice
  split
  · next hx => exact absurd hx h
  · rfl

theorem calFiringStart_idle (h : ¬ ∃ c, s.run.operation = some (.calibration c) ∧ c.done < 16 ∧
    (s.firing.get c.rail).operationFlight = none) : calFiringStart s = s := by
  unfold calFiringStart
  split
  · next c hc => exact if_neg fun hstart => h ⟨c, hc, hstart⟩
  · rfl

theorem calFiringCompletion_idle (h : ¬ ∃ c, s.run.operation = some (.calibration c) ∧
    (s.firing.get c.rail).operationFlight ≠ none ∧ (c.done + 1 < 16 ∨ s.line.inbox = [])) (signal : List Nat) :
    calFiringCompletion signal s = s := by
  unfold calFiringCompletion
  split
  · next c hc =>
    dsimp only
    split
    · rfl
    · next f hf =>
      have hflight : (s.firing.get c.rail).operationFlight ≠ none := by rw [hf]; nofun
      have hlast : ¬ c.done + 1 < 16 := fun k => h ⟨c, hc, hflight, .inl k⟩
      have hwait : ¬ s.line.inbox.isEmpty = true := fun k => h ⟨c, hc, hflight, .inr (List.isEmpty_iff.mp k)⟩
      exact (if_neg hlast).trans (if_neg hwait)
  · rfl

theorem verifyFiringStart_idle (h : ¬ ∃ v, s.run.operation = some (.verification v) ∧ v.results.length < v.order.length ∧
    (s.firing.get v.rail).operationFlight = none) : verifyFiringStart s = s := by
  unfold verifyFiringStart
  split
  · next v hv =>
    split
    · next ch hch hidle => exact absurd ⟨v, hv, (List.getElem?_eq_some_iff.mp hch).1, hidle⟩ h
    · rfl
  · rfl

theorem verifyFiringCompletion_idle (h : ¬ ∃ v, s.run.operation = some (.verification v) ∧
    (s.firing.get v.rail).operationFlight ≠ none ∧ (v.results.length + 1 < v.order.length ∨ s.line.inbox = [])) :
    verifyFiringCompletion s = s := by
  unfold verifyFiringCompletion
  split
  · next v hv =>
    dsimp only
    split
    · rfl
    · next f hf =>
      have hflight : (s.firing.get v.rail).operationFlight ≠ none := by rw [hf]; nofun
      have hlast : ¬ v.results.length + 1 < v.order.length := fun k => h ⟨v, hv, hflight, .inl k⟩
      have hwait : ¬ s.line.inbox.isEmpty = true := fun k => h ⟨v, hv, hflight, .inr (List.isEmpty_iff.mp k)⟩
      rw [List.length_append, List.length_singleton, if_neg hlast, if_neg hwait]
  · rfl

theorem railDrained_idle (h : ¬ (s.run.state = .draining ∧ s.run.drainNotices.get r = true)) : railDrained r s = s := if_neg h

theorem setupSaveComplete_idle (h : ¬ s.run.writing ≠ none) (matched : Bool) : setupSaveComplete matched s = s := by
  simp only [setupSaveComplete, not_not.mp h]

/-! ### The host line -/

/-- Only the last byte of a CRC completes a frame. -/
theorem takeByte_eq_valid {x : Receiver} {b : Byte} {body : List Byte} (h : x.takeByte b = .valid body) :
    ∃ k l c, x = .check k l body (some c) ∧ crc16 (k :: l :: body) = c ++ b := by
  unfold Receiver.takeByte at h
  split at h
  case h_7 k l whole c =>
    split at h
    · next hcrc =>
      cases h
      exact ⟨k, l, c, rfl, hcrc⟩
    · cases h
  case h_4 | h_5 => split at h <;> cases h
  all_goals cases h

/-- With its stop bit a byte discards a frame for its length or its CRC. -/
theorem takeByte_eq_discarded {x : Receiver} {b : Byte} (h : x.takeByte b = .discarded) :
    (∃ k : Byte, x = .length (some k) ∧ (k.toNat * 256 + b.toNat < 4 ∨ 2040 < k.toNat * 256 + b.toNat)) ∨
      ∃ (k l c : Byte) (whole : List Byte), x = .check k l whole (some c) ∧ crc16 (k :: l :: whole) ≠ c ++ b := by
  unfold Receiver.takeByte at h
  split at h
  case h_4 k =>
    split at h
    · cases h
    · next hlen =>
      rw [lengthInRange_iff, word2] at hlen
      exact .inl ⟨k, rfl, by omega⟩
  case h_7 k l whole c =>
    split at h
    · cases h
    · next hcrc => exact .inr ⟨k, l, c, whole, rfl, hcrc⟩
  case h_5 => split at h <;> cases h
  all_goals cases h

theorem frameReceived_idle {b : Byte} (h : ¬ s.awaits (.frameReceived b)) : frameReceived b s = s := by
  unfold frameReceived
  split
  · next body hbody =>
    obtain ⟨k, l, c, hreceiver, hcrc⟩ := takeByte_eq_valid hbody
    exact absurd ⟨k, l, c, body, hreceiver, hcrc⟩ h
  · rfl
  · rfl

theorem frameError_idle {b : Byte} {stop : Bool} (h : ¬ s.awaits (.frameError b stop)) : frameError b stop s = s := by
  unfold frameError
  split
  · next hbyte =>
    refine absurd ?_ h
    cases stop with
    | true => exact (takeByte_eq_discarded hbyte).imp (⟨rfl, ·⟩) (fun k => .inl ⟨rfl, k⟩)
    | false =>
      refine .inr (.inr ⟨rfl, fun hr => ?_, fun hr => ?_⟩) <;> rw [hr] at hbyte <;> cases hbyte
  · rfl
  · rfl

theorem interByteTimeout_idle (h : ¬ (s.line.receiver ≠ .hunt ∧ s.line.receiver ≠ .sync)) : interByteTimeout s = s := by
  by_cases hhunt : s.line.receiver = .hunt
  · rw [interByteTimeout, hhunt]; rfl
  · have hsync : s.line.receiver = .sync := not_not.mp fun k => h ⟨hhunt, k⟩
    rw [interByteTimeout, hsync]; rfl

theorem sendReply_idle (h : ¬ (s.line.sending = none ∧ s.line.replies ≠ [])) : sendReply s = s := by
  unfold sendReply
  split
  · next p rest hs hp => exact absurd ⟨hs, by rw [hp]; nofun⟩ h
  · rfl

theorem sendBundle_idle (h : ¬ (s.line.sending = none ∧ s.line.replies = [] ∧ s.line.bundle.state = .ready)) : sendBundle s = s := by
  unfold sendBundle
  split
  · next hs hp hb => exact absurd ⟨hs, hp, hb⟩ h
  · rfl

theorem recordOffer_idle (h : ¬ ∃ x, s.line.inbox.head? = some (.offer x)) : recordOffer s = s := by
  unfold recordOffer
  split
  · next x rest hx => exact absurd ⟨x, by rw [hx]; rfl⟩ h
  · rfl

theorem bundleFlushExpiry_idle (h : ¬ (s.line.bundle.state = .open ∧ s.line.bundle.flushEnd ≠ none)) : bundleFlushExpiry s = s := by
  unfold bundleFlushExpiry
  split
  · next t hs ht => exact absurd ⟨hs, by rw [ht]; nofun⟩ h
  · rfl

theorem changeHandover_idle (h : ¬ ∃ c, s.line.inbox.head? = some (.change c)) : changeHandover s = s := by
  unfold changeHandover
  split
  · next c rest hx => exact absurd ⟨c, by rw [hx]; rfl⟩ h
  · rfl

theorem statusTimerExpiry_idle (h : ¬ (s.line.statusEnd ≠ none ∧ s.line.inbox = [])) : statusTimerExpiry s = s := by
  unfold statusTimerExpiry
  split
  · rfl
  · rfl
  · next t ht hempty => exact absurd ⟨by rw [ht]; nofun, hempty⟩ h

theorem silenceExpiry_idle (h : ¬ s.line.silenceEnd ≠ none) : silenceExpiry s = s := by
  simp only [silenceExpiry, not_not.mp h]

end Idle

/-- SET_CHANNEL with no request that fits, or while the channel that its request names is leaving. -/
theorem setChannel_idle {s : State} (q : ChannelFields) (h : ¬ s.awaits (.setChannel q)) : exec (.setChannel q) s = .next s := by
  by_cases hfit : s.requestFits .setChannel
  · obtain ⟨f, rest, hheads⟩ := hfit
    have hin : s.line.input = f :: rest := hheads.1
    obtain ⟨r, ch, hr, hch, hleaves⟩ : ∃ r ch, f.rail = some r ∧ f.channel = some ch ∧ s.leaves r ch := by
      by_contra hno
      refine h ⟨⟨f, rest, hheads⟩, fun f' r ch hf' hr hch hleaves => hno ?_⟩
      rw [hin] at hf'
      cases hf'
      exact ⟨r, ch, hr, hch, hleaves⟩
    exact execSetChannel_waits hin hr hch hleaves q
  · exact exec_request_unfit rfl hfit

/-- Settles O4: each command without what it takes answers the state it was given. -/
theorem aCommandWithNothingToTakeChangesNothing : Obligations.ACommandWithNothingToTakeChangesNothing := by
  intro c s h
  cases c with
  | powerOn => exact absurd trivial h
  | resetInput => exact absurd trivial h
  | speedWindowEnd => exact absurd trivial h
  | lineByteReceived => exact absurd trivial h
  | frameSendEnd => exact absurd trivial h
  | encoderCount => exact congrArg Host.Outcome.next (encoderCount_idle h)
  | standstillExpiry => exact congrArg Host.Outcome.next (standstillExpiry_idle h)
  | pitchEvent => exact congrArg Host.Outcome.next (pitchEvent_without_event h)
  | groupCompletion => exact congrArg Host.Outcome.next (groupCompletion_idle h _)
  | completionProcessing => exact congrArg Host.Outcome.next (completionProcessing_idle h)
  | commitHandover => exact congrArg Host.Outcome.next (commitHandover_idle h)
  | echoFlushNotice => exact congrArg Host.Outcome.next (echoFlushNotice_idle h)
  | echoDrainNotice => exact congrArg Host.Outcome.next (echoDrainNotice_idle h)
  | trackerHit => exact congrArg Host.Outcome.next (trackerHit_idle h)
  | channelEndNotice => exact congrArg Host.Outcome.next (channelEndNotice_idle h)
  | trackerCompletionNotice => exact congrArg Host.Outcome.next (trackerCompletionNotice_idle h)
  | trackerCommitLeaving => exact congrArg Host.Outcome.next (trackerCommitLeaving_idle h)
  | trackerFlushNotice => exact congrArg Host.Outcome.next (trackerFlushNotice_idle h)
  | trackerDrainNotice => exact congrArg Host.Outcome.next (trackerDrainNotice_idle h)
  | indication => exact congrArg Host.Outcome.next (takeIndication_idle h)
  | settleCheck => exact congrArg Host.Outcome.next (settleCheck_idle h)
  | assemblerFlushNotice => exact congrArg Host.Outcome.next (assemblerFlushNotice_idle h)
  | assemblerDrainNotice => exact congrArg Host.Outcome.next (assemblerDrainNotice_idle h)
  | railDrained => exact congrArg Host.Outcome.next (railDrained_idle h)
  | frontierRetirement => exact congrArg Host.Outcome.next (frontierRetirement_idle h)
  | carPositionChange => exact congrArg Host.Outcome.next (carPositionChange_idle h)
  | markRequest => exact congrArg Host.Outcome.next (markRequest_idle h)
  | sprayEnd => exact congrArg Host.Outcome.next (sprayEnd_idle h)
  | signalPulse => exact congrArg Host.Outcome.next (signalPulse_idle h)
  | signalLevelChange => exact congrArg Host.Outcome.next (signalLevelChange_idle h)
  | stretchEnd => exact congrArg Host.Outcome.next (stretchEnd_idle h)
  | calFiringStart => exact congrArg Host.Outcome.next (calFiringStart_idle h)
  | calFiringCompletion => exact congrArg Host.Outcome.next (calFiringCompletion_idle h _)
  | verifyFiringStart => exact congrArg Host.Outcome.next (verifyFiringStart_idle h)
  | verifyFiringCompletion => exact congrArg Host.Outcome.next (verifyFiringCompletion_idle h)
  | setupSaveComplete => exact congrArg Host.Outcome.next (setupSaveComplete_idle h _)
  | frameReceived => exact congrArg Host.Outcome.next (frameReceived_idle h)
  | frameError => exact congrArg Host.Outcome.next (frameError_idle h)
  | interByteTimeout => exact congrArg Host.Outcome.next (interByteTimeout_idle h)
  | unknownRequest => exact congrArg Host.Outcome.next (unknownRequest_idle h)
  | sendReply => exact congrArg Host.Outcome.next (sendReply_idle h)
  | sendBundle => exact congrArg Host.Outcome.next (sendBundle_idle h)
  | recordOffer => exact congrArg Host.Outcome.next (recordOffer_idle h)
  | bundleFlushExpiry => exact congrArg Host.Outcome.next (bundleFlushExpiry_idle h)
  | changeHandover => exact congrArg Host.Outcome.next (changeHandover_idle h)
  | statusTimerExpiry => exact congrArg Host.Outcome.next (statusTimerExpiry_idle h)
  | silenceExpiry => exact congrArg Host.Outcome.next (silenceExpiry_idle h)
  | setChannel q => exact setChannel_idle q h
  | _ => exact exec_request_unfit rfl h

end Sys2Proof.Machine
end

section
/-! PROOFS. An offered record at the report queue (O48), and the timers of the line (O49). -/

namespace Sys2Proof.Machine

/-! ### The bundle over a queue (R179) -/

/-- The bytes of some records. -/
def lengthSum (rs : List Record) : Nat := (rs.map Record.length).sum

theorem bodyLength_eq (rs : List Record) : bodyLength rs = 4 + lengthSum rs := rfl

theorem lengthSum_cons (r : Record) (rs : List Record) : lengthSum (r :: rs) = r.length + lengthSum rs := by simp [lengthSum]

theorem lengthSum_append (rs ss : List Record) : lengthSum (rs ++ ss) = lengthSum rs + lengthSum ss := by simp [lengthSum]

theorem lengthSum_take_le (n : Nat) (rs : List Record) : lengthSum (rs.take n) ≤ lengthSum rs := by
  conv => rhs; rw [← List.take_append_drop n rs, lengthSum_append]
  exact Nat.le_add_right _ _

/-- The records that join fit. -/
theorem joinFurther_fits {cap body : Nat} (hbody : body ≤ cap) (rs : List Record) :
    body + lengthSum (rs.take (joinFurther cap body rs).1) ≤ cap := by
  induction rs generalizing body with
  | nil => exact hbody
  | cons r rest ih =>
    unfold joinFurther
    split
    · next hfit =>
      have := ih hfit
      rw [List.take_succ_cons, lengthSum_cons]
      omega
    · exact hbody

/-- Where the joining stops, one record more does not fit. -/
theorem joinFurther_stops {cap body : Nat} {rs : List Record} (h : (joinFurther cap body rs).2 = true) :
    (joinFurther cap body rs).1 < rs.length ∧ cap < body + lengthSum (rs.take ((joinFurther cap body rs).1 + 1)) := by
  induction rs generalizing body with
  | nil => cases h
  | cons r rest ih =>
    unfold joinFurther at h ⊢
    split at h
    · next hfit =>
      obtain ⟨hlt, hover⟩ := ih h
      rw [if_pos hfit, List.take_succ_cons, lengthSum_cons]
      dsimp only
      exact ⟨Nat.succ_lt_succ hlt, by omega⟩
    · next hfit =>
      rw [if_neg hfit, List.take_succ_cons, lengthSum_cons]
      exact ⟨Nat.zero_lt_succ _, by omega⟩

theorem openBundle_long {cap : Nat} {r : Record} (hlong : cap < bundleBody [r]) (flushEnd : Nat) (rest : List Record) :
    openBundle cap flushEnd (r :: rest) = ⟨.ready, 1, none⟩ := if_pos hlong

theorem openBundle_cons {cap : Nat} {r : Record} (hfits : ¬ cap < bundleBody [r]) (flushEnd : Nat) (rest : List Record) :
    openBundle cap flushEnd (r :: rest) =
      if (joinFurther cap (bundleBody [r]) rest).2 then ⟨.ready, (joinFurther cap (bundleBody [r]) rest).1 + 1, none⟩
      else ⟨.open, (joinFurther cap (bundleBody [r]) rest).1 + 1, some flushEnd⟩ := if_neg hfits

/-- An EMPTY bundle takes the longest run of records from the queue's head that fits. -/
theorem openBundle_isFilled (cap flushEnd : Nat) (queue : List Record) :
    isFilled cap flushEnd queue (openBundle cap flushEnd queue) := by
  cases queue with
  | nil => exact .inl ⟨rfl, rfl⟩
  | cons r rest =>
    have hfirst : bundleBody [r] = 4 + r.length := by simp [bundleBody]
    by_cases hlong : cap < bundleBody [r]
    · rw [openBundle_long hlong]
      have hover (n : Nat) : cap < bodyLength (r :: rest.take n) := by rw [bodyLength_eq, lengthSum_cons]; omega
      exact .inr <| .inr ⟨by simpa using hover rest.length, rfl, rfl, Nat.le_refl 1, Nat.succ_le_succ (Nat.zero_le _), .inl rfl,
        fun _ => hover 1⟩
    · rw [openBundle_cons hlong]
      have hfits := joinFurther_fits (Nat.le_of_not_lt hlong) rest
      cases hstop : (joinFurther cap (bundleBody [r]) rest).2 with
      | true =>
        obtain ⟨hlt, hover⟩ := joinFurther_stops hstop
        have hall := lengthSum_take_le ((joinFurther cap (bundleBody [r]) rest).1 + 1) rest
        refine .inr (.inr ?_)
        simp only [if_true, List.length_cons, List.take_succ_cons, bodyLength_eq, lengthSum_cons]
        exact ⟨by omega, trivial, trivial, by omega, by omega, .inr (by omega), fun _ => by omega⟩
      | false =>
        have hall := joinFurther_fst_eq hstop
        rw [hall, List.take_length] at hfits
        refine .inr (.inl ⟨nofun, ?_, ?_⟩)
        · rw [bodyLength_eq, lengthSum_cons]; omega
        · simp only [hall, List.length_cons]
          rfl

/-! ### A record appended -/

theorem refill_eq {s : State} (h : s.line.bundle.state = .empty) : refill s =
    s.setLine { s.line with bundle := openBundle s.setup.reporting.cap s.flushEnd s.line.queue } := if_pos h

section

variable {s : State} {before : List Record} {x : Record}

theorem joinAppended_empty (h : s.line.bundle.state = .empty) : joinAppended before x s = refill s := by
  simp only [joinAppended, h]

theorem joinAppended_ready (h : s.line.bundle.state = .ready) : joinAppended before x s = s := by
  simp only [joinAppended, h]

theorem joinAppended_open (h : s.line.bundle.state = .open) : joinAppended before x s =
    if bundleBody before + x.length ≤ s.setup.reporting.cap then
      s.setLine { s.line with bundle := { s.line.bundle with held := s.line.bundle.held + 1 } }
    else s.setLine { s.line with bundle := { s.line.bundle with state := .ready, flushEnd := none } } := by
  simp only [joinAppended, h]

end

theorem joinAppended_eq {s : State} {before : List Record} {x : Record} (hqueue : s.line.queue = before ++ [x]) :
    ∃ b, isJoined s.setup.reporting.cap s.flushEnd before x s.line.bundle b ∧
      joinAppended before x s = s.setLine { s.line with bundle := b } := by
  have hbody : bodyLength (before ++ [x]) = bundleBody before + x.length := by
    rw [bodyLength_eq, lengthSum_append, ← Nat.add_assoc]
    simp [lengthSum, bundleBody]
  obtain hempty | hready | hopen : s.line.bundle.state = .empty ∨ s.line.bundle.state = .ready ∨ s.line.bundle.state = .open := by
    cases s.line.bundle.state <;> simp
  · refine ⟨openBundle s.setup.reporting.cap s.flushEnd s.line.queue, ⟨fun _ => hqueue ▸ openBundle_isFilled _ _ s.line.queue,
      fun h => absurd (hempty.symm.trans h) nofun, fun h => absurd (hempty.symm.trans h) nofun⟩, ?_⟩
    rw [joinAppended_empty hempty, refill_eq hempty]
  · exact ⟨s.line.bundle, ⟨fun h => absurd (hready.symm.trans h) nofun, fun _ => rfl, fun h => absurd (hready.symm.trans h) nofun⟩,
      joinAppended_ready hready⟩
  · rw [joinAppended_open hopen]
    refine ⟨_, ⟨fun h => absurd (hopen.symm.trans h) nofun, fun h => absurd (hopen.symm.trans h) nofun, fun _ => rfl⟩, ?_⟩
    rw [hbody]
    split <;> rfl

/-- A record appended behind a queue: a STATUS record takes the occupancy, and the bundle is as R179 gives. -/
theorem appendRecord_eq (x : Record) (s : State) :
    ∃ b, isJoined s.setup.reporting.cap s.flushEnd s.line.queue (x.withOccupancy s.line.queue.length) s.line.bundle b ∧
      appendRecord x s =
        s.setLine { s.line with queue := s.line.queue ++ [x.withOccupancy s.line.queue.length], bundle := b } :=
  joinAppended_eq (s := s.setLine { s.line with queue := s.line.queue ++ [x.withOccupancy s.line.queue.length] }) rfl

/-! ### The newest LOW record -/

theorem newestLow_append {as bs : List Record} {d : Record} (hd : d.isLow = true) (hbs : ∀ z ∈ bs, z.isLow = false) :
    newestLow (as ++ d :: bs) = some as.length := by
  have hnone : bs.reverse.findIdx? Record.isLow = none :=
    List.findIdx?_eq_none_iff.mpr fun z hz => hbs z (List.mem_reverse.mp hz)
  have hfind : (as ++ d :: bs).reverse.findIdx? Record.isLow = some bs.length := by
    rw [List.reverse_append, List.reverse_cons, List.append_assoc, List.findIdx?_append, hnone]
    simp [List.findIdx?_cons, hd]
  rw [newestLow, hfind, Option.map_some, List.length_append, List.length_cons]
  exact congrArg some (by omega)

theorem newestLow_none {q : List Record} (h : ∀ z ∈ q, z.isLow = false) : newestLow q = none := by
  have hnone : q.reverse.findIdx? Record.isLow = none :=
    List.findIdx?_eq_none_iff.mpr fun z hz => h z (List.mem_reverse.mp hz)
  rw [newestLow, hnone]
  rfl

/-- A LOW record taken out of the queue and of the bundle that holds it. -/
theorem displace_eq {s : State} {as bs : List Record} {d : Record} (hqueue : s.line.queue = as ++ d :: bs) :
    ∃ b0 b1, (as.length < s.line.bundle.held →
        b0 = if s.line.bundle.held ≤ 1 then ⟨.empty, 0, none⟩ else { s.line.bundle with held := s.line.bundle.held - 1 }) ∧
      (s.line.bundle.held ≤ as.length → b0 = s.line.bundle) ∧
      (b0.state = .empty → isFilled s.setup.reporting.cap s.flushEnd (as ++ bs) b1) ∧ (b0.state ≠ .empty → b1 = b0) ∧
      displace as.length s =
        s.setLine { s.line with queue := as ++ bs, dropped := raiseCounter s.line.dropped, bundle := b1 } := by
  have herase : s.line.queue.eraseIdx as.length = as ++ bs := by
    rw [hqueue, List.eraseIdx_append_of_length_le (Nat.le_refl _), Nat.sub_self]
    rfl
  let b0 := if as.length < s.line.bundle.held then s.line.bundle.without else s.line.bundle
  have hdisplace : displace as.length s =
      refill (s.setLine { s.line with queue := as ++ bs, dropped := raiseCounter s.line.dropped, bundle := b0 }) := by
    rw [displace, herase]
  by_cases hempty : b0.state = .empty
  · exact ⟨b0, _, fun h => if_pos h, fun h => if_neg (Nat.not_lt.mpr h), fun _ => openBundle_isFilled _ _ _,
      fun h => absurd hempty h, hdisplace.trans (refill_eq hempty)⟩
  · exact ⟨b0, b0, fun h => if_pos h, fun h => if_neg (Nat.not_lt.mpr h), fun h => absurd h hempty, fun _ => rfl,
      hdisplace.trans (if_neg hempty)⟩

theorem loseRecord_eq (s : State) : loseRecord s =
    s.setLine { s.line with
      inbox := onChange s.line.loss true (.change .loss) ++ s.line.inbox, lost := raiseCounter s.line.lost, loss := true } := by
  unfold loseRecord
  cases hloss : s.line.loss <;> rfl

/-! ### O48: an offer taken -/

theorem takeOffer_low_full {s : State} {x : Record} (hlow : x.isLow = true)
    (hfull : s.setup.reporting.highWater ≤ s.line.queue.length) :
    takeOffer x s = s.setLine { s.line with dropped := raiseCounter s.line.dropped } := by
  rw [takeOffer, if_pos hlow, if_pos hfull]

theorem takeOffer_joins {s : State} {x : Record} (hroom : (x.isLow = true ∧ s.line.queue.length < s.setup.reporting.highWater) ∨
    (x.isLow = false ∧ s.line.queue.length < 256)) : takeOffer x s = appendRecord x s := by
  unfold takeOffer
  obtain ⟨hlow, hroom⟩ | ⟨hhigh, hroom⟩ := hroom
  · rw [if_pos hlow, if_neg (Nat.not_le.mpr hroom)]
  · rw [if_neg (by rw [hhigh]; nofun)]
    exact if_pos hroom

theorem takeOffer_displaces {s : State} {x : Record} (hhigh : x.isLow = false) (hfull : 256 ≤ s.line.queue.length) {k : Nat}
    (hk : newestLow s.line.queue = some k) : takeOffer x s = appendRecord x (displace k s) := by
  unfold takeOffer
  rw [if_neg (by rw [hhigh]; nofun), hk]
  exact if_neg (Nat.not_lt.mpr hfull)

theorem takeOffer_loses {s : State} {x : Record} (hhigh : x.isLow = false) (hfull : 256 ≤ s.line.queue.length)
    (hk : newestLow s.line.queue = none) : takeOffer x s = loseRecord s := by
  unfold takeOffer
  rw [if_neg (by rw [hhigh]; nofun), hk]
  exact if_neg (Nat.not_lt.mpr hfull)

theorem isOffered_iff (s : State) (x : Record) : s.isOffered x = true ↔
    ∀ h, x = .hit h → (s.setup.reporting.hitStream.get h.rail).getLsbD h.channel.val = true := by
  cases x with
  | hit h => exact ⟨fun k h' e => by cases e; exact k, fun k => k h rfl⟩
  | _ => exact ⟨fun _ _ e => (nomatch e), fun _ => rfl⟩

theorem isLow_iff (x : Record) : x.isLow = true ↔ (∃ h, x = .hit h) ∨ ∃ p, x = .snapshot p := by
  cases x with
  | hit h => exact ⟨fun _ => .inl ⟨h, rfl⟩, fun _ => rfl⟩
  | snapshot p => exact ⟨fun _ => .inr ⟨p, rfl⟩, fun _ => rfl⟩
  | _ => exact ⟨nofun, fun h => by obtain ⟨_, h⟩ | ⟨_, h⟩ := h <;> cases h⟩

theorem withOccupancy_other {x : Record} (h : ∀ r, x ≠ .status r) (n : Nat) : x.withOccupancy n = x := by
  cases x with
  | status r => exact absurd rfl (h r)
  | _ => rfl

/-- Settles O48: passed over, dropped, joined, joined in the place of the newest LOW record, or lost. -/
theorem anOfferedRecordIsQueuedOrLost : Obligations.AnOfferedRecordIsQueuedOrLost := by
  refine ⟨fun s x y rest q cap fe hin hq hcap hfe => ?_, isLow_iff, fun n => ⟨fun _ => rfl, fun x hx => withOccupancy_other hx n⟩,
    fun n hn => ?_⟩
  · subst hq hcap hfe
    have hexec : exec .recordOffer s = .next (if s.isOffered x then takeOffer x (s.setLine { s.line with inbox := rest })
        else s.setLine { s.line with inbox := rest }) := congrArg Host.Outcome.next (recordOffer_offer hin)
    refine ⟨fun h hx hout => ?_, fun hstream => ?_⟩
    · have hpass : ¬ s.isOffered x = true := fun k => by
        rw [(isOffered_iff s x).mp k h hx] at hout; cases hout
      rw [hexec, if_neg hpass]
      rfl
    rw [hexec, if_pos ((isOffered_iff s x).mpr hstream)]
    refine ⟨fun hlow hfull => ?_, fun hroom hy => ?_, fun hhigh hfull as bs d has hd hbs hy => ?_, fun hhigh hfull hnone => ?_⟩
    · rw [takeOffer_low_full (s := s.setLine { s.line with inbox := rest }) hlow hfull]
      rfl
    · subst hy
      obtain ⟨b, hb, hjoin⟩ := appendRecord_eq x (s.setLine { s.line with inbox := rest })
      exact ⟨b, hb, congrArg Host.Outcome.next ((takeOffer_joins (s := s.setLine { s.line with inbox := rest }) hroom).trans hjoin)⟩
    · subst hy
      have hk : newestLow (s.setLine { s.line with inbox := rest }).line.queue = some as.length := has ▸ newestLow_append hd hbs
      obtain ⟨b0, b1, h0, h0', h1, h1', hdisplace⟩ := displace_eq (s := s.setLine { s.line with inbox := rest }) has
      obtain ⟨b, hb, hjoin⟩ := appendRecord_eq x (displace as.length (s.setLine { s.line with inbox := rest }))
      rw [takeOffer_displaces (s := s.setLine { s.line with inbox := rest }) hhigh hfull hk, hjoin]
      rw [hdisplace] at hb ⊢
      refine ⟨b0, b1, b, h0, h0', h1, h1', ?_, ?_⟩
      · rw [← List.length_append]; exact hb
      · rw [← List.length_append]; rfl
    · rw [takeOffer_loses (s := s.setLine { s.line with inbox := rest }) hhigh hfull (newestLow_none hnone), loseRecord_eq]
      rfl
  · unfold raiseCounter raise Config.counterMax
    split <;> omega

/-! ### O49: the timers of the line and the change set -/

theorem takeOffer_setup_now (x : Record) (s : State) : (takeOffer x s).setup = s.setup ∧ (takeOffer x s).now = s.now := by
  have htouches : TouchesOnly [.line] s (takeOffer x s) := by simp
  exact ⟨htouches .setup (by decide), htouches .now (by decide)⟩

theorem statusTimerExpiry_eq {s : State} {t : Nat} (hend : s.line.statusEnd = some t) (hempty : s.line.inbox = []) :
    ∃ u, exec .recordOffer
        { s with
          now := max s.now t
          line :=
            { s.line with
              inbox := [.offer (.status (s.status .periodic))]
              changes := ⟨false, false, false, false, ⟨0, 0⟩⟩ } } = .next u ∧
      exec .statusTimerExpiry s = .next
        { u with
          line :=
            { u.line with
              statusEnd :=
                if s.setup.reporting.statusInterval = 0 then none
                else some (max s.now t + s.setup.reporting.statusInterval * 100000) } } := by
  have hsame : (offerStatus .periodic (s.advanceTo t)).setup = s.setup ∧
      (offerStatus .periodic (s.advanceTo t)).now = max s.now t := takeOffer_setup_now _ _
  refine ⟨offerStatus .periodic (s.advanceTo t), ?_, ?_⟩
  · have hinbox : (s.advanceTo t).line.inbox = [] := hempty
    rw [offerStatus_eq_recordOffer, hinbox]
    rfl
  · show Host.Outcome.next (statusTimerExpiry s) = _
    rw [statusTimerExpiry_taken hend hempty]
    generalize offerStatus .periodic (s.advanceTo t) = u at hsame ⊢
    rw [← hsame.1, ← hsame.2]
    rfl

/-- The marks of a change of coupling state: those that stand, and the channel's. -/
theorem enter_coupling (x : ChangeSet) (r : Rail) (ch : Channel) :
    ∃ marks : Rails Word16, x.enter (.coupling r ch) = { x with coupling := marks } ∧
      ∀ (q : Rail) (n : Nat), (marks.get q).getLsbD n = true ↔ (x.coupling.get q).getLsbD n = true ∨ (q = r ∧ n = ch.val) := by
  refine ⟨x.coupling.modify r (addChannel · ch), rfl, fun q n => ?_⟩
  by_cases hq : q = r
  · subst hq
    rw [Rails.modify, Rails.get_set_same]
    by_cases hn : n < 16
    · rw [getLsbD_addChannel _ _ hn, Bool.or_eq_true, decide_eq_true_eq]
      exact or_congr_right ⟨fun h => ⟨rfl, h.symm⟩, fun h => h.2.symm⟩
    · have hch : n ≠ ch.val := by omega
      rw [BitVec.getLsbD_of_ge _ _ (Nat.le_of_not_lt hn), BitVec.getLsbD_of_ge _ _ (Nat.le_of_not_lt hn)]
      simp [hch]
  · rw [Rails.modify, Rails.get_set_other _ hq]
    simp [hq]

/-- Settles O49: the four timers and a change handed over, and what a change enters. -/
theorem theTimersOfTheLine : Obligations.TheTimersOfTheLine := by
  refine ⟨fun s t => ⟨fun hopen hend => ?_, fun hwait => congrArg Host.Outcome.next (statusTimerExpiry_waits hwait),
    statusTimerExpiry_eq, fun hend => ?_, fun c rest u hin hu => ⟨fun hoff => ?_, fun hon => ?_⟩⟩,
    fun x => ⟨rfl, rfl, rfl, rfl, enter_coupling x⟩⟩
  · show Host.Outcome.next (bundleFlushExpiry s) = _
    simp only [bundleFlushExpiry, hopen, hend]
    rfl
  · show Host.Outcome.next (silenceExpiry s) = _
    simp only [silenceExpiry, hend, setSilence_eq]
    rfl
  · show Host.Outcome.next (changeHandover s) = _
    simp only [changeHandover, hin]
    rw [hu]
    exact congrArg Host.Outcome.next (if_neg (by simp [hoff]))
  · have hhand : changeHandover s = offerStatus .change u := by
      simp only [changeHandover, hin]
      rw [hu]
      exact if_pos hon
    refine ⟨offerStatus .change u, ?_, congrArg Host.Outcome.next hhand⟩
    rw [offerStatus_eq_recordOffer, hu]
    rfl

end Sys2Proof.Machine
end

section
/-! PROOFS. The requests that only read (O50). -/

namespace Sys2Proof.Machine

theorem indexBelow_eq_none {n v : Nat} : indexBelow n v = none ↔ n ≤ v := by
  unfold indexBelow
  split
  · next h => exact ⟨nofun, fun k => absurd h (Nat.not_lt.mpr k)⟩
  · next h => exact ⟨fun _ => Nat.le_of_not_lt h, fun _ => rfl⟩

theorem status_fields (s : State) (c : StatusCause) : (s.status c).cause = c ∧ (s.status c).runState = s.run.state ∧
    (s.status c).writing = s.run.writing.isSome ∧ (s.status c).source = s.run.source ∧ (s.status c).motion = s.travel.motion ∧
    (s.status c).loss = s.line.loss ∧ (s.status c).silence = s.line.silence ∧
    (s.status c).carPosition = s.travel.accumulator / 65536 ∧ (s.status c).frontier = s.travel.frontier ∧
    (s.status c).speed = s.travel.speed ∧
    (∀ r (ch : Channel), ((s.status c).coupling.get r)[ch] = ((s.echo.get r).cover[ch]).coupling) ∧
    (s.status c).changes = s.line.changes ∧ (s.status c).occupancy = s.line.queue.length ∧
    (s.status c).suppressed = s.run.suppressed ∧
    (∀ r, (s.status c).skipped.get r = (s.firing.get r).skipped ∧ (s.status c).overflow.get r = (s.tracker.get r).overflow ∧
      (s.status c).noise.get r = (s.tracker.get r).noise) ∧
    (s.status c).frameErrors = s.line.frameErrors ∧ (s.status c).overruns = s.line.overruns ∧
    (s.status c).dropped = s.line.dropped ∧ (s.status c).lost = s.line.lost := by
  refine ⟨rfl, rfl, rfl, rfl, rfl, rfl, rfl, rfl, rfl, rfl, fun r ch => ?_, rfl, rfl, rfl, fun r => ?_, rfl, rfl, rfl, rfl⟩
  · cases r <;> exact Vector.getElem_ofFn ..
  · cases r <;> exact ⟨rfl, rfl, rfl⟩

/-! ### Each reading request -/

section Reading

variable {s : State} {f : Frame} {rest : List Frame}

theorem exec_readChannel (hw : requestWaits s .readChannel 0 f rest) : exec .readChannel s = .next (readChannel f (s.taken rest)) :=
  congrArg Host.Outcome.next (request_taken hw _)

theorem readChannel_range (h : f.rail = none ∨ f.channel = none) (s : State) : readChannel f s = s.reply f .range 0 .headOnly := by
  unfold readChannel
  split
  · next r ch hr hch =>
    obtain h | h := h
    · cases hr.symm.trans h
    · cases hch.symm.trans h
  · rfl

theorem readChannel_ok {r : Rail} {ch : Channel} (hr : f.rail = some r) (hch : f.channel = some ch) (s : State) :
    readChannel f s = s.reply f .ok 0 (s.channel r ch).payload := by
  simp only [readChannel, hr, hch]

theorem exec_readPlan (hw : requestWaits s .readPlan 0 f rest) : exec .readPlan s = .next (readPlan f (s.taken rest)) :=
  congrArg Host.Outcome.next (request_taken hw _)

theorem exec_readPattern {index : Nat} (hw : requestWaits s .readPattern 1 f rest) :
    exec (.readPattern index) s = .next (readPattern index f (s.taken rest)) := congrArg Host.Outcome.next (request_taken hw _)

end Reading

/-! ### Records as a reply shows them -/

theorem channel_shown (x : ChannelRecord) : x.shown =
    { lane := x.lane.val, listen := x.listen, offset := x.offset, kd := x.kd, angle := x.angle, zero := x.zero
      interfaceStart := x.interfaceStart, interfaceWidth := x.interfaceWidth, interfaceLevel := x.interfaceLevel
      couplingLevel := x.couplingLevel, failThreshold := x.failThreshold, regainThreshold := x.regainThreshold
      uncoupledMode := if x.uncoupledMode = .hold then 0 else 1, spacing := x.spacing, honour := if x.honour then 0 else 1
      closeDistance := x.closeDistance, curve := x.curve.map (fun p => ⟨p.time, p.level⟩)
      gate1 := gateShown x.gates[(0 : Fin 3)], gate2 := gateShown x.gates[(1 : Fin 3)], gate3 := gateShown x.gates[(2 : Fin 3)] } := by
  have hmode : x.uncoupledMode.code = if x.uncoupledMode = .hold then 0 else 1 := by cases x.uncoupledMode <;> rfl
  rw [← hmode]
  rfl

theorem gateShown_some (g : FlawGate) : gateShown (some g) =
    ⟨0, if g.mode = .peak then 0 else if g.mode = .first then 1 else 2, g.start, g.width, g.level, if g.useCurve then 0 else 1,
      g.positionTolerance, g.depthTolerance, g.minimumHits⟩ := by
  have hmode : g.mode.code = if g.mode = .peak then 0 else if g.mode = .first then 1 else 2 := by cases g.mode <;> rfl
  rw [← hmode]
  rfl

theorem appliesTo_code (a : AppliesTo) : a.code = if a = .left then 0 else if a = .right then 1 else 2 := by cases a <;> rfl

theorem patternAction_code (a : PatternAction) :
    a.code = if a = .act .report then 0 else if a = .act .reportAndMark then 1 else 2 := by
  rcases a with (_ | _) | _ <;> rfl

/-- Settles O50: what STATUS shows, what the reading requests answer, and how records are shown. -/
theorem readingRequestsAnswer : Obligations.ReadingRequestsAnswer := by
  refine ⟨status_fields, fun s f rest => ⟨fun hw => ?_, fun hw => congrArg Host.Outcome.next (request_taken hw _), fun hw => ⟨fun r ch hr hch => ?_, fun h => ?_⟩,
    fun hw => ⟨fun r hr => ?_, fun hr => ?_⟩⟩, fun s f rest index hw => ⟨fun i hi => ?_, fun h => ?_⟩,
    fun s f rest hw => congrArg Host.Outcome.next (request_taken hw _), channel_shown, rfl, gateShown_some, fun p => ⟨LandmarkKind.code, rfl, ?_⟩⟩
  · exact ⟨Config.hardwareRevision, Nat.succ_le_succ (Nat.zero_le _), Config.revisionLess1.isLt, congrArg Host.Outcome.next (request_taken hw _)⟩
  · rw [answersOnly, exec_readChannel hw, readChannel_ok hr hch]
    rfl
  · rw [answersOnly, exec_readChannel hw, readChannel_range h]
    rfl
  · rw [answersOnly, exec_readPlan hw, readPlan, hr]
    rfl
  · rw [answersOnly, exec_readPlan hw, readPlan, hr]
    rfl
  · rw [answersOnly, exec_readPattern hw, readPattern, indexBelow_eq_some.mpr hi]
    rfl
  · rw [answersOnly, exec_readPattern hw, readPattern, indexBelow_eq_none.mpr h]
    rfl
  · rw [Pattern.shown, appliesTo_code, patternAction_code]
    cases p.condition <;> rfl

end Sys2Proof.Machine
end

section
/-! PROOFS. SET_CHANNEL (O52). -/

namespace Sys2Proof.Machine

/-! ### A channel record as taken -/

theorem clampNat_cast (lo hi : Nat) (v : Int) : ((clampNat lo hi v : Nat) : Int) = max (lo : Int) (min (hi : Int) v) := by
  unfold clampNat clampInt; omega

theorem uncoupledModeOf_eq (n : Nat) : uncoupledModeOf n = [UncoupledMode.hold, .pass][n]? :=
  match n with
  | 0 | 1 => rfl
  | _ + 2 => rfl

theorem gateModeOf_eq (n : Nat) : gateModeOf n = [GateMode.peak, .first, .absent][n]? :=
  match n with
  | 0 | 1 | 2 => rfl
  | _ + 3 => rfl

theorem uncoupledMode_of_some {n : Nat} {m : UncoupledMode} (h : uncoupledModeOf n = some m) :
    n < 2 ∧ m = if n = 0 then .hold else .pass :=
  match n, h with
  | 0, h => by cases h; exact ⟨by decide, rfl⟩
  | 1, h => by cases h; exact ⟨by decide, rfl⟩

theorem gateClamp_absent {g : GateFields} (h : g.presence = 1) : g.clamp = some none := by
  simp only [GateFields.clamp, h]
  rfl

theorem gateClamp_present {g : GateFields} (h : g.presence = 0) (hmode : g.mode < 3) (hcurve : g.useCurve < 2) :
    g.clamp = some (some
      { mode := if g.mode = 0 then .peak else if g.mode = 1 then .first else .absent, start := (max 0 (min 8191 g.start)).toNat
        width := (max 1 (min 8192 g.width)).toNat, level := (max 0 (min 4095 g.level)).toNat
        useCurve := decide (g.useCurve = 0), positionTolerance := (max 0 (min 10000 g.positionTolerance)).toNat
        depthTolerance := (max 0 (min 2500 g.depthTolerance)).toNat, minimumHits := (max 1 (min 255 g.minimumHits)).toNat }) := by
  have hm : gateModeOf g.mode = some (if g.mode = 0 then .peak else if g.mode = 1 then .first else .absent) := by
    rw [gateModeOf_eq]
    obtain k | k | k : g.mode = 0 ∨ g.mode = 1 ∨ g.mode = 2 := by omega
    all_goals rw [k]; rfl
  have hpresence : onOffOf g.presence = some true := by rw [h]; rfl
  simp only [GateFields.clamp, hpresence, hm, onOffOf_of_le_one (Nat.le_of_lt_succ hcurve)]
  rfl

/-- A gate field lies within its set, and whether it is PRESENT. -/
theorem gateClamp_some {g : GateFields} {y : Option FlawGate} (h : g.clamp = some y) :
    g.presence < 2 ∧ (g.presence = 0 → g.mode < 3 ∧ g.useCurve < 2) ∧ y.isSome = decide (g.presence = 0) := by
  unfold GateFields.clamp at h
  split at h
  · cases h
  · next hp =>
    cases h
    have hpresence := onOff_of_some hp
    have : g.presence < 2 := by
      by_contra hge
      rw [onOffOf_eq_none.mpr (Nat.le_of_not_lt hge)] at hp
      cases hp
    have habsent : g.presence ≠ 0 := fun h0 => by rw [h0] at hpresence; cases hpresence
    exact ⟨this, fun h0 => absurd h0 habsent, hpresence⟩
  · next hp =>
    have hpresence : g.presence = 0 := of_decide_eq_true (onOff_of_some hp).symm
    split at h
    · next mode useCurve hm hu =>
      cases h
      have hmode : g.mode < 3 := by
        rw [gateModeOf_eq] at hm
        exact (List.getElem?_eq_some_iff.mp hm).1
      have hcurve : g.useCurve < 2 := by
        rw [onOffOf_eq] at hu
        exact (List.getElem?_eq_some_iff.mp hu).1
      exact ⟨by omega, fun _ => ⟨hmode, hcurve⟩, by rw [hpresence]; rfl⟩
    · cases h

theorem gateClamp_ne_none (g : GateFields) :
    g.clamp ≠ none ↔ g.presence < 2 ∧ (g.presence = 0 → g.mode < 3 ∧ g.useCurve < 2) := by
  constructor
  · intro h
    obtain ⟨y, hy⟩ := Option.ne_none_iff_exists'.mp h
    obtain ⟨hpresence, hset, -⟩ := gateClamp_some hy
    exact ⟨hpresence, hset⟩
  · rintro ⟨hpresence, hset⟩ h
    obtain h0 | h1 : g.presence = 0 ∨ g.presence = 1 := by omega
    · rw [gateClamp_present h0 (hset h0).1 (hset h0).2] at h; cases h
    · rw [gateClamp_absent h1] at h; cases h

/-- The record that the fields make, with what their structural ones name. -/
def channelOf (q : ChannelFields) (lane : Lane) (mode : UncoupledMode) (honour : Bool)
    (gates : Vector (Option FlawGate) 3) : ChannelRecord :=
  { lane := lane, listen := clampNat 256 8192 q.listen, offset := clampInt (-60000) 60000 q.offset,
    kd := clampNat 1 65535 q.kd, angle := clampInt (-262143) 262143 q.angle, zero := clampInt (-512) 1023 q.zero,
    interfaceStart := clampNat 0 8191 q.interfaceStart, interfaceWidth := clampNat 1 8192 q.interfaceWidth,
    interfaceLevel := clampNat 0 4095 q.interfaceLevel, couplingLevel := clampNat 0 4095 q.couplingLevel,
    failThreshold := clampNat 1 255 q.failThreshold, regainThreshold := clampNat 1 255 q.regainThreshold,
    uncoupledMode := mode, spacing := clampNat 10 100000 q.spacing, honour := honour,
    closeDistance := clampNat 10 100000 q.closeDistance, curve := q.curve.map CurvePointFields.clamp, gates := gates }

/-- The structural fields lie within their sets, and name these values. -/
structure NamesChannel (q : ChannelFields) (lane : Lane) (mode : UncoupledMode) (honour : Bool)
    (g1 g2 g3 : Option FlawGate) : Prop where
  lane : indexBelow 4 q.lane = some lane
  mode : uncoupledModeOf q.uncoupledMode = some mode
  honour : onOffOf q.honour = some honour
  curve : q.curve.length ≤ 8
  gate1 : q.gate1.clamp = some g1
  gate2 : q.gate2.clamp = some g2
  gate3 : q.gate3.clamp = some g3

theorem channelClamp_eq_some {q : ChannelFields} {x : ChannelRecord} : q.clamp = some x ↔
    ∃ lane mode honour g1 g2 g3, NamesChannel q lane mode honour g1 g2 g3 ∧ x = channelOf q lane mode honour #v[g1, g2, g3] := by
  constructor
  · intro h
    unfold ChannelFields.clamp at h
    split at h
    · next lane mode honour g1 g2 g3 hl hm hh hc h1 h2 h3 =>
      cases h
      exact ⟨lane, mode, honour, g1, g2, g3, ⟨hl, hm, hh, of_decide_eq_true hc, h1, h2, h3⟩, rfl⟩
    · cases h
  · rintro ⟨lane, mode, honour, g1, g2, g3, ⟨hl, hm, hh, hc, h1, h2, h3⟩, rfl⟩
    simp only [ChannelFields.clamp, hl, hm, hh, decide_eq_true hc, h1, h2, h3]
    rfl

theorem channelClamp_ne_none (q : ChannelFields) : q.clamp ≠ none ↔
    q.lane < 4 ∧ q.uncoupledMode < 2 ∧ q.honour < 2 ∧ q.curve.length ≤ 8 ∧
      ∀ g ∈ [q.gate1, q.gate2, q.gate3], g.presence < 2 ∧ (g.presence = 0 → g.mode < 3 ∧ g.useCurve < 2) := by
  have hgates : (∀ g ∈ [q.gate1, q.gate2, q.gate3], g.presence < 2 ∧ (g.presence = 0 → g.mode < 3 ∧ g.useCurve < 2)) ↔
      q.gate1.clamp ≠ none ∧ q.gate2.clamp ≠ none ∧ q.gate3.clamp ≠ none := by
    simp only [gateClamp_ne_none, List.forall_mem_cons, List.not_mem_nil, false_imp_iff, implies_true, and_true]
  rw [hgates]
  simp only [Option.ne_none_iff_exists', channelClamp_eq_some]
  constructor
  · rintro ⟨x, lane, mode, honour, g1, g2, g3, ⟨hl, hm, hh, hc, h1, h2, h3⟩, -⟩
    have hlane : q.lane < 4 := indexBelow_eq_some.mp hl ▸ lane.isLt
    have hhonour : q.honour < 2 := by
      rw [onOffOf_eq] at hh
      exact (List.getElem?_eq_some_iff.mp hh).1
    exact ⟨hlane, (uncoupledMode_of_some hm).1, hhonour, hc, ⟨g1, h1⟩, ⟨g2, h2⟩, ⟨g3, h3⟩⟩
  · rintro ⟨hlane, hmode, hhonour, hc, ⟨g1, h1⟩, ⟨g2, h2⟩, ⟨g3, h3⟩⟩
    obtain ⟨mode, hm⟩ : ∃ mode, uncoupledModeOf q.uncoupledMode = some mode := by
      rw [uncoupledModeOf_eq]
      exact ⟨_, List.getElem?_eq_getElem hmode⟩
    exact ⟨_, ⟨q.lane, hlane⟩, mode, _, g1, g2, g3, ⟨indexBelow_eq_some.mpr rfl, hm, onOffOf_of_le_one (Nat.le_of_lt_succ hhonour),
      hc, h1, h2, h3⟩, rfl⟩

theorem channelClamp_fields {q : ChannelFields} {x : ChannelRecord} (h : q.clamp = some x) :
    x.lane.val = q.lane ∧ (x.listen : Int) = max 256 (min 8192 q.listen) ∧ x.offset = max (-60000) (min 60000 q.offset) ∧
    (x.kd : Int) = max 1 (min 65535 q.kd) ∧ x.angle = max (-262143) (min 262143 q.angle) ∧ x.zero = max (-512) (min 1023 q.zero) ∧
    (x.interfaceStart : Int) = max 0 (min 8191 q.interfaceStart) ∧ (x.interfaceWidth : Int) = max 1 (min 8192 q.interfaceWidth) ∧
    (x.interfaceLevel : Int) = max 0 (min 4095 q.interfaceLevel) ∧ (x.couplingLevel : Int) = max 0 (min 4095 q.couplingLevel) ∧
    (x.failThreshold : Int) = max 1 (min 255 q.failThreshold) ∧ (x.regainThreshold : Int) = max 1 (min 255 q.regainThreshold) ∧
    x.uncoupledMode = (if q.uncoupledMode = 0 then .hold else .pass) ∧ (x.spacing : Int) = max 10 (min 100000 q.spacing) ∧
    x.honour = decide (q.honour = 0) ∧ (x.closeDistance : Int) = max 10 (min 100000 q.closeDistance) ∧
    x.curve = q.curve.map (fun p => ⟨(max 0 (min 8191 p.time)).toNat, (max 0 (min 4095 p.level)).toNat⟩) ∧
    (x.gates[(0 : Fin 3)].isSome = decide (q.gate1.presence = 0) ∧ x.gates[(1 : Fin 3)].isSome = decide (q.gate2.presence = 0) ∧
      x.gates[(2 : Fin 3)].isSome = decide (q.gate3.presence = 0)) ∧
    q.gate1.clamp = some x.gates[(0 : Fin 3)] ∧ q.gate2.clamp = some x.gates[(1 : Fin 3)] ∧
    q.gate3.clamp = some x.gates[(2 : Fin 3)] := by
  obtain ⟨lane, mode, honour, g1, g2, g3, ⟨hl, hm, hh, -, h1, h2, h3⟩, rfl⟩ := channelClamp_eq_some.mp h
  exact ⟨(indexBelow_eq_some.mp hl).symm, clampNat_cast .., rfl, clampNat_cast .., rfl, rfl, clampNat_cast .., clampNat_cast ..,
    clampNat_cast .., clampNat_cast .., clampNat_cast .., clampNat_cast .., (uncoupledMode_of_some hm).2, clampNat_cast ..,
    onOff_of_some hh, clampNat_cast .., rfl, ⟨(gateClamp_some h1).2.2, (gateClamp_some h2).2.2, (gateClamp_some h3).2.2⟩, h1, h2, h3⟩

theorem gateFields_fits (g : GateFields) : g.fits = true ↔ g.presence = 1 ∨
    (0 ≤ g.start ∧ g.start ≤ 8191 ∧ 1 ≤ g.width ∧ g.width ≤ 8192 ∧ 0 ≤ g.level ∧ g.level ≤ 4095 ∧ 0 ≤ g.positionTolerance ∧
      g.positionTolerance ≤ 10000 ∧ 0 ≤ g.depthTolerance ∧ g.depthTolerance ≤ 2500 ∧ 1 ≤ g.minimumHits ∧
      g.minimumHits ≤ 255) := by
  simp [GateFields.fits, within_iff, and_assoc]

theorem curvePoints_fit (curve : List CurvePointFields) : curve.all CurvePointFields.fits = true ↔
    ∀ p ∈ curve, 0 ≤ p.time ∧ p.time ≤ 8191 ∧ 0 ≤ p.level ∧ p.level ≤ 4095 := by
  simp [CurvePointFields.fits, within_iff, and_assoc]

theorem channelFields_fits (q : ChannelFields) : q.fits = true ↔
    256 ≤ q.listen ∧ q.listen ≤ 8192 ∧ -60000 ≤ q.offset ∧ q.offset ≤ 60000 ∧ 1 ≤ q.kd ∧ q.kd ≤ 65535 ∧
    -262143 ≤ q.angle ∧ q.angle ≤ 262143 ∧ -512 ≤ q.zero ∧ q.zero ≤ 1023 ∧ 0 ≤ q.interfaceStart ∧ q.interfaceStart ≤ 8191 ∧
    1 ≤ q.interfaceWidth ∧ q.interfaceWidth ≤ 8192 ∧ 0 ≤ q.interfaceLevel ∧ q.interfaceLevel ≤ 4095 ∧ 0 ≤ q.couplingLevel ∧
    q.couplingLevel ≤ 4095 ∧ 1 ≤ q.failThreshold ∧ q.failThreshold ≤ 255 ∧ 1 ≤ q.regainThreshold ∧ q.regainThreshold ≤ 255 ∧
    10 ≤ q.spacing ∧ q.spacing ≤ 100000 ∧ 10 ≤ q.closeDistance ∧ q.closeDistance ≤ 100000 ∧
    (∀ p ∈ q.curve, 0 ≤ p.time ∧ p.time ≤ 8191 ∧ 0 ≤ p.level ∧ p.level ≤ 4095) ∧
    ∀ g ∈ [q.gate1, q.gate2, q.gate3], g.presence = 1 ∨
      (0 ≤ g.start ∧ g.start ≤ 8191 ∧ 1 ≤ g.width ∧ g.width ≤ 8192 ∧ 0 ≤ g.level ∧ g.level ≤ 4095 ∧ 0 ≤ g.positionTolerance ∧
        g.positionTolerance ≤ 10000 ∧ 0 ≤ g.depthTolerance ∧ g.depthTolerance ≤ 2500 ∧ 1 ≤ g.minimumHits ∧
        g.minimumHits ≤ 255) := by
  simp only [← gateFields_fits, ← curvePoints_fit, ChannelFields.fits, Bool.and_eq_true, within_iff, and_assoc,
    List.forall_mem_cons, List.not_mem_nil, false_imp_iff, implies_true, and_true]

theorem ascending_iff (curve : List CurvePoint) : ascending curve = true ↔ (curve.map CurvePoint.time).Pairwise (· < ·) := by
  induction curve with
  | nil => simp [ascending]
  | cons p rest ih =>
    rw [List.map_cons, List.pairwise_cons, ← ih]
    constructor
    · intro h
      obtain ⟨hrest, hlt⟩ := time_lt_of_ascending h
      exact ⟨fun t ht => by obtain ⟨q, hq, rfl⟩ := List.mem_map.mp ht; exact hlt q hq, hrest⟩
    · rintro ⟨hlt, hrest⟩
      cases rest with
      | nil => rfl
      | cons q rest =>
        rw [ascending, Bool.and_eq_true, decide_eq_true_eq]
        exact ⟨hlt _ List.mem_cons_self, hrest⟩

/-! ### The checks of SET_CHANNEL -/

theorem plan_has (p : Plan) (ch : Channel) : p.has ch = true ↔ ∃ g ∈ p, ch ∈ g := by simp [Plan.has]

theorem operation_on_rail (o : Option Operation) (r : Rail) : o.any (fun o => o.rail == r) = true ↔
    (∃ c, o = some (.calibration c) ∧ c.rail = r) ∨ ∃ v, o = some (.verification v) ∧ v.rail = r := by
  rcases o with _ | c | v <;> simp [Operation.rail]

theorem channelHeld_iff (s : State) (r : Rail) (ch : Channel) : s.channelHeld r ch = true ↔
    (s.run.state ≠ .stopped ∧ ∃ g ∈ s.setup.plans.get r, ch ∈ g) ∨
      ((s.run.state = .calibrating ∨ s.run.state = .verifying) ∧
        ((∃ c, s.run.operation = some (.calibration c) ∧ c.rail = r) ∨ ∃ v, s.run.operation = some (.verification v) ∧ v.rail = r)) := by
  rw [← operation_on_rail, ← plan_has]
  simp [State.channelHeld, State.stopped, State.inPlan]

theorem laneTaken_iff (s : State) (r : Rail) (ch : Channel) (lane : Lane) : s.laneTaken r ch lane = true ↔
    (s.channel r ch).lane ≠ lane ∧ ∃ g ∈ s.setup.plans.get r ++ ((s.firing.get r).staged).getD [],
      ch ∈ g ∧ ∃ other ∈ g, other ≠ ch ∧ (s.channel r other).lane = lane := by
  simp [State.laneTaken, State.laneGroups, or_and_right, exists_or]

section Checks

variable {s : State} {r : Rail} {ch : Channel} {x : ChannelRecord}

theorem checkChannel_busy (hbusy : s.run.writing ≠ none) : checkChannel r ch x s = some .busy := by
  rw [checkChannel, writing_of_ne hbusy, if_pos rfl]

theorem checkChannel_state (hstore : s.run.writing = none) (hheld : s.channelHeld r ch = true) :
    checkChannel r ch x s = some .state := by
  simp [checkChannel, writing_of_none hstore, hheld]

variable (hstore : s.run.writing = none) (hfree : s.channelHeld r ch = false)
include hstore hfree

theorem checkChannel_order (horder : ascending x.curve = false) : checkChannel r ch x s = some .order := by
  simp [checkChannel, writing_of_none hstore, hfree, horder]

theorem checkChannel_conflict (horder : ascending x.curve = true) (htaken : s.laneTaken r ch x.lane = true) :
    checkChannel r ch x s = some .conflict := by
  simp [checkChannel, writing_of_none hstore, hfree, horder, htaken]

theorem checkChannel_passes (horder : ascending x.curve = true) (htaken : s.laneTaken r ch x.lane = false) :
    checkChannel r ch x s = none := by
  simp [checkChannel, writing_of_none hstore, hfree, horder, htaken]

end Checks

theorem takeChannel_eq (r : Rail) (ch : Channel) (x : ChannelRecord) (s : State) : takeChannel r ch x s =
    { s with
      setup := { s.setup with channels := s.setup.channels.set r (setAt (s.setup.channels.get r) ch x) }
      run := { s.run with
        pendingPoint :=
          if s.run.pendingPoint.any (fun p => decide (p.rail = r ∧ p.channel = ch)) then none else s.run.pendingPoint } } := by
  have hnames : (fun p : CalPoint => p.names r ch) = fun p => decide (p.rail = r ∧ p.channel = ch) := by
    funext p
    rw [Bool.eq_iff_iff]
    simp [CalPoint.names]
  unfold takeChannel
  rw [hnames]
  by_cases h : s.run.pendingPoint.any (fun p => decide (p.rail = r ∧ p.channel = ch)) = true
  · rw [if_pos h]
    exact if_pos h
  · rw [if_neg h]
    exact if_neg h

section Taken

variable {s : State} {q : ChannelFields} {f : Frame}

theorem setChannel_range (h : f.rail = none ∨ f.channel = none ∨ q.clamp = none) (s : State) :
    setChannel q f s = s.reply f .range 0 .headOnly := by
  unfold setChannel
  split
  · next r ch x hr hch hx => simp [hr, hch, hx] at h
  · rfl

variable {r : Rail} {ch : Channel} {x : ChannelRecord} (hr : f.rail = some r) (hch : f.channel = some ch) (hx : q.clamp = some x)
include hr hch hx

theorem setChannel_refused {code : ReplyCode} (h : checkChannel r ch x s = some code) :
    setChannel q f s = s.reply f code 0 .headOnly := by
  simp only [setChannel, hr, hch, hx, h]

theorem setChannel_taken (h : checkChannel r ch x s = none) :
    setChannel q f s = (takeChannel r ch x s).reply f (doneCode q.fits) 0 x.payload := by
  simp only [setChannel, hr, hch, hx, h]

end Taken

/-- Settles O52: SET_CHANNEL waits for a leaving channel; else its checks in their order, and the record replaced whole. -/
theorem setChannelReplacesTheRecord : Obligations.SetChannelReplacesTheRecord := by
  refine ⟨fun s q f rest => ⟨fun r ch hheads hr hch hl => execSetChannel_waits hheads.1 hr hch hl q, fun hw hleaves => ?_⟩, fun q =>
    ⟨channelFields_fits q, channelClamp_ne_none q, fun x hx => channelClamp_fields hx, ascending_iff,
      fun cs ch other x => setAt_get cs ch other x, fun g => gateClamp_absent, fun g => gateClamp_present⟩⟩
  have hexec : exec (.setChannel q) s = .next (setChannel q f (s.taken rest)) := by
    have hsize : requestWaits s .setChannel q.size f rest := (setChannel_size q).symm ▸ hw
    exact (execSetChannel_taken hw.1.1 hleaves q).trans (congrArg Host.Outcome.next (request_taken hsize _))
  refine ⟨fun h => hexec.trans (congrArg Host.Outcome.next (setChannel_range h _)), fun r ch x held taken hr hch hx hheld htaken => ?_⟩
  have hrefused {code : ReplyCode} (h : checkChannel r ch x s = some code) :
      answersOnly (.setChannel q) s f rest code 0 .headOnly :=
    hexec.trans (congrArg Host.Outcome.next (setChannel_refused (s := s.taken rest) hr hch hx h))
  rw [← channelHeld_iff] at hheld
  rw [← laneTaken_iff] at htaken
  have hfree (h : ¬held) : s.channelHeld r ch = false := Bool.eq_false_iff.mpr fun k => h (hheld.mpr k)
  refine ⟨fun hbusy => hrefused (checkChannel_busy hbusy), fun hstore h => hrefused (checkChannel_state hstore (hheld.mp h)),
    fun hstore h horder => hrefused (checkChannel_order hstore (hfree h) horder),
    fun hstore h horder ht => hrefused (checkChannel_conflict hstore (hfree h) horder (htaken.mp ht)), fun hstore h horder ht => ?_⟩
  have hlane : s.laneTaken r ch x.lane = false := Bool.eq_false_iff.mpr fun k => ht (htaken.mpr k)
  have hpasses : checkChannel r ch x (s.taken rest) = none := checkChannel_passes hstore (hfree h) horder hlane
  rw [hexec, setChannel_taken hr hch hx hpasses, takeChannel_eq]
  rfl

end Sys2Proof.Machine
end

section
/-! PROOFS. STAGE_PLAN (O53). -/

namespace Sys2Proof.Machine

/-! ### The plan a request carries -/

theorem mapM_indexBelow_none {ns : List Nat} (h : ∃ n ∈ ns, 12 ≤ n) : ns.mapM (indexBelow 12) = none := by
  induction ns with
  | nil => obtain ⟨_, hn, -⟩ := h; cases hn
  | cons n rest ih =>
    rw [List.mapM_cons]
    by_cases hn : 12 ≤ n
    · rw [indexBelow_eq_none.mpr hn]; rfl
    · have hrest : ∃ m ∈ rest, 12 ≤ m := by
        obtain ⟨m, hm, hge⟩ := h
        obtain rfl | hm := List.mem_cons.mp hm
        · exact absurd hge hn
        · exact ⟨m, hm, hge⟩
      rw [ih hrest]
      cases indexBelow 12 n <;> rfl

theorem mapM_indexBelow_val (g : Group) : (g.map Fin.val).mapM (indexBelow 12) = some g := by
  induction g with
  | nil => rfl
  | cons ch rest ih => rw [List.map_cons, List.mapM_cons, ih, indexBelow_eq_some.mpr rfl]; rfl

theorem groupOf_eq_none {ns : List Nat} (h : ¬ isGroup ns) : groupOf ns = none := by
  unfold groupOf
  by_cases hlen : 1 ≤ ns.length ∧ ns.length ≤ 4
  · rw [if_pos hlen]
    refine mapM_indexBelow_none ?_
    by_contra hno
    exact h ⟨hlen.1, hlen.2, fun n hn => Nat.lt_of_not_le fun hge => hno ⟨n, hn, hge⟩⟩
  · exact if_neg hlen

theorem groupOf_val {g : Group} (hlen : 1 ≤ g.length ∧ g.length ≤ 4) : groupOf (g.map Fin.val) = some g := by
  unfold groupOf
  rw [List.length_map, if_pos hlen, mapM_indexBelow_val]

/-- The numbers of a group name it. -/
theorem exists_groupOf {ns : List Nat} (h : isGroup ns) : ∃ g, groupOf ns = some g := by
  obtain ⟨h1, h4, hlt⟩ := h
  have hval : (ns.pmap (fun n hn => (⟨n, hn⟩ : Channel)) hlt).map Fin.val = ns := by simp [List.map_pmap]
  have hlen : (ns.pmap (fun n hn => (⟨n, hn⟩ : Channel)) hlt).length = ns.length := List.length_pmap ..
  exact ⟨_, hval ▸ groupOf_val (by rw [hlen]; exact ⟨h1, h4⟩)⟩

theorem planOf_stops {i : Nat} {g : List Nat} (h : ¬ i < 16 ∨ groupOf g = none) (rest : List (List Nat)) :
    planOf i (g :: rest) = .error i := by
  unfold planOf
  split
  · next hi hg =>
    obtain h | h := h
    · exact absurd (of_decide_eq_true hi) h
    · cases hg.symm.trans h
  · rfl

theorem planOf_cons {i : Nat} {g : List Nat} {group : Group} (hi : i < 16) (hg : groupOf g = some group) (rest : List (List Nat)) :
    planOf i (g :: rest) = (planOf (i + 1) rest).map (group :: ·) := by
  simp only [planOf, decide_eq_true hi, hg]
  cases planOf (i + 1) rest <;> rfl

/-- The first group outside its set, or the seventeenth, gives the index. -/
theorem planOf_error {ns : List (List Nat)} {i k : Nat} (hbefore : ∀ (j : Nat) g, j < k → ns[j]? = some g → isGroup g)
    (hk : i + k ≤ 16) (hlen : k < ns.length) (hfail : i + k = 16 ∨ ∃ g, ns[k]? = some g ∧ ¬isGroup g) :
    planOf i ns = .error (i + k) := by
  induction ns generalizing i k with
  | nil => cases hlen
  | cons g rest ih =>
    cases k with
    | zero =>
      refine planOf_stops (hfail.imp (fun h => by omega) fun ⟨g', hg', hno⟩ => ?_) rest
      cases hg'
      exact groupOf_eq_none hno
    | succ k =>
      obtain ⟨group, hgroup⟩ := exists_groupOf (hbefore 0 g (Nat.zero_lt_succ _) rfl)
      have hrest : planOf (i + 1) rest = .error (i + 1 + k) :=
        ih (fun j g hj hg => hbefore (j + 1) g (Nat.succ_lt_succ hj) hg) (by omega) (Nat.lt_of_succ_lt_succ hlen)
          (hfail.imp (fun h => by omega) id)
      rw [planOf_cons (by omega) hgroup, hrest]
      exact congrArg Except.error (by omega)

theorem planOf_val {p : Plan} {i : Nat} (hlen : i + p.length ≤ 16) (hgroups : ∀ g ∈ p, 1 ≤ g.length ∧ g.length ≤ 4) :
    planOf i (p.map (fun g => g.map Fin.val)) = .ok p := by
  induction p generalizing i with
  | nil => rfl
  | cons g rest ih =>
    rw [List.length_cons] at hlen
    rw [List.map_cons, planOf_cons (by omega) (groupOf_val (hgroups g List.mem_cons_self)),
      ih (by omega) fun g hg => hgroups g (List.mem_cons_of_mem _ hg)]
    rfl

/-! ### Groups in which two channels share a lane -/

theorem groupClashes_iff (s : State) (r : Rail) (g : Group) : s.groupClashes r g = true ↔ ¬(g.map (s.setup.lanes r)).Nodup := by
  induction g with
  | nil => simp [State.groupClashes]
  | cons ch rest ih =>
    rw [State.groupClashes, Bool.or_eq_true, ih, List.map_cons, List.nodup_cons, not_and_or, not_not, List.any_eq_true]
    refine or_congr_left ?_
    simp only [beq_iff_eq, List.mem_map]
    rfl

theorem findIdx_clash {s : State} {r : Rail} {p : Plan} {i : Nat} {g : Group} (hi : p[i]? = some g)
    (hclash : ¬(g.map (s.setup.lanes r)).Nodup) (hbefore : ∀ j h, j < i → p[j]? = some h → (h.map (s.setup.lanes r)).Nodup) :
    p.findIdx? (s.groupClashes r) = some i := by
  obtain ⟨hlt, hget⟩ := List.getElem?_eq_some_iff.mp hi
  refine List.findIdx?_eq_some_iff_getElem.mpr ⟨hlt, ?_, fun j hj => ?_⟩
  · rw [hget]
    exact (groupClashes_iff s r g).mpr hclash
  · rw [groupClashes_iff, not_not]
    exact hbefore j _ hj (List.getElem?_eq_getElem (hj.trans hlt))

theorem findIdx_noClash {s : State} {r : Rail} {p : Plan} (h : ∀ g ∈ p, (g.map (s.setup.lanes r)).Nodup) :
    p.findIdx? (s.groupClashes r) = none :=
  List.findIdx?_eq_none_iff.mpr fun g hg => Bool.eq_false_iff.mpr fun k => (groupClashes_iff s r g).mp k (h g hg)

/-! ### A plan taken in STOPPED -/

/-- The changes of coupling state that a plan taken in STOPPED makes: all that leave, then all that join. -/
def planChanges (e : EchoProcessor) (old p : Plan) : List (Channel × CouplingState) :=
  ((List.finRange 12).filter (fun ch => old.has ch && !p.has ch && e.cover[ch].coupling != .inactive)).map
      (fun ch => (ch, .inactive)) ++
    ((List.finRange 12).filter (fun ch => p.has ch && !old.has ch && e.cover[ch].coupling != .unknown)).map
      (fun ch => (ch, .unknown))

theorem mem_planDifference {a b : Plan} {ch : Channel} : ch ∈ planDifference a b ↔ a.has ch = true ∧ b.has ch = false := by
  simp [planDifference]

theorem planDifference_nodup (a b : Plan) : (planDifference a b).Nodup := (List.nodup_finRange 12).filter _

/-- What the joining channels find of the coverage is what stood before any left. -/
theorem planDifference_filter (a b : Plan) (v : Channel → CouplingState) (st : CouplingState) :
    (planDifference a b).filter (fun ch => v ch != st) =
      (List.finRange 12).filter (fun ch => a.has ch && !b.has ch && v ch != st) := by
  rw [planDifference, List.filter_filter]
  exact List.filter_congr fun ch _ => Bool.and_comm ..

theorem replan_covering (r : Rail) (old p : Plan) (s : State) :
    (planDifference p old).foldl (fun s ch => s.setCover r ch (Cover.fresh true))
        ((planDifference old p).foldl (fun s ch => s.setCover r ch (Cover.fresh false)) s) =
      s.covering r
        (Vector.ofFn (fun ch => if old.has ch && !p.has ch then ⟨.inactive, 0, 0, none, none, none, none⟩
          else if p.has ch && !old.has ch then ⟨.unknown, 0, 0, none, none, none, none⟩ else (s.echo.get r).cover[ch]))
        (s.echo.get r).snapshot ((planChanges (s.echo.get r) old p).map (fun x => .change (.coupling r x.1)))
        ((planChanges (s.echo.get r) old p).map (fun x => .coupling r x.1 x.2)) := by
  rw [setCovers_covering r (fun _ => Cover.fresh false) (planDifference_nodup old p),
    setCovers_covering r (fun _ => Cover.fresh true) (planDifference_nodup p old), covering_covering, covering_echo]
  have hkept : (planDifference p old).filter (fun ch =>
      (Vector.ofFn fun ch => if ch ∈ planDifference old p then Cover.fresh false else (s.echo.get r).cover[ch])[ch].coupling !=
        (Cover.fresh true).coupling) =
      (planDifference p old).filter (fun ch => (s.echo.get r).cover[ch].coupling != .unknown) := by
    refine List.filter_congr fun ch hch => ?_
    have hstays : ch ∉ planDifference old p := fun h => by
      have hold := (mem_planDifference.mp h).1
      rw [(mem_planDifference.mp hch).2] at hold
      cases hold
    simp only [Fin.getElem_fin, Vector.getElem_ofFn, Fin.eta, if_neg hstays]
    rfl
  have hcover : (Vector.ofFn fun ch => if ch ∈ planDifference p old then Cover.fresh true else
      (Vector.ofFn fun ch => if ch ∈ planDifference old p then Cover.fresh false else (s.echo.get r).cover[ch])[ch]) =
      Vector.ofFn (fun ch => if old.has ch && !p.has ch then ⟨.inactive, 0, 0, none, none, none, none⟩
          else if p.has ch && !old.has ch then ⟨.unknown, 0, 0, none, none, none, none⟩ else (s.echo.get r).cover[ch]) := by
    refine vector_ext_fin fun ch => ?_
    simp only [Fin.getElem_fin, Vector.getElem_ofFn, Fin.eta, mem_planDifference]
    cases old.has ch <;> cases p.has ch <;> rfl
  rw [hcover, flatMap_onChange, flatMap_onChange, flatMap_onChange, flatMap_onChange, hkept, planDifference_filter, planDifference_filter]
  simp only [planChanges, List.map_append, List.map_map]
  rfl

theorem takePlanNow_eq (r : Rail) (p : Plan) (s : State) : takePlanNow r p s =
    { s with
      setup := { s.setup with plans := s.setup.plans.set r p }
      firing := s.firing.set r { s.firing.get r with staged := none, pointer := 0 }
      echo := s.echo.set r
        { s.echo.get r with
          cover := Vector.ofFn (fun ch =>
            if (s.setup.plans.get r).has ch && !p.has ch then ⟨.inactive, 0, 0, none, none, none, none⟩
            else if p.has ch && !(s.setup.plans.get r).has ch then ⟨.unknown, 0, 0, none, none, none, none⟩
            else (s.echo.get r).cover[ch]) }
      line := s.line.hear
        ((planChanges (s.echo.get r) (s.setup.plans.get r) p).map (fun x => .change (.coupling r x.1)))
      router := s.router.hear
        ((planChanges (s.echo.get r) (s.setup.plans.get r) p).map (fun x => .coupling r x.1 x.2)) } := by
  unfold takePlanNow
  dsimp only
  rw [replan_covering]
  rfl

/-! ### O53: the request -/

section Request

variable {ns : List (List Nat)} {f : Frame} {s : State}

theorem stagePlan_noRail (hr : f.rail = none) : stagePlan ns f s = s.reply f .range 0 .headOnly := by
  simp only [stagePlan, hr]

variable {r : Rail} (hr : f.rail = some r)
include hr

theorem stagePlan_range {i : Nat} (hplan : planOf 0 ns = .error i) : stagePlan ns f s = s.reply f .range i .headOnly := by
  simp only [stagePlan, hr, hplan]

variable {p : Plan} (hplan : planOf 0 ns = .ok p)
include hplan

theorem stagePlan_busy (hstop : s.run.state = .stopped) (hbusy : s.run.writing ≠ none) :
    stagePlan ns f s = s.reply f .busy 0 .headOnly := by
  simp [stagePlan, hr, hplan, stopped_of_eq hstop, writing_of_ne hbusy]

variable (hfree : s.run.state ≠ .stopped ∨ s.run.writing = none)
include hfree

theorem stagePlan_conflict {i : Nat} (hclash : p.findIdx? (s.groupClashes r) = some i) :
    stagePlan ns f s = s.reply f .conflict i .headOnly := by
  have hpass : (s.stopped && s.writing) = false := by
    obtain h | h := hfree
    · rw [stopped_of_ne h]; rfl
    · rw [writing_of_none h, Bool.and_false]
  simp only [stagePlan, hr, hplan, hpass, hclash]
  rfl

theorem stagePlan_taken (hclash : p.findIdx? (s.groupClashes r) = none) :
    stagePlan ns f s = (takePlan r p s).reply f .ok 0 .headOnly := by
  have hpass : (s.stopped && s.writing) = false := by
    obtain h | h := hfree
    · rw [stopped_of_ne h]; rfl
    · rw [writing_of_none h, Bool.and_false]
  simp only [stagePlan, hr, hplan, hpass, hclash]
  rfl

end Request

/-- Settles O53: RANGE, BUSY and CONFLICT, each with its index; taken, staged or in STOPPED active at once. -/
theorem stagePlanStagesOrTakes : Obligations.StagePlanStagesOrTakes := by
  refine ⟨fun s f rest ns hw => ?_, plan_has⟩
  have hexec : exec (.stagePlan ns) s = .next (stagePlan ns f (s.taken rest)) := congrArg Host.Outcome.next (request_taken hw _)
  refine ⟨fun hr => hexec.trans (congrArg Host.Outcome.next (stagePlan_noRail hr)), fun k hrail hbefore hk hlen hfail => ?_,
    fun p r hr hlen hgroups hns => ?_⟩
  · obtain ⟨r, hr⟩ := Option.ne_none_iff_exists'.mp hrail
    have hplan : planOf 0 ns = .error k := by
      have herror := planOf_error (i := 0) hbefore (by omega) hlen (hfail.imp (fun h => by omega) id)
      rwa [Nat.zero_add] at herror
    exact hexec.trans (congrArg Host.Outcome.next (stagePlan_range hr hplan))
  · have hplan : planOf 0 ns = .ok p := hns ▸ planOf_val (by omega) hgroups
    refine ⟨fun hstop hbusy => hexec.trans (congrArg Host.Outcome.next (stagePlan_busy (s := s.taken rest) hr hplan hstop hbusy)),
      fun hfree => ⟨fun i g hi hclash hbefore => ?_, fun hnodup => ?_⟩⟩
    · have hfind : p.findIdx? ((s.taken rest).groupClashes r) = some i := findIdx_clash hi hclash hbefore
      exact hexec.trans (congrArg Host.Outcome.next (stagePlan_conflict (s := s.taken rest) hr hplan hfree hfind))
    · have hfind : p.findIdx? ((s.taken rest).groupClashes r) = none := findIdx_noClash hnodup
      have htaken := hexec.trans (congrArg Host.Outcome.next (stagePlan_taken (s := s.taken rest) hr hplan hfree hfind))
      refine ⟨fun hrun => ?_, fun old changes hstop hold hchanges => ?_⟩
      · have hstaged : takePlan r p (s.taken rest) =
            (s.taken rest).setFiring r { (s.taken rest).firing.get r with staged := some p } := by
          rw [takePlan, taken_stopped, stopped_of_ne hrun]
          rfl
        rw [htaken, hstaged]
        rfl
      · subst hold
        have hchanges' : changes = planChanges ((s.taken rest).echo.get r) ((s.taken rest).setup.plans.get r) p := hchanges
        have hnow : takePlan r p (s.taken rest) = takePlanNow r p (s.taken rest) := by
          rw [takePlan, taken_stopped, stopped_of_eq hstop]
          rfl
        rw [htaken, hnow, takePlanNow_eq, ← hchanges']
        rfl

end Sys2Proof.Machine
end

section
/-! PROOFS. SET_RAIL, SET_LEVELS, SNAPSHOT and SET_PATTERN (O54). -/

namespace Sys2Proof.Machine

/-! ### SET_RAIL -/

theorem defaultActionOf_eq_none {n : Nat} (h : 1 < n) : defaultActionOf n = none :=
  match n, h with
  | _ + 2, _ => rfl

theorem defaultActionOf_of_le_one {n : Nat} (h : n ≤ 1) :
    defaultActionOf n = some (if n = 0 then .report else .reportAndMark) := by
  obtain rfl | rfl : n = 0 ∨ n = 1 := by omega
  · rfl
  · rfl

theorem railClamp_eq_none {q : RailFields} (h : 1 < q.defaultAction ∨ 1 < q.markerEnable) : q.clamp = none := by
  unfold RailFields.clamp
  split
  · next a b ha hb =>
    obtain h | h := h
    · cases (defaultActionOf_eq_none h).symm.trans ha
    · cases (onOffOf_eq_none.mpr h).symm.trans hb
  · rfl

theorem railClamp_eq_some {q : RailFields} (ha : q.defaultAction ≤ 1) (hm : q.markerEnable ≤ 1) : q.clamp = some
    ⟨(max 2 (min 100 q.recovery)).toNat, (max 0 (min 10000 q.join)).toNat, (max 100 (min 200000 q.settle)).toNat,
      if q.defaultAction = 0 then .report else .reportAndMark, decide (q.markerEnable = 0),
      (max 1000 (min 200000 q.gunOffset)).toNat, (max 0 (min 10000 q.merge)).toNat, (max 10 (min 500 q.spray)).toNat⟩ := by
  simp only [RailFields.clamp, defaultActionOf_of_le_one ha, onOffOf_of_le_one hm]
  rfl

theorem railFields_fits (q : RailFields) : q.fits = true ↔
    2 ≤ q.recovery ∧ q.recovery ≤ 100 ∧ 0 ≤ q.join ∧ q.join ≤ 10000 ∧ 100 ≤ q.settle ∧ q.settle ≤ 200000 ∧
      1000 ≤ q.gunOffset ∧ q.gunOffset ≤ 200000 ∧ 0 ≤ q.merge ∧ q.merge ≤ 10000 ∧ 10 ≤ q.spray ∧ q.spray ≤ 500 := by
  simp [RailFields.fits, within_iff, and_assoc]

section Rail

variable {q : RailFields} {f : Frame} {s : State} {r : Rail}

theorem setRail_noRail (hr : f.rail = none) : setRail q f s = s.reply f .range 0 .headOnly := by
  simp only [setRail, hr]

variable (hr : f.rail = some r)
include hr

theorem setRail_range (hq : q.clamp = none) : setRail q f s = s.reply f .range 0 (.railRecord (s.setup.rails.get r)) := by
  simp only [setRail, hr, hq]

variable {new : RailSettings} (hq : q.clamp = some new)
include hq

theorem setRail_busy (hbusy : s.run.writing ≠ none) :
    setRail q f s = s.reply f .busy 0 (.railRecord (s.setup.rails.get r)) := by
  simp [setRail, hr, hq, writing_of_ne hbusy]

theorem setRail_state (hstore : s.run.writing = none) (hrun : s.run.state ≠ .stopped)
    (hdiff : new.join ≠ (s.setup.rails.get r).join ∨ new.settle ≠ (s.setup.rails.get r).settle) :
    setRail q f s = s.reply f .state 0 (.railRecord (s.setup.rails.get r)) := by
  have hcheck : (!s.stopped && !(new.join == (s.setup.rails.get r).join && new.settle == (s.setup.rails.get r).settle)) = true := by
    rw [stopped_of_ne hrun]
    obtain h | h := hdiff <;> simp [h]
  simp only [setRail, hr, hq, writing_of_none hstore, hcheck]
  rfl

theorem setRail_taken (hstore : s.run.writing = none) (hok : s.run.state = .stopped ∨
    new.join = (s.setup.rails.get r).join ∧ new.settle = (s.setup.rails.get r).settle) :
    setRail q f s = (s.setRailRecord r new).reply f (doneCode q.fits) 0 (.railRecord new) := by
  have hcheck : (!s.stopped && !(new.join == (s.setup.rails.get r).join && new.settle == (s.setup.rails.get r).settle)) = false := by
    obtain h | ⟨hj, hs⟩ := hok
    · rw [stopped_of_eq h]; rfl
    · simp [hj, hs]
  simp only [setRail, hr, hq, writing_of_none hstore, hcheck]
  rfl

end Rail

/-! ### SET_LEVELS -/

theorem levelFields_fits (q : LevelFields) : q.fits = true ↔
    ∀ v ∈ [q.interface, q.coupling, q.flaw1, q.flaw2, q.flaw3], 0 ≤ v ∧ v ≤ 4095 := by
  simp [LevelFields.fits, within_iff, and_assoc]

theorem setLevels_range {q : LevelFields} {f : Frame} (h : f.rail = none ∨ f.channel = none) (s : State) :
    setLevels q f s = s.reply f .range 0 .headOnly := by
  unfold setLevels
  split
  · next r ch hr hch => simp [hr, hch] at h
  · rfl

theorem channel_levels (x : ChannelRecord) : x.levels =
    .levels x.interfaceLevel x.couplingLevel (Vector.ofFn (fun g => match x.gates[g] with
      | some y => y.level
      | none => 0)) := by
  have hlevel : (fun g : Gate => (x.gates[g]).elim 0 FlawGate.level) = fun g => match x.gates[g] with
      | some y => y.level
      | none => 0 := by
    funext g
    cases x.gates[g] <;> rfl
  exact congrArg (fun v : Gate → Nat => ReplyPayload.levels x.interfaceLevel x.couplingLevel (Vector.ofFn v)) hlevel

/-- The levels of a record that takes new ones: an absent gate shows 0. -/
theorem withLevels_levels (x : ChannelRecord) (q : LevelFields) : (x.withLevels q).levels =
    .levels (clampNat 0 4095 q.interface) (clampNat 0 4095 q.coupling)
      (Vector.ofFn (fun g => if x.gates[g].isSome then q.flaw[g] else 0)) := by
  have hlevel : (fun g : Gate => ((x.withLevels q).gates[g]).elim 0 FlawGate.level) =
      fun g => if x.gates[g].isSome then q.flaw[g] else 0 := by
    funext g
    have hgate : (x.withLevels q).gates[g] = x.gates[g].map (fun y => { y with level := q.flaw[g] }) := Vector.getElem_ofFn ..
    rw [hgate]
    cases x.gates[g] <;> rfl
  exact congrArg (fun v : Gate → Nat =>
    ReplyPayload.levels (clampNat 0 4095 q.interface) (clampNat 0 4095 q.coupling) (Vector.ofFn v)) hlevel

/-! ### SNAPSHOT -/

section Snapshot

variable {f : Frame} {s : State}

theorem snapshot_range (h : f.rail = none ∨ f.channel = none) (s : State) : snapshot f s = s.reply f .range 0 .headOnly := by
  unfold snapshot
  split
  · next r ch hr hch => simp [hr, hch] at h
  · rfl

variable {r : Rail} {ch : Channel} (hr : f.rail = some r) (hch : f.channel = some ch)
include hr hch

theorem snapshot_state (h : s.run.state ≠ .running ∨ s.inPlan r ch = false) : snapshot f s = s.reply f .state 0 .headOnly := by
  simp only [snapshot, hr, hch, if_pos h]

variable (hrun : s.run.state = .running) (hplan : s.inPlan r ch = true)
include hrun hplan

theorem snapshot_busy (h : (s.echo.get r).snapshot ≠ .idle) : snapshot f s = s.reply f .busy 0 .headOnly := by
  have hpass : ¬(s.run.state ≠ .running ∨ s.inPlan r ch = false) := by simp [hrun, hplan]
  simp only [snapshot, hr, hch, if_neg hpass, if_pos h]

theorem snapshot_taken (h : (s.echo.get r).snapshot = .idle) :
    snapshot f s = (s.setEcho r { s.echo.get r with snapshot := .waiting ch }).reply f .ok 0 .headOnly := by
  have hpass : ¬(s.run.state ≠ .running ∨ s.inPlan r ch = false) := by simp [hrun, hplan]
  simp only [snapshot, hr, hch, if_neg hpass, if_neg (not_not.mpr h)]

end Snapshot

/-! ### SET_PATTERN -/

theorem conditionOf_eq_none {p : PatternFields} :
    p.conditionOf = none ↔ 3 ≤ p.condition ∨ (p.condition ≠ 0 ∧ 5 ≤ p.kind) := by
  have hkind : kindOf p.kind = none ↔ 5 ≤ p.kind := by rw [kindOf_eq]; simp
  unfold PatternFields.conditionOf
  split
  · next h => simp [h]
  · next h => simp [h, hkind]
  · next h => simp [h, hkind]
  · next h0 h1 h2 =>
    have hne : p.condition ≠ 0 ∧ p.condition ≠ 1 ∧ p.condition ≠ 2 := ⟨h0, h1, h2⟩
    exact iff_of_true rfl (.inl (by omega))

theorem patternClamp_eq_none (p : PatternFields) : p.clamp = none ↔
    3 ≤ p.rails ∨ 4096 ≤ p.considered.toNat ∨ 4096 ≤ p.required.toNat ∨ p.required &&& p.considered ≠ p.required ∨
      3 ≤ p.condition ∨ (p.condition ≠ 0 ∧ 5 ≤ p.kind) ∨ p.cls < 1 ∨ 63 < p.cls ∨ 3 ≤ p.action := by
  have hrails : appliesOf p.rails = none ↔ 3 ≤ p.rails := by rw [appliesOf_eq]; simp
  have haction : patternActionOf p.action = none ↔ 3 ≤ p.action := by rw [patternActionOf_eq]; simp
  have hcondition := conditionOf_eq_none (p := p)
  unfold PatternFields.clamp
  cases hr : appliesOf p.rails with
  | none => exact iff_of_true rfl (.inl (hrails.mp hr))
  | some rails =>
    have hr' : ¬3 ≤ p.rails := fun k => by rw [hrails.mpr k] at hr; cases hr
    cases hc : p.conditionOf with
    | none =>
      have hc' := hcondition.mp hc
      exact iff_of_true rfl (by tauto)
    | some condition =>
      have hc' : ¬(3 ≤ p.condition ∨ (p.condition ≠ 0 ∧ 5 ≤ p.kind)) := fun k => by rw [hcondition.mpr k] at hc; cases hc
      cases ha : patternActionOf p.action with
      | none =>
        have ha' := haction.mp ha
        exact iff_of_true rfl (by tauto)
      | some action =>
        have ha' : ¬3 ≤ p.action := fun k => by rw [haction.mpr k] at ha; cases ha
        have hsets : (namesAbove11 p.considered || namesAbove11 p.required || p.cls < 1 || 63 < p.cls ||
            (p.required &&& p.considered) != p.required) = true ↔ 4096 ≤ p.considered.toNat ∨ 4096 ≤ p.required.toNat ∨ p.cls < 1 ∨
            63 < p.cls ∨ p.required &&& p.considered ≠ p.required := by
          simp [namesAbove11, or_assoc]
        dsimp only
        split
        · next h =>
          refine iff_of_true rfl ?_
          obtain k | k | k | k | k := hsets.mp h
          · exact .inr (.inl k)
          · exact .inr (.inr (.inl k))
          · exact .inr (.inr (.inr (.inr (.inr (.inr (.inl k))))))
          · exact .inr (.inr (.inr (.inr (.inr (.inr (.inr (.inl k)))))))
          · exact .inr (.inr (.inr (.inl k)))
        · next h =>
          refine iff_of_false nofun ?_
          rintro (k | k | k | k | k | k | k | k | k)
          · exact hr' k
          · exact h (hsets.mpr (.inl k))
          · exact h (hsets.mpr (.inr (.inl k)))
          · exact h (hsets.mpr (.inr (.inr (.inr (.inr k)))))
          · exact hc' (.inl k)
          · exact hc' (.inr k)
          · exact h (hsets.mpr (.inr (.inr (.inl k))))
          · exact h (hsets.mpr (.inr (.inr (.inr (.inl k)))))
          · exact ha' k

theorem patternClamp_fields {p : PatternFields} {x : Pattern} (h : p.clamp = some x) :
    [AppliesTo.left, .right, .both][p.rails]? = some x.rails ∧ x.considered = p.considered ∧ x.required = p.required ∧
    (x.depthMin : Int) = max 0 (min 2500 p.depthMin) ∧ (x.depthMax : Int) = max 0 (min 2500 p.depthMax) ∧
    (p.condition = 0 → x.condition = .unconditional) ∧
    (∀ k, [LandmarkKind.weld, .joint, .switch, .crossing, .other][p.kind]? = some k →
      (p.condition = 1 → x.condition = .near k (max 0 (min 10000 p.window)).toNat) ∧
      (p.condition = 2 → x.condition = .notNear k (max 0 (min 10000 p.window)).toNat)) ∧
    x.cls = p.cls ∧ [PatternAction.act .report, .act .reportAndMark, .suppress][p.action]? = some x.action := by
  unfold PatternFields.clamp at h
  split at h
  · next rails condition action hr hc ha =>
    split at h
    · cases h
    · cases h
      rw [appliesOf_eq] at hr
      rw [patternActionOf_eq] at ha
      refine ⟨hr, rfl, rfl, clampNat_cast .., clampNat_cast .., fun h0 => ?_, fun k hk => ⟨fun h1 => ?_, fun h2 => ?_⟩, rfl, ha⟩
      · simp only [PatternFields.conditionOf, h0] at hc
        exact (Option.some.inj hc).symm
      · rw [← kindOf_eq] at hk
        simp only [PatternFields.conditionOf, h1, hk] at hc
        exact (Option.some.inj hc).symm
      · rw [← kindOf_eq] at hk
        simp only [PatternFields.conditionOf, h2, hk] at hc
        exact (Option.some.inj hc).symm
  · cases h

theorem patternFields_fit (entry : Option PatternFields) : entry.all PatternFields.fits = true ↔
    ∀ p, entry = some p → 0 ≤ p.depthMin ∧ p.depthMin ≤ 2500 ∧ 0 ≤ p.depthMax ∧ p.depthMax ≤ 2500 ∧
      0 ≤ p.window ∧ p.window ≤ 10000 := by
  cases entry <;> simp [PatternFields.fits, within_iff, and_assoc]

theorem depthsCross_iff (new : Option Pattern) : depthsCross new = true ↔ ∃ x, new = some x ∧ x.depthMax < x.depthMin := by
  cases new <;> simp [depthsCross]

theorem entryOf_eq_some {entry : Option PatternFields} {new : Option Pattern}
    (h : entry = none ∧ new = none ∨ ∃ p x, entry = some p ∧ p.clamp = some x ∧ new = some x) : entryOf entry = some new := by
  obtain ⟨rfl, rfl⟩ | ⟨p, x, rfl, hx, rfl⟩ := h
  · rfl
  · rw [entryOf, hx]; rfl

section Pattern

variable {q : SetPatternFields} {f : Frame} {s : State}

theorem setPattern_index (h : 16 ≤ q.index) (s : State) : setPattern q f s = s.reply f .range 0 .headOnly := by
  simp only [setPattern, indexBelow_eq_none.mpr h]

variable {i : Fin 16} (hi : q.index = i.val)
include hi

theorem setPattern_range (hq : entryOf q.entry = none) :
    setPattern q f s = s.reply f .range 0 (patternPayload s.setup.patterns[i]) := by
  simp only [setPattern, indexBelow_eq_some.mpr hi, hq]

variable {new : Option Pattern} (hq : entryOf q.entry = some new)
include hq

theorem setPattern_busy (hbusy : s.run.writing ≠ none) :
    setPattern q f s = s.reply f .busy 0 (patternPayload s.setup.patterns[i]) := by
  simp [setPattern, indexBelow_eq_some.mpr hi, hq, writing_of_ne hbusy]

theorem setPattern_order (hstore : s.run.writing = none) (hcross : depthsCross new = true) :
    setPattern q f s = s.reply f .order 0 (patternPayload s.setup.patterns[i]) := by
  simp [setPattern, indexBelow_eq_some.mpr hi, hq, writing_of_none hstore, hcross]

theorem setPattern_taken (hstore : s.run.writing = none) (hcross : depthsCross new = false) :
    setPattern q f s = (s.setEntry i new).reply f (doneCode (q.entry.all PatternFields.fits)) 0 (patternPayload new) := by
  simp only [setPattern, indexBelow_eq_some.mpr hi, hq, writing_of_none hstore, hcross]
  rfl

end Pattern

/-- Settles O54: the checks of the four requests in their order, what each does when taken, and a pattern's sets. -/
theorem railLevelAndPatternRequests : Obligations.RailLevelAndPatternRequests := by
  refine ⟨fun s f rest => ⟨fun q hw hr => ?_, fun q r hw hr => ⟨fun h => ?_, fun ha hm hbusy => ?_, fun new ha hm hstore hnew => ?_⟩,
    fun q hw h => ?_, fun q r ch lv i c x hw hr hch hlv hi hc hx => ⟨fun hbusy => ?_, fun hstore => ?_⟩, fun hw h => ?_,
    fun r ch hw hr hch => ⟨fun h => ?_, fun hrun hplan => ⟨fun h => ?_, fun h => ?_⟩⟩⟩, fun s q f rest hw => ?_,
    fun p => ⟨patternClamp_eq_none p, fun x hx => patternClamp_fields hx⟩, channel_levels⟩
  · exact congrArg Host.Outcome.next ((request_taken hw _).trans (setRail_noRail hr))
  · exact congrArg Host.Outcome.next ((request_taken hw _).trans (setRail_range hr (railClamp_eq_none h)))
  · exact congrArg Host.Outcome.next
      ((request_taken hw _).trans (setRail_busy (s := s.taken rest) hr (railClamp_eq_some ha hm) hbusy))
  · have hclamp : q.clamp = some new := hnew ▸ railClamp_eq_some ha hm
    refine ⟨fun hrun hdiff => congrArg Host.Outcome.next
      ((request_taken hw _).trans (setRail_state (s := s.taken rest) hr hclamp hstore hrun hdiff)), fun hok =>
        (congrArg Host.Outcome.next ((request_taken hw _).trans (setRail_taken (s := s.taken rest) hr hclamp hstore hok))).trans ?_⟩
    rw [doneCode_eq (railFields_fits q)]
    rfl
  · exact congrArg Host.Outcome.next ((request_taken hw _).trans (setLevels_range h _))
  · refine congrArg Host.Outcome.next ((request_taken hw _).trans ?_)
    simp only [setLevels, hr, hch, taken_writing, writing_of_ne hbusy]
    rfl
  · have hrecord : (s.channel r ch).withLevels q = x := by rw [hx, hlv, hi, hc]; rfl
    have hshown : x.levels = .levels i c (Vector.ofFn (fun g => if (s.channel r ch).gates[g].isSome then lv[g] else 0)) := by
      rw [← hrecord, withLevels_levels, hlv, hi, hc]
      rfl
    refine congrArg Host.Outcome.next ((request_taken hw _).trans ?_)
    simp only [setLevels, hr, hch, taken_writing, writing_of_none hstore, taken_channel, hrecord, hshown,
      doneCode_eq (levelFields_fits q)]
    rfl
  · exact congrArg Host.Outcome.next ((request_taken hw _).trans (snapshot_range h _))
  · refine congrArg Host.Outcome.next ((request_taken hw _).trans (snapshot_state (s := s.taken rest) hr hch (h.imp id fun h => ?_)))
    exact Bool.eq_false_iff.mpr fun k => by
      obtain ⟨g, hg, hmem⟩ := (plan_has _ ch).mp k
      exact h g hg hmem
  · exact congrArg Host.Outcome.next
      ((request_taken hw _).trans (snapshot_busy (s := s.taken rest) hr hch hrun ((plan_has _ ch).mpr hplan) h))
  · exact congrArg Host.Outcome.next
      ((request_taken hw _).trans (snapshot_taken (s := s.taken rest) hr hch hrun ((plan_has _ ch).mpr hplan) h))
  · have hexec : exec (.setPattern q) s = .next (setPattern q f (s.taken rest)) := by
      rw [← setPattern_size] at hw
      exact congrArg Host.Outcome.next (request_taken hw _)
    refine ⟨fun h => hexec.trans (congrArg Host.Outcome.next (setPattern_index h _)), fun i hi => ⟨fun p hp hclamp => ?_, fun new hnew =>
      ⟨fun hbusy => ?_, fun hstore hcross => ?_, fun hstore hdepths => ?_⟩⟩⟩
    · exact hexec.trans (congrArg Host.Outcome.next (setPattern_range hi (by rw [hp, entryOf, hclamp]; rfl)))
    · exact hexec.trans (congrArg Host.Outcome.next (setPattern_busy (s := s.taken rest) hi (entryOf_eq_some hnew) hbusy))
    · exact hexec.trans (congrArg Host.Outcome.next
        (setPattern_order (s := s.taken rest) hi (entryOf_eq_some hnew) hstore ((depthsCross_iff new).mpr hcross)))
    · have hcross : depthsCross new = false := Bool.eq_false_iff.mpr fun k => by
        obtain ⟨x, hx, hlt⟩ := (depthsCross_iff new).mp k
        exact absurd hlt (Nat.not_lt.mpr (hdepths x hx))
      have htaken {code : ReplyCode} (hcode : doneCode (q.entry.all PatternFields.fits) = code) :
          setPattern q f (s.taken rest) =
            { s with
              setup := { s.setup with patterns := setAt s.setup.patterns i new }
              line := answeredLine s.line f rest code 0 (.pattern (new.map Pattern.shown)) } := by
        rw [setPattern_taken (s := s.taken rest) hi (entryOf_eq_some hnew) hstore hcross, hcode]
        simp only [State.setEntry, State.reply, State.setSetup, State.setLine, State.taken, answeredLine, patternPayload]
      exact hexec.trans (congrArg Host.Outcome.next (htaken (doneCode_eq (patternFields_fit q.entry))))

end Sys2Proof.Machine
end

section
/-! PROOFS. The transmitter, the CRC and numbers on the line (O47, first part). -/

namespace Sys2Proof.Machine

/-! ### The transmitter at a frame boundary -/

theorem sendReply_begins {s : State} {p : Reply} {rest : List Reply} (hidle : s.line.sending = none)
    (hreplies : s.line.replies = p :: rest) :
    sendReply s = { s with line := { s.line with sending := some (.reply p), replies := rest } } := by
  simp only [sendReply, hidle, hreplies]
  rfl

theorem sendBundle_begins {s : State} (hidle : s.line.sending = none) (hreplies : s.line.replies = [])
    (hready : s.line.bundle.state = .ready) : sendBundle s =
      { s with
        line :=
          { s.line with
            sending := some (.bundle s.line.tag (s.line.queue.take s.line.bundle.held))
            queue := s.line.queue.drop s.line.bundle.held, tag := s.line.tag + 1
            bundle := openBundle s.setup.reporting.cap s.flushEnd (s.line.queue.drop s.line.bundle.held) } } := by
  simp only [sendBundle, hidle, hreplies, hready]
  exact refill_eq rfl

/-! ### The CRC-16, bit by bit -/

/-- One shift of the division over a register in which the next bits already stand, and those bits shifted. -/
theorem crcShift_xor {feed : Word16 → Bool → Word16}
    (hfeed : ∀ (c : Word16) (bit : Bool), feed c bit = if c.msb = bit then c <<< 1 else (c <<< 1) ^^^ 0x1021#16) (c w : Word16) :
    crcShift (c ^^^ w) = feed c w.msb ^^^ (w <<< 1) := by
  have hmsb : (c ^^^ w).msb = (c.msb ^^ w.msb) := BitVec.msb_xor
  have hshift : (c ^^^ w) <<< 1 = (c <<< 1) ^^^ (w <<< 1) := BitVec.shiftLeft_xor_distrib ..
  rw [crcShift, hfeed, hmsb, hshift]
  by_cases h : c.msb = w.msb
  · rw [h]
    simp
  · have hx : (c.msb ^^ w.msb) = true := by cases hc : c.msb <;> cases hw : w.msb <;> simp_all
    rw [hx, if_pos rfl, if_neg h, BitVec.xor_assoc, BitVec.xor_assoc, BitVec.xor_comm (w <<< 1)]

/-- Bit `7 - k` of a byte is the top bit of its word after `k` shifts. -/
theorem byte_bit (b : Byte) (k : Nat) (hk : k < 8) : ((b.setWidth 16 <<< 8) <<< k).msb = b.getLsbD (7 - k) := by
  rw [BitVec.msb_eq_getLsbD_last, ← BitVec.shiftLeft_add, BitVec.getLsbD_shiftLeft, BitVec.getLsbD_setWidth]
  have h1 : 16 - 1 - (8 + k) = 7 - k := by omega
  have h2 : ¬(16 - 1 < 8 + k) := by omega
  have h3 : 7 - k < 16 := by omega
  simp [h1, h2, h3]

theorem crcByte_feeds {feed : Word16 → Bool → Word16}
    (hfeed : ∀ (c : Word16) (bit : Bool), feed c bit = if c.msb = bit then c <<< 1 else (c <<< 1) ^^^ 0x1021#16) (c : Word16)
    (b : Byte) : crcByte c b = ([7, 6, 5, 4, 3, 2, 1, 0].map (fun k => b.getLsbD k)).foldl feed c := by
  have hstep (k : Nat) (hk : k < 8) (c : Word16) : crcShift (c ^^^ (b.setWidth 16 <<< 8) <<< k) =
      feed c (b.getLsbD (7 - k)) ^^^ (b.setWidth 16 <<< 8) <<< (k + 1) := by
    rw [crcShift_xor hfeed, byte_bit b k hk, ← BitVec.shiftLeft_add]
  have hstart : c ^^^ (b.setWidth 16 <<< 8) = c ^^^ (b.setWidth 16 <<< 8) <<< 0 := by rw [BitVec.shiftLeft_zero]
  have hend (c : Word16) : c ^^^ (b.setWidth 16 <<< 8) <<< (7 + 1) = c := by
    have hgone : (b.setWidth 16 <<< 8) <<< (7 + 1) = 0#16 := by
      rw [← BitVec.shiftLeft_add]
      exact BitVec.shiftLeft_eq_zero (Nat.le_refl _)
    rw [hgone, BitVec.xor_zero]
  rw [crcByte, hstart, hstep 0 (by decide), hstep 1 (by decide), hstep 2 (by decide), hstep 3 (by decide), hstep 4 (by decide),
    hstep 5 (by decide), hstep 6 (by decide), hstep 7 (by decide), hend]
  rfl

theorem crc16_feeds {feed : Word16 → Bool → Word16}
    (hfeed : ∀ (c : Word16) (bit : Bool), feed c bit = if c.msb = bit then c <<< 1 else (c <<< 1) ^^^ 0x1021#16) (bs : List Byte) :
    crc16 bs = (bs.flatMap (fun b => [7, 6, 5, 4, 3, 2, 1, 0].map (fun k => b.getLsbD k))).foldl feed 0xFFFF#16 := by
  unfold crc16
  generalize 0xFFFF#16 = c
  induction bs generalizing c with
  | nil => rfl
  | cons b bs ih => rw [List.foldl_cons, List.flatMap_cons, List.foldl_append, ← crcByte_feeds hfeed, ih]

/-! ### Numbers, high byte first -/

theorem toNat_append_byte {n : Nat} (x : BitVec n) (y : Byte) : (x ++ y).toNat = x.toNat * 256 + y.toNat := by
  rw [BitVec.toNat_append, ← Nat.shiftLeft_add_eq_or_of_lt y.isLt, Nat.shiftLeft_eq]

theorem bytes2_append (v : Int) : BitVec.ofInt 8 (v / 256) ++ BitVec.ofInt 8 v = BitVec.ofInt 16 v := by
  apply BitVec.eq_of_toNat_eq
  rw [toNat_append_byte]
  simp only [BitVec.toNat_ofInt]
  omega

theorem bytes4_append (v : Int) : BitVec.ofInt 8 (v / 16777216) ++ BitVec.ofInt 8 (v / 65536) ++ BitVec.ofInt 8 (v / 256) ++
    BitVec.ofInt 8 v = BitVec.ofInt 32 v := by
  apply BitVec.eq_of_toNat_eq
  rw [toNat_append_byte, toNat_append_byte, toNat_append_byte]
  simp only [BitVec.toNat_ofInt]
  omega

/-- Two bytes, from the number they spell. -/
theorem bytes2_word2 (h l : Byte) : bytes2 ((h.toNat * 256 + l.toNat : Nat) : Int) = [h, l] := by
  have hhigh : BitVec.ofNat 8 ((h.toNat * 256 + l.toNat) / 256) = h := BitVec.eq_of_toNat_eq (by
    rw [BitVec.toNat_ofNat]; omega)
  have hlow : BitVec.ofNat 8 (h.toNat * 256 + l.toNat) = l := BitVec.eq_of_toNat_eq (by
    rw [BitVec.toNat_ofNat]; omega)
  rw [bytes2_natCast, hhigh, hlow]

theorem frameBytes_eq {body : List Byte} {h l ch cl : Byte} (hlen : h.toNat * 256 + l.toNat = body.length)
    (hcrc : ch ++ cl = crc16 (h :: l :: body)) : frameBytes body = 0xC3#8 :: 0x5A#8 :: h :: l :: body ++ [ch, cl] := by
  have hlength : bytes2 (body.length : Int) = [h, l] := hlen ▸ bytes2_word2 h l
  have hword : (crc16 (h :: l :: body)).toNat = ch.toNat * 256 + cl.toNat := by rw [← hcrc, toNat_append_byte]
  unfold frameBytes
  rw [hlength, List.cons_append, List.cons_append, List.nil_append, hword, bytes2_word2]
  rfl

end Sys2Proof.Machine
end

section
/-! PROOFS. The layouts of replies and records (O47). -/

namespace Sys2Proof.Machine

/-! ### Flags and enumerations as numbers on the line -/

section Numbers

variable {side : Rail → Int} {one no : Bool → Int}

theorem railByte_cast (hl : side .left = 0) (hr : side .right = 1) (r : Rail) : (railByte r : Int) = side r := by
  cases r
  · exact hl.symm
  · exact hr.symm

theorem yesNo_cast (ht : no true = 0) (hf : no false = 1) (b : Bool) : (yesNo b : Int) = no b := by
  cases b
  · exact hf.symm
  · exact ht.symm

theorem flagBit_cast (hf : one false = 0) (ht : one true = 1) (k : Nat) (b : Bool) : (flagBit k b : Int) = 2 ^ k * one b := by
  cases b
  · rw [hf]; simp [flagBit]
  · rw [ht]; simp [flagBit]

theorem yesNo_one (hf : one false = 0) (ht : one true = 1) (b : Bool) : (yesNo b : Int) = 1 - one b := by
  cases b
  · rw [hf]; rfl
  · rw [ht]; rfl

end Numbers

theorem reportAction_code (a : ReportAction) : a.code = if a = .report then 0 else 1 := by cases a <;> rfl

theorem setupSource_code (x : SetupSource) : x.code = if x = .stored then 0 else 1 := by cases x <;> rfl

theorem motion_code (m : Motion) : m.code = if m = .forward then 0 else if m = .reverse then 1 else 2 := by cases m <;> rfl

theorem closedBy_code (c : ClosedBy) :
    c.code = if c = .settle then 0 else if c = .forced then 1 else if c = .flush then 2 else 3 := by cases c <;> rfl

/-- The coupling states of both rails, a byte each. -/
theorem couplingBytes_pair (v w : Vector CouplingState 12) (rest : List Byte) : couplingBytes v ++ (couplingBytes w ++ rest) =
    [v, w].flatMap (fun v => (List.finRange 12).flatMap (fun ch => bytes1 (match v[ch] with
      | .inactive => 0
      | .unknown => 1
      | .coupled => 2
      | .uncoupled => 3))) ++ rest := by
  have hcode : couplingBytes = fun v => (List.finRange 12).flatMap (fun ch => bytes1 (match v[ch] with
      | .inactive => 0
      | .unknown => 1
      | .coupled => 2
      | .uncoupled => 3)) := by
    funext v
    refine List.flatMap_congr fun ch _ => ?_
    cases v[ch] <;> rfl
  rw [hcode]
  simp only [List.flatMap_cons, List.flatMap_nil, List.append_nil, List.append_assoc]

theorem verifyEntry_layout (e : VerifyEntry) : e.bytes =
    bytes1 e.channel.val ++ bytes2 (e.interface.getD 0xFFFF) ++ hitBytes e.hits[0] ++ hitBytes e.hits[1] ++ hitBytes e.hits[2] := by
  have hgates : (List.finRange 3).flatMap (fun g => hitBytes e.hits[g]) =
      hitBytes e.hits[0] ++ (hitBytes e.hits[1] ++ hitBytes e.hits[2]) := by
    simp [List.finRange_succ]
  rw [VerifyEntry.bytes, hgates]
  simp only [List.append_assoc]
  rfl

/-! ### The layouts of the records -/

section Records

variable {side : Rail → Int} {one : Bool → Int} (hl : side .left = 0) (hr : side .right = 1) (hf : one false = 0) (ht : one true = 1)

include hl hr hf ht in
theorem hit_layout (x : HitRecord) : (Record.hit x).bytes =
    bytes1 1 ++ bytes1 (side x.rail) ++ bytes2 19 ++ bytes1 x.channel.val ++ bytes1 (x.gate.val + 1) ++
      bytes1 (one x.uncoupled + 2 * one x.depthClamped) ++ bytes2 x.amplitude ++ bytes2 x.depth ++ bytes4 x.position ++
      bytes4 x.reflector := by
  have hflags : (x.flagBits : Int) = one x.uncoupled + 2 * one x.depthClamped := by
    simp [HitRecord.flagBits, flagBit_cast hf ht]
  simp only [Record.bytes, Record.kindCode, Record.railCode, Record.length, Record.fieldBytes, railByte_cast hl hr, hflags,
    List.append_assoc]
  rfl

include hl hr in
theorem captured_layout (r : Rail) (ch : Channel) (pf : Int) (n : Nat) (i : Option Nat) (k : Nat) (points : List Nat) :
    (Record.snapshot (.captured r ch pf n i k points)).bytes =
      bytes1 2 ++ bytes1 (side r) ++ bytes2 (17 + 2 * points.length) ++ bytes1 ch.val ++ bytes1 0 ++ bytes4 pf ++ bytes2 n ++
        bytes2 (i.getD 0xFFFF) ++ bytes1 k ++ bytes2 points.length ++ points.flatMap (fun p => bytes2 p) := by
  simp only [Record.bytes, Record.kindCode, Record.railCode, Record.length, Record.fieldBytes, railByte_cast hl hr,
    List.append_assoc]
  rfl

include hl hr in
theorem cancelled_layout (r : Rail) (ch : Channel) : (Record.snapshot (.cancelled r ch)).bytes =
    bytes1 2 ++ bytes1 (side r) ++ bytes2 17 ++ bytes1 ch.val ++ bytes1 1 ++ bytes4 0 ++ bytes2 0 ++ bytes2 0xFFFF ++ bytes1 0 ++
      bytes2 0 := by
  simp only [Record.bytes, Record.kindCode, Record.railCode, Record.length, Record.fieldBytes, railByte_cast hl hr,
    List.append_assoc]
  rfl

include hf ht in
theorem contribution_layout (c : Contribution) : c.bytes =
    bytes1 c.channel.val ++ bytes1 (c.gate.val + 1) ++ bytes1 (one c.uncoupled) ++ bytes4 c.minPr ++ bytes4 c.maxPr ++
      bytes2 c.minD ++ bytes2 c.maxD ++ bytes2 c.peak.amplitude ++ bytes4 c.peak.reflector ++ bytes2 c.peak.depth ++
      bytes2 c.hits := by
  have hflag : (flagBit 0 c.uncoupled : Int) = one c.uncoupled := by simp [flagBit_cast hf ht]
  rw [Contribution.bytes, hflag]
  rfl

include hl hr hf ht in
theorem finding_layout (x : FindingRecord) : (Record.finding x).bytes =
    bytes1 3 ++ bytes1 (side x.rail) ++ bytes2 (27 + 25 * x.finding.contributions.length) ++ bytes2 x.number ++ bytes1 x.cls ++
      bytes1 (match x.pattern with
        | some i => i.val
        | none => 0xFF) ++
      bytes1 (if x.action = .report then 0 else 1) ++ bytes1 (1 - one x.markRequested) ++
      bytes1 (if x.closedBy = .settle then 0 else if x.closedBy = .forced then 1 else if x.closedBy = .flush then 2 else 3) ++
      bytes1 (one x.finding.truncated + 2 * one (x.closedBy == .forced) + 4 * one x.finding.uncoupled) ++
      bytes4 x.finding.start ++ bytes4 x.finding.finish ++ bytes2 x.finding.depthMin ++ bytes2 x.finding.depthMax ++
      bytes2 x.peakDepth ++ bytes1 x.finding.contributions.length ++
      x.finding.contributions.flatMap (fun c =>
        bytes1 c.channel.val ++ bytes1 (c.gate.val + 1) ++ bytes1 (one c.uncoupled) ++ bytes4 c.minPr ++ bytes4 c.maxPr ++
          bytes2 c.minD ++ bytes2 c.maxD ++ bytes2 c.peak.amplitude ++ bytes4 c.peak.reflector ++ bytes2 c.peak.depth ++
          bytes2 c.hits) := by
  have hflags : (x.flagBits : Int) = one x.finding.truncated + 2 * one (x.closedBy == .forced) + 4 * one x.finding.uncoupled := by
    simp [FindingRecord.flagBits, flagBit_cast hf ht]
  have haction : (x.action.code : Int) = if x.action = .report then 0 else 1 := by cases x.action <;> rfl
  have hclosed : (x.closedBy.code : Int) =
      if x.closedBy = .settle then 0 else if x.closedBy = .forced then 1 else if x.closedBy = .flush then 2 else 3 := by
    cases x.closedBy <;> rfl
  have hcontributions : Contribution.bytes = fun c =>
      bytes1 c.channel.val ++ bytes1 (c.gate.val + 1) ++ bytes1 (one c.uncoupled) ++ bytes4 c.minPr ++ bytes4 c.maxPr ++
        bytes2 c.minD ++ bytes2 c.maxD ++ bytes2 c.peak.amplitude ++ bytes4 c.peak.reflector ++ bytes2 c.peak.depth ++
        bytes2 c.hits := funext (contribution_layout hf ht)
  rw [← hcontributions]
  simp only [Record.bytes, Record.kindCode, Record.railCode, Record.length, Record.fieldBytes, railByte_cast hl hr, hflags, haction,
    hclosed, yesNo_one hf ht, List.append_assoc]
  cases x.pattern <;> rfl

include hl hr hf ht in
theorem untested_layout (x : UntestedRecord) : (Record.untested x).bytes =
    bytes1 4 ++ bytes1 (side x.rail) ++ bytes2 15 ++ bytes1 x.channel.val ++
      bytes1 (one x.causes.coupling + 2 * one x.causes.blanked + 4 * one x.causes.spacing) ++ bytes1 (1 - one x.cut) ++
      bytes4 x.start ++ bytes4 x.finish := by
  have hcauses : (x.causes.bits : Int) = one x.causes.coupling + 2 * one x.causes.blanked + 4 * one x.causes.spacing := by
    simp [Causes.bits, flagBit_cast hf ht]
  simp only [Record.bytes, Record.kindCode, Record.railCode, Record.length, Record.fieldBytes, railByte_cast hl hr, hcauses,
    yesNo_one hf ht, List.append_assoc]
  rfl

include hl hr in
theorem mark_layout (x : MarkRecord) : (Record.mark x).bytes =
    bytes1 5 ++ bytes1 (side x.rail) ++ bytes2 23 ++
      bytes1 (match x.outcome with
        | .queued => 0
        | .late => 1
        | .merged => 2
        | .full => 3
        | .fired => 4
        | .discarded => 5) ++
      bytes1 x.occupancy ++ bytes1 x.mergedCount ++ bytes2 x.finding ++ bytes4 x.target ++
      (match x.absorbing with
        | some a => bytes2 a.finding ++ bytes4 a.target
        | none => bytes2 0 ++ bytes4 Config.noPositionWord.toNat) ++
      bytes4 (x.gun.getD 0) := by
  simp only [Record.bytes, Record.kindCode, Record.railCode, Record.length, Record.fieldBytes, railByte_cast hl hr,
    List.append_assoc]
  cases x.outcome <;> cases x.absorbing <;> rfl

include hf ht in
theorem setupResult_layout (done : Bool) : (Record.setupResult done).bytes =
    bytes1 8 ++ bytes1 2 ++ bytes2 5 ++ bytes1 (1 - one done) := by
  cases done
  · rw [hf]; rfl
  · rw [ht]; rfl

include hl hr in
theorem calResult_layout (x : CalRecord) : (Record.calResult x).bytes =
    bytes1 6 ++ bytes1 (side x.rail) ++ bytes2 28 ++ bytes1 x.channel.val ++ bytes1 (x.gate.val + 1) ++
      bytes1 (if x.second then 2 else 1) ++
      bytes1 (match x.result with
        | .step1Done => 0
        | .noEcho => 1
        | .done => 2
        | .order => 3
        | .range => 4
        | .aborted => 5) ++
      bytes2 x.depth ++ hitBytes x.measured ++ bytes2 x.done ++
      (match x.firstPoint with
        | some (d, t) => bytes2 d ++ bytes2 t
        | none => bytes2 Config.noDepthWord.toNat ++ bytes2 0xFFFF) ++
      bytes2 x.kd ++ bytes2 x.zero ++ bytes4 x.ka := by
  simp only [Record.bytes, Record.kindCode, Record.railCode, Record.length, Record.fieldBytes, railByte_cast hl hr,
    List.append_assoc]
  cases x.result <;> rcases x.firstPoint with _ | ⟨d, t⟩ <;> rfl

end Records

section RailRecords

variable {side : Rail → Int} (hl : side .left = 0) (hr : side .right = 1)

include hl hr in
theorem verifyResult_layout (x : VerifyRecord) : (Record.verifyResult x).bytes =
    bytes1 7 ++ bytes1 (side x.rail) ++ bytes2 (17 + 15 * x.entries.length) ++
      bytes1 (if x.signature.isSome then 0 else 1) ++ bytes2 x.echo.d1 ++ bytes2 x.echo.a1 ++ bytes2 x.echo.d2 ++
      bytes2 x.echo.a2 ++ bytes2 x.entries.length ++
      x.entries.flatMap (fun e =>
        bytes1 e.channel.val ++ bytes2 (e.interface.getD 0xFFFF) ++ hitBytes e.hits[0] ++ hitBytes e.hits[1] ++ hitBytes e.hits[2]) ++
      (match x.signature with
        | some w => bytes2 w.toNat
        | none => bytes2 Config.noSignatureWord.toNat) := by
  rw [← funext verifyEntry_layout]
  simp only [Record.bytes, Record.kindCode, Record.railCode, Record.length, Record.fieldBytes, railByte_cast hl hr,
    List.append_assoc]
  cases x.signature <;> rfl

end RailRecords

section StatusRecords

variable {one : Bool → Int} (hf : one false = 0) (ht : one true = 1)

include hf ht in
theorem status_layout (x : StatusRecord) : (Record.status x).bytes =
    bytes1 9 ++ bytes1 2 ++ bytes2 73 ++
      bytes1 (match x.cause with
        | .periodic => 0
        | .change => 1
        | .request => 2) ++
      bytes1 (match x.runState with
        | .stopped => 0
        | .running => 1
        | .draining => 2
        | .calibrating => 3
        | .verifying => 4) ++
      bytes1 (one x.writing) ++ bytes1 (if x.source = .stored then 0 else 1) ++
      bytes1 (if x.motion = .forward then 0 else if x.motion = .reverse then 1 else 2) ++
      bytes1 (one x.loss + 2 * one x.silence) ++ bytes4 x.carPosition ++ bytes4 x.frontier ++ bytes2 x.speed ++
      ([x.coupling.left, x.coupling.right].flatMap (fun v => (List.finRange 12).flatMap (fun ch => bytes1 (match v[ch] with
        | .inactive => 0
        | .unknown => 1
        | .coupled => 2
        | .uncoupled => 3)))) ++
      bytes1 (one x.changes.runState + 2 * one x.changes.motion + 4 * one x.changes.silence + 8 * one x.changes.loss) ++
      bytes2 x.changes.coupling.left.toNat ++ bytes2 x.changes.coupling.right.toNat ++ bytes2 x.occupancy ++
      bytes2 x.skipped.left ++ bytes2 x.skipped.right ++ bytes2 x.overflow.left ++ bytes2 x.overflow.right ++
      bytes2 x.noise.left ++ bytes2 x.noise.right ++ bytes2 x.suppressed ++ bytes2 x.frameErrors ++ bytes2 x.overruns ++
      bytes2 x.dropped ++ bytes2 x.lost := by
  have hcause : (x.cause.code : Int) = match x.cause with | .periodic => 0 | .change => 1 | .request => 2 := by
    cases x.cause <;> rfl
  have hrun : (x.runState.code : Int) = match x.runState with
      | .stopped => 0 | .running => 1 | .draining => 2 | .calibrating => 3 | .verifying => 4 := by
    cases x.runState <;> rfl
  have hwriting : (if x.writing then 1 else 0) = one x.writing := by
    cases x.writing
    · exact hf.symm
    · exact ht.symm
  have hsource : (x.source.code : Int) = if x.source = .stored then 0 else 1 := by cases x.source <;> rfl
  have hmotion : (x.motion.code : Int) = if x.motion = .forward then 0 else if x.motion = .reverse then 1 else 2 := by
    cases x.motion <;> rfl
  have hline : (x.lineBits : Int) = one x.loss + 2 * one x.silence := by simp [StatusRecord.lineBits, flagBit_cast hf ht]
  have hmarks : (x.changes.markBits : Int) =
      one x.changes.runState + 2 * one x.changes.motion + 4 * one x.changes.silence + 8 * one x.changes.loss := by
    simp [ChangeSet.markBits, flagBit_cast hf ht]
  unfold Record.bytes Record.fieldBytes StatusRecord.bytes
  dsimp only
  simp only [hcause, hrun, hwriting, hsource, hmotion, hline, hmarks, List.append_assoc, couplingBytes_pair]
  rfl

end StatusRecords

/-! ### Lengths -/

theorem hitBytes_length (h : Option Hit) : (hitBytes h).length = 4 := by
  cases h <;> rfl

theorem contributionBytes_length (c : Contribution) : c.bytes.length = 25 := by
  simp [Contribution.bytes]

theorem verifyEntryBytes_length (e : VerifyEntry) : e.bytes.length = 15 := by
  rw [verifyEntry_layout]
  simp [hitBytes_length]

/-- A record's fields are as many bytes as its length says beyond the head. -/
theorem fieldBytes_length (x : Record) : 4 + x.fieldBytes.length = x.length := by
  rcases x with h | (⟨r, ch, pf, n, i, k, points⟩ | ⟨r, ch⟩) | f | u | m | c | v | d | s
  · simp [Record.fieldBytes, Record.length]
  · have hpoints := length_flatMap_const (n := 2) (f := fun n : Int => bytes2 n) bytes2_length
    simp [Record.fieldBytes, Record.length, timeBytes, hpoints]
    omega
  · rfl
  · have hcontributions := length_flatMap_const contributionBytes_length f.finding.contributions
    simp [Record.fieldBytes, Record.length, hcontributions]
    omega
  · simp [Record.fieldBytes, Record.length]
  · rcases m with ⟨_, _, _, _, _ | _, _, _, _⟩ <;> simp [Record.fieldBytes, Record.length]
  · rcases c with ⟨_, _, _, _, _, _, _, _, _ | ⟨_, _⟩, _, _, _⟩ <;>
      simp [Record.fieldBytes, Record.length, hitBytes_length, timeBytes]
  · have hentries := length_flatMap_const verifyEntryBytes_length v.entries
    simp [Record.fieldBytes, Record.length, hentries]
    omega
  · rfl
  · simp [Record.fieldBytes, Record.length]

theorem recordBytes_length (x : Record) : x.bytes.length = x.length := by
  rw [← fieldBytes_length]
  simp only [Record.bytes, List.length_append, bytes1_length, bytes2_length]

theorem flatMap_bytes_length (rs : List Record) : (rs.flatMap Record.bytes).length = lengthSum rs := by
  induction rs with
  | nil => rfl
  | cons r rs ih => rw [List.flatMap_cons, List.length_append, recordBytes_length, ih, lengthSum_cons]

theorem bundle_body (tag : Byte) (rs : List Record) :
    (Outgoing.bundle tag rs).body = 0x80#8 :: tag :: (bytes2 rs.length ++ rs.flatMap Record.bytes) ∧
      (Outgoing.bundle tag rs).body.length = bodyLength rs := by
  have hbody : (Outgoing.bundle tag rs).body = 0x80#8 :: tag :: (bytes2 rs.length ++ rs.flatMap Record.bytes) := rfl
  refine ⟨hbody, ?_⟩
  rw [hbody, bodyLength_eq, List.length_cons, List.length_cons, List.length_append, flatMap_bytes_length, bytes2_length]
  omega

theorem bytes1_natCast (n : Nat) : bytes1 n = [BitVec.ofNat 8 n] := by rw [bytes1, BitVec.ofInt_natCast]

theorem reply_body (p : Reply) : (Outgoing.reply p).body =
    p.kind :: p.tag :: BitVec.ofNat 8 p.code.code :: BitVec.ofNat 8 p.index :: p.payload.bytes := by
  simp only [Outgoing.body, bytes1_natCast]
  rfl

/-! ### The layouts of the replies -/

section Replies

variable {no : Bool → Int} (ht : no true = 0) (hf : no false = 1)

include ht hf in
theorem landmark_layout (e : Landmark) : e.bytes = bytes4 e.start ++ bytes4 e.length ++
    bytes1 (match e.kind with
      | .weld => 0
      | .joint => 1
      | .switch => 2
      | .crossing => 3
      | .other => 4) ++
    bytes1 (if e.rails = .left then 0 else if e.rails = .right then 1 else 2) ++ bytes1 (no e.blank) ++ [landmarkSpareByte e] := by
  rw [Landmark.bytes, yesNo_cast ht hf]
  cases e.kind <;> cases e.rails <;> rfl

theorem identity_layout (v p n : Nat) (x : SetupSource) (l : List (List Nat)) : (ReplyPayload.identity v p n x l).bytes =
    bytes2 v ++ bytes2 p ++ bytes1 n ++ bytes1 (if x = .stored then 0 else 1) ++ l.flatten.flatMap (fun k : Nat => bytes2 k) := by
  cases x <;> rfl

include ht hf in
theorem reporting_layout (x : ReportingSettings) : (ReplyPayload.reporting x).bytes =
    bytes2 x.highWater ++ bytes2 x.cap ++ bytes2 x.flushDelay ++ bytes2 x.statusInterval ++ bytes1 (no x.statusOnChange) ++
      bytes2 x.hitStream.left.toNat ++ bytes2 x.hitStream.right.toNat ++ bytes2 x.silenceLimit := by
  rw [← yesNo_cast ht hf]
  rfl

theorem travel_layout (x : TravelSettings) : (ReplyPayload.travel x).bytes =
    bytes1 (if x.sense = .normal then 0 else 1) ++ bytes4 x.scale ++ bytes4 x.pitch ++ bytes2 x.standstill := by
  have hsense : (x.sense.code : Int) = if x.sense = .normal then 0 else 1 := by cases x.sense <;> rfl
  rw [← hsense]
  rfl

theorem channel_layout {gate : GateFields → List Byte} (hgate : ∀ g, gate g = gateBytes g) (x : ChannelFields) (ka : Int) :
    (ReplyPayload.channel x ka).bytes =
      bytes1 x.lane ++ bytes2 x.listen ++ bytes4 x.offset ++ bytes2 x.kd ++ bytes4 x.angle ++ bytes2 x.zero ++
        bytes2 x.interfaceStart ++ bytes2 x.interfaceWidth ++ bytes2 x.interfaceLevel ++ bytes2 x.couplingLevel ++
        bytes2 x.failThreshold ++ bytes2 x.regainThreshold ++ bytes1 x.uncoupledMode ++ bytes4 x.spacing ++ bytes1 x.honour ++
        bytes4 x.closeDistance ++ bytes2 x.curve.length ++ x.curve.flatMap (fun p => bytes2 p.time ++ bytes2 p.level) ++
        gate x.gate1 ++ gate x.gate2 ++ gate x.gate3 ++ bytes4 ka := by
  rw [hgate, hgate, hgate]
  rfl

theorem plan_layout {plan : Plan → List Byte} (hplan : ∀ p, plan p = planBytes p) (a : Plan) (b : Option Plan) (i : Nat) (w : Bool) :
    (ReplyPayload.plan a b i w).bytes = plan a ++ bytes1 (yesNo b.isSome) ++ b.elim [] plan ++ bytes1 i ++
      bytes1 (if w then 1 else 0) := by
  rw [funext hplan]
  cases w <;> rfl

include ht hf in
theorem rail_layout (x : RailSettings) : (ReplyPayload.railRecord x).bytes =
    bytes2 x.recovery ++ bytes4 x.join ++ bytes4 x.settle ++ bytes1 (if x.defaultAction = .report then 0 else 1) ++
      bytes1 (no x.markerEnable) ++ bytes4 x.gunOffset ++ bytes4 x.merge ++ bytes2 x.spray := by
  have haction : (x.defaultAction.code : Int) = if x.defaultAction = .report then 0 else 1 := by cases x.defaultAction <;> rfl
  rw [← yesNo_cast ht hf, ← haction]
  rfl

include ht hf in
theorem signals_layout (x : SignalSettings) : (ReplyPayload.signals x).bytes =
    ([x.routes[0], x.routes[1], x.routes[2], x.routes[3]].flatMap (fun q =>
      bytes1 q.source.code ++ bytes1 (no q.invert) ++ bytes2 q.stretch)) ++ bytes2 x.speedLimit := by
  have hv : x.routes = #v[x.routes[0], x.routes[1], x.routes[2], x.routes[3]] :=
    vector_ext_fin fun i => by fin_cases i <;> rfl
  have hlist : x.routes.toList = [x.routes[0], x.routes[1], x.routes[2], x.routes[3]] := by
    conv => lhs; rw [hv]
    rfl
  rw [ReplyPayload.bytes, SignalSettings.bytes, hlist]
  simp only [yesNo_cast ht hf]

theorem verification_layout (r : Rail) (e : TestEcho) : (ReplyPayload.verification r e).bytes =
    bytes1 (if r = .left then 0 else 1) ++ bytes2 e.d1 ++ bytes2 e.a1 ++ bytes2 e.d2 ++ bytes2 e.a2 := by
  cases r <;> rfl

end Replies

theorem levels_layout (i c : Nat) (v : Vector Nat 3) : (ReplyPayload.levels i c v).bytes =
    bytes2 i ++ bytes2 c ++ bytes2 v[0] ++ bytes2 v[1] ++ bytes2 v[2] := by
  have hv : v = #v[v[0], v[1], v[2]] := vector_ext_fin fun i => by fin_cases i <;> rfl
  have hflaw : v.toList.flatMap (fun n : Nat => bytes2 n) = bytes2 v[0] ++ (bytes2 v[1] ++ bytes2 v[2]) := by
    conv => lhs; rw [hv]
    rfl
  rw [ReplyPayload.bytes, hflaw]
  simp only [List.append_assoc]

/-- The reply of READ_STATUS shows the STATUS record beyond its head. -/
theorem statusPayload_eq (x : StatusRecord) : (ReplyPayload.status x).bytes = (Record.status x).bytes.drop 4 := by
  unfold Record.bytes
  exact (List.drop_left' (by simp only [List.length_append, bytes1_length, bytes2_length])).symm

/-- Settles O47: what the transmitter sends, the CRC, and the bytes of every frame. -/
theorem theTransmitterSendsFrames : Obligations.TheTransmitterSendsFrames := by
  refine ⟨fun s => ⟨fun p rest hidle hreplies => ⟨congrArg Host.Outcome.next (sendReply_begins hidle hreplies), ?_⟩,
    fun hidle hreplies hready => ⟨_, openBundle_isFilled _ _ _, congrArg Host.Outcome.next (sendBundle_begins hidle hreplies hready)⟩,
    rfl, fun hbusy => ⟨?_, ?_⟩⟩, ⟨by decide +kernel, fun body h l ch cl hlen hcrc => frameBytes_eq hlen hcrc⟩,
    fun feed hfeed bs => crc16_feeds hfeed bs, fun v => ⟨rfl, ⟨_, _, rfl, bytes2_append v⟩, _, _, _, _, rfl, bytes4_append v⟩,
    ⟨recordBytes_length, bundle_body, reply_body, rfl, rfl, statusPayload_eq⟩, fun no gate plan ht hf hgate hplan => ?_,
    fun side one hl hr hf ht => ⟨hit_layout hl hr hf ht, captured_layout hl hr, cancelled_layout hl hr, finding_layout hl hr hf ht,
      untested_layout hl hr hf ht, fun x => ⟨_, mark_layout hl hr x⟩, setupResult_layout hf ht, status_layout hf ht⟩,
    fun side hl hr => ⟨Config.noAmplitudeWord.toNat, Config.noDepthWord.toNat, Config.noSignatureWord.toNat, hitBytes, rfl,
      fun h => rfl, calResult_layout hl hr, verifyResult_layout hl hr⟩⟩
  · exact congrArg Host.Outcome.next (sendBundle_idle fun h => by rw [hreplies] at h; cases h.2.1)
  · exact congrArg Host.Outcome.next (sendReply_idle fun h => hbusy h.1)
  · exact congrArg Host.Outcome.next (sendBundle_idle fun h => hbusy h.1)
  · have hgate' : ∀ g, gate g = gateBytes g := hgate
    have hplan' : ∀ p, plan p = planBytes p := hplan
    refine ⟨Landmark.bytes, fun e => ⟨landmarkSpareByte e, landmark_layout ht hf e⟩, fun d es => rfl, fun n es => rfl, fun n => rfl,
      fun d => rfl, identity_layout, reporting_layout ht hf, travel_layout, fun n k d => rfl, channel_layout hgate', fun a i w => ?_,
      fun a b i w => plan_layout hplan' a (some b) i w, rail_layout ht hf, levels_layout, fun d => rfl, rfl, fun p => rfl,
      signals_layout ht hf, rfl, verification_layout⟩
    have hnone := plan_layout hplan' a none i w
    rwa [Option.elim_none, List.append_nil] at hnone

end Sys2Proof.Machine
end

section
/-! PROOFS. A rail's data path as a value, and the moves that keep its drain notice in place and its findings apart (first part
of O59). -/

namespace Sys2Proof.Machine

/-! ### The path -/

/-- What the laws of a rail's data path read: the run controller's part for the rail, its firing unit, the inputs and tables of the
blocks behind it, and the join tolerance. -/
structure RailPath where
  runState : RunState
  notice : Bool
  drained : Bool
  held : Option PitchRequest
  flight : Option Flight
  echo : List EchoItem
  tracker : List TrackerItem
  traces : Vector (Option Trace) 32
  assembler : List AssemblerItem
  findings : Vector (Option Finding) 16
  join : Nat

def State.path (s : State) (r : Rail) : RailPath :=
  { runState := s.run.state, notice := s.run.drainNotices.get r, drained := s.run.drained.get r,
    held := (s.firing.get r).held, flight := (s.firing.get r).flight, echo := (s.echo.get r).inbox,
    tracker := (s.tracker.get r).inbox, traces := (s.tracker.get r).slots, assembler := (s.assembler.get r).inbox,
    findings := (s.assembler.get r).slots, join := (s.setup.rails.get r).join }

namespace RailPath

variable {v : RailPath} {p : DrainAt}

/-! ### Where the drain notice stands -/

def echoAt (v : RailPath) : DrainAt → Prop
  | .firing => EchoItem.drain ∉ v.echo
  | .echo => endsWith .drain v.echo
  | _ => v.echo = []

def trackerAt (v : RailPath) : DrainAt → Prop
  | .firing => TrackerItem.drain ∉ v.tracker
  | .echo => TrackerItem.drain ∉ v.tracker
  | .tracker => endsWith .drain v.tracker
  | _ => v.tracker = [] ∧ ∀ i : Fin 32, v.traces[i] = none

def assemblerAt (v : RailPath) : DrainAt → Prop
  | .firing => AssemblerItem.drain ∉ v.assembler
  | .echo => AssemblerItem.drain ∉ v.assembler
  | .tracker => AssemblerItem.drain ∉ v.assembler
  | .assembler => endsWith .drain v.assembler
  | _ => v.assembler = [] ∧ ∀ i : Fin 16, v.findings[i] = none

/-- The path while its drain notice stands there (`State.drainsAt`). -/
def standsAt (v : RailPath) (p : DrainAt) : Prop :=
  v.held = none ∧ (v.flight = none ↔ p ≠ .firing) ∧ v.echoAt p ∧ v.trackerAt p ∧ v.assemblerAt p ∧
    v.notice = decide (p = .controller) ∧ (v.runState = .draining → v.drained = decide (p = .drained))

/-- No drain notice stands on the path. -/
def quiet (v : RailPath) : Prop :=
  EchoItem.drain ∉ v.echo ∧ TrackerItem.drain ∉ v.tracker ∧ AssemblerItem.drain ∉ v.assembler ∧ v.notice = false

/-- The path against the run state (`State.drainLawful`). -/
def drains (v : RailPath) : Prop :=
  match v.runState with
  | .running => v.quiet
  | .draining => ∃ p, v.standsAt p
  | _ => v.standsAt .drained

/-- Two OPEN findings lie further apart than the join tolerance (`findingsApart`). -/
def apart (v : RailPath) : Prop :=
  ∀ (i j : Fin 16) (f g : Finding), i ≠ j → v.findings[i] = some f → v.findings[j] = some g →
    f.finish + v.join < g.start ∨ g.finish + v.join < f.start

/-- A run state in which nothing of a run is left on the path. -/
def idle (v : RailPath) : Prop := v.runState ≠ .running ∧ v.runState ≠ .draining

theorem drains_of_running (h : v.runState = .running) : v.drains ↔ v.quiet := by
  unfold drains
  rw [h]

theorem drains_of_draining (h : v.runState = .draining) : v.drains ↔ ∃ p, v.standsAt p := by
  unfold drains
  rw [h]

theorem drains_of_idle (h : v.idle) : v.drains ↔ v.standsAt .drained := by
  obtain ⟨hrunning, hdraining⟩ := h
  unfold drains
  cases hs : v.runState with
  | running => exact absurd hs hrunning
  | draining => exact absurd hs hdraining
  | stopped => rfl
  | calibrating => rfl
  | verifying => rfl

/-! ### Lists that end with a notice -/

theorem endsWith_append {α : Type} {x : α} {xs : List α} (h : x ∉ xs) : endsWith x (xs ++ [x]) := ⟨xs, rfl, h⟩

/-- What stands in front of the notice may be taken. -/
theorem endsWith_of_cons {α : Type} {x y : α} {rest : List α} (h : endsWith x (y :: rest)) (hy : y ≠ x) : endsWith x rest := by
  obtain ⟨before, hsplit, hnot⟩ := h
  cases before with
  | nil => exact absurd (List.cons.inj hsplit).1 hy
  | cons z zs => exact ⟨zs, (List.cons.inj hsplit).2, fun hm => hnot (List.mem_cons_of_mem z hm)⟩

/-- Behind the notice stands nothing. -/
theorem endsWith_self {α : Type} {x : α} {rest : List α} (h : endsWith x (x :: rest)) : rest = [] := by
  obtain ⟨before, hsplit, hnot⟩ := h
  cases before with
  | nil => exact (List.cons.inj hsplit).2
  | cons z zs => exact absurd ((List.cons.inj hsplit).1 ▸ List.mem_cons_self) hnot

theorem not_mem_append {α : Type} {x : α} {xs ys : List α} (hx : x ∉ xs) (hy : x ∉ ys) : x ∉ xs ++ ys :=
  fun h => (List.mem_append.mp h).elim hx hy

/-! ### Moves within one run state -/

/-- A move that keeps a quiet path quiet and takes the notice from each place to some place keeps the law. -/
theorem drains.move {w : RailPath} (h : v.drains) (hstate : w.runState = v.runState) (hquiet : v.quiet → w.quiet)
    (hplace : ∀ p, v.standsAt p → ∃ q, w.standsAt q ∧ (p = .drained → q = .drained)) : w.drains := by
  by_cases hr : v.runState = .running
  · exact (drains_of_running (hstate.trans hr)).mpr (hquiet ((drains_of_running hr).mp h))
  · by_cases hd : v.runState = .draining
    · obtain ⟨p, hp⟩ := (drains_of_draining hd).mp h
      obtain ⟨q, hq, -⟩ := hplace p hp
      exact (drains_of_draining (hstate.trans hd)).mpr ⟨q, hq⟩
    · obtain ⟨q, hq, hfixed⟩ := hplace .drained ((drains_of_idle ⟨hr, hd⟩).mp h)
      exact (drains_of_idle ⟨by rwa [hstate], by rwa [hstate]⟩).mpr (hfixed rfl ▸ hq)

/-- The echo processor takes an input that is not the notice. -/
theorem drains.echoTakes (h : v.drains) {x : EchoItem} {rest : List EchoItem} (hin : v.echo = x :: rest) (hx : x ≠ .drain)
    {xs : List TrackerItem} (hxs : TrackerItem.drain ∉ xs) :
    RailPath.drains { v with echo := rest, tracker := v.tracker ++ xs } := by
  refine h.move rfl (fun ⟨he, ht, hrest⟩ => ⟨?_, not_mem_append ht hxs, hrest⟩) fun p hp => ?_
  · rw [hin] at he
    exact fun hm => he (List.mem_cons_of_mem x hm)
  · obtain ⟨hheld, hflight, he, ht, hrest⟩ := hp
    cases p with
    | firing =>
      have he : EchoItem.drain ∉ v.echo := he
      rw [hin] at he
      exact ⟨.firing, ⟨hheld, hflight, fun hm => he (List.mem_cons_of_mem x hm), not_mem_append ht hxs, hrest⟩, nofun⟩
    | echo =>
      have he : endsWith .drain v.echo := he
      rw [hin] at he
      exact ⟨.echo, ⟨hheld, hflight, endsWith_of_cons he hx, not_mem_append ht hxs, hrest⟩, nofun⟩
    | _ => cases hin.symm.trans he

/-- The echo processor takes the notice and hands it on. -/
theorem drains.echoDrains (h : v.drains) {rest : List EchoItem} (hin : v.echo = .drain :: rest) :
    RailPath.drains { v with echo := rest, tracker := v.tracker ++ [.drain] } := by
  have hmem : EchoItem.drain ∈ v.echo := hin ▸ List.mem_cons_self
  refine h.move rfl (fun hq => absurd hmem hq.1) fun p hp => ?_
  obtain ⟨hheld, hflight, he, ht, ha, hn, hd⟩ := hp
  cases p with
  | firing => exact absurd hmem he
  | echo =>
    have he : endsWith .drain v.echo := he
    rw [hin] at he
    exact ⟨.tracker, ⟨hheld, ⟨nofun, fun _ => hflight.mpr nofun⟩, endsWith_self he, endsWith_append ht, ha, hn, hd⟩, nofun⟩
  | _ => cases hin.symm.trans he

/-- The tracker takes an input that is not the notice, and closes what it closes. -/
theorem drains.trackerTakes (h : v.drains) {x : TrackerItem} {rest : List TrackerItem} (hin : v.tracker = x :: rest)
    (hx : x ≠ .drain) (traces : Vector (Option Trace) 32) {xs : List AssemblerItem} (hxs : AssemblerItem.drain ∉ xs) :
    RailPath.drains { v with tracker := rest, traces := traces, assembler := v.assembler ++ xs } := by
  have htail : TrackerItem.drain ∉ v.tracker → TrackerItem.drain ∉ rest := fun ht hm =>
    ht (hin ▸ List.mem_cons_of_mem x hm)
  refine h.move rfl (fun ⟨he, ht, ha, hn⟩ => ⟨he, htail ht, not_mem_append ha hxs, hn⟩) fun p hp => ?_
  obtain ⟨hheld, hflight, he, ht, ha, hrest⟩ := hp
  cases p with
  | firing => exact ⟨.firing, ⟨hheld, hflight, he, htail ht, not_mem_append ha hxs, hrest⟩, nofun⟩
  | echo => exact ⟨.echo, ⟨hheld, hflight, he, htail ht, not_mem_append ha hxs, hrest⟩, nofun⟩
  | tracker =>
    have ht : endsWith .drain v.tracker := ht
    rw [hin] at ht
    exact ⟨.tracker, ⟨hheld, hflight, he, endsWith_of_cons ht hx, not_mem_append ha hxs, hrest⟩, nofun⟩
  | _ => cases hin.symm.trans ht.1

/-- The tracker takes the notice, closes every trace and hands the notice on. -/
theorem drains.trackerDrains (h : v.drains) {rest : List TrackerItem} (hin : v.tracker = .drain :: rest)
    {traces : Vector (Option Trace) 32} (hfree : ∀ i : Fin 32, traces[i] = none) {xs : List AssemblerItem}
    (hxs : AssemblerItem.drain ∉ xs) :
    RailPath.drains { v with tracker := rest, traces := traces, assembler := v.assembler ++ (xs ++ [.drain]) } := by
  have hmem : TrackerItem.drain ∈ v.tracker := hin ▸ List.mem_cons_self
  refine h.move rfl (fun hq => absurd hmem hq.2.1) fun p hp => ?_
  obtain ⟨hheld, hflight, he, ht, ha, hn, hd⟩ := hp
  cases p with
  | firing => exact absurd hmem ht
  | echo => exact absurd hmem ht
  | tracker =>
    have ht : endsWith .drain v.tracker := ht
    rw [hin] at ht
    have hends : endsWith .drain (v.assembler ++ (xs ++ [.drain])) := by
      rw [← List.append_assoc]
      exact endsWith_append (not_mem_append ha hxs)
    exact ⟨.assembler, ⟨hheld, ⟨nofun, fun _ => hflight.mpr nofun⟩, he, ⟨endsWith_self ht, hfree⟩, hends, hn, hd⟩, nofun⟩
  | _ => cases hin.symm.trans ht.1

/-- The assembler takes an input that is not the notice. -/
theorem drains.assemblerTakes (h : v.drains) {x : AssemblerItem} {rest : List AssemblerItem} (hin : v.assembler = x :: rest)
    (hx : x ≠ .drain) (findings : Vector (Option Finding) 16) :
    RailPath.drains { v with assembler := rest, findings := findings } := by
  have htail : AssemblerItem.drain ∉ v.assembler → AssemblerItem.drain ∉ rest := fun ha hm =>
    ha (hin ▸ List.mem_cons_of_mem x hm)
  refine h.move rfl (fun ⟨he, ht, ha, hn⟩ => ⟨he, ht, htail ha, hn⟩) fun p hp => ?_
  obtain ⟨hheld, hflight, he, ht, ha, hrest⟩ := hp
  cases p with
  | firing => exact ⟨.firing, ⟨hheld, hflight, he, ht, htail ha, hrest⟩, nofun⟩
  | echo => exact ⟨.echo, ⟨hheld, hflight, he, ht, htail ha, hrest⟩, nofun⟩
  | tracker => exact ⟨.tracker, ⟨hheld, hflight, he, ht, htail ha, hrest⟩, nofun⟩
  | assembler =>
    have ha : endsWith .drain v.assembler := ha
    rw [hin] at ha
    exact ⟨.assembler, ⟨hheld, hflight, he, ht, endsWith_of_cons ha hx, hrest⟩, nofun⟩
  | _ => cases hin.symm.trans ha.1

/-- The assembler takes the notice, closes every finding and tells the run controller. -/
theorem drains.assemblerDrains (h : v.drains) {rest : List AssemblerItem} (hin : v.assembler = .drain :: rest)
    {findings : Vector (Option Finding) 16} (hfree : ∀ i : Fin 16, findings[i] = none) :
    RailPath.drains { v with assembler := rest, findings := findings, notice := true } := by
  have hmem : AssemblerItem.drain ∈ v.assembler := hin ▸ List.mem_cons_self
  refine h.move rfl (fun hq => absurd hmem hq.2.2.1) fun p hp => ?_
  obtain ⟨hheld, hflight, he, ht, ha, hn, hd⟩ := hp
  cases p with
  | firing => exact absurd hmem ha
  | echo => exact absurd hmem ha
  | tracker => exact absurd hmem ha
  | assembler =>
    have ha : endsWith .drain v.assembler := ha
    rw [hin] at ha
    exact ⟨.controller, ⟨hheld, ⟨nofun, fun _ => hflight.mpr nofun⟩, he, ht, ⟨endsWith_self ha, hfree⟩, rfl, hd⟩, nofun⟩
  | _ => cases hin.symm.trans ha.1

/-! ### Moves of the firing unit and of the run -/

/-- In RUNNING the firing unit starts, holds and completes, and hands on what is not the notice. -/
theorem drains.fires (h : v.drains) (hrun : v.runState = .running) (held : Option PitchRequest) (flight : Option Flight)
    {xs : List EchoItem} (hxs : EchoItem.drain ∉ xs) :
    RailPath.drains { v with held := held, flight := flight, echo := v.echo ++ xs } := by
  obtain ⟨he, hrest⟩ := (drains_of_running hrun).mp h
  exact (drains_of_running (v := { v with held := held, flight := flight, echo := v.echo ++ xs }) hrun).mpr
    ⟨not_mem_append he hxs, hrest⟩

/-- In DRAINING the group in flight completes, and the notice follows its completion. -/
theorem drains.completes (h : v.drains) (hrun : v.runState = .draining) (hflight : v.flight ≠ none) {x : EchoItem}
    (hx : EchoItem.drain ≠ x) :
    RailPath.drains { v with held := none, flight := none, echo := v.echo ++ [x] ++ [.drain] } := by
  obtain ⟨p, hp⟩ := (drains_of_draining hrun).mp h
  obtain ⟨-, hplace, he, ht, ha, hn, hd⟩ := hp
  obtain rfl : p = .firing := by
    by_contra hp
    exact hflight (hplace.mpr hp)
  refine (drains_of_draining (by exact hrun)).mpr ⟨.echo, rfl, ⟨nofun, fun _ => rfl⟩, ?_, ht, ha, hn, hd⟩
  exact endsWith_append (not_mem_append he (by simpa using hx))

/-- RUN_STOP: DRAINING, the held request dropped, and the notice of an IDLE unit on its way. -/
theorem drains.stops (h : v.drains) (hrun : v.runState = .running) :
    RailPath.drains { v with
      runState := .draining, drained := false, held := none,
      echo := v.echo ++ if v.flight = none then [.drain] else [] } := by
  obtain ⟨he, ht, ha, hn⟩ := (drains_of_running hrun).mp h
  refine (drains_of_draining rfl).mpr ?_
  by_cases hf : v.flight = none
  · rw [if_pos hf]
    exact ⟨.echo, rfl, ⟨nofun, fun _ => hf⟩, endsWith_append he, ht, ha, hn, fun _ => rfl⟩
  · rw [if_neg hf, List.append_nil]
    exact ⟨.firing, rfl, ⟨fun h => absurd h hf, fun h => absurd rfl h⟩, he, ht, ha, hn, fun _ => rfl⟩

/-- A run starts on a path with nothing left on it. -/
theorem standsAt.starts (h : v.standsAt .drained) : RailPath.drains { v with runState := .running, held := none, flight := none } := by
  obtain ⟨-, -, he, ht, ha, hn, -⟩ := h
  have he : v.echo = [] := he
  have ht : v.tracker = [] := ht.1
  have ha : v.assembler = [] := ha.1
  refine (drains_of_running rfl).mpr ⟨?_, ?_, ?_, hn⟩
  · exact he ▸ List.not_mem_nil
  · exact ht ▸ List.not_mem_nil
  · exact ha ▸ List.not_mem_nil

/-- The run state becomes one in which no run is on. -/
theorem standsAt.rests (h : v.standsAt .drained) {st : RunState} (hr : st ≠ .running) (hd : st ≠ .draining) (drained : Bool) :
    RailPath.drains { v with runState := st, drained := drained } := by
  obtain ⟨hheld, hflight, he, ht, ha, hn, -⟩ := h
  exact (drains_of_idle ⟨hr, hd⟩).mpr ⟨hheld, hflight, he, ht, ha, hn, fun h => absurd h hd⟩

/-- The run controller takes the rail's notice. -/
theorem drains.taken (h : v.drains) (hrun : v.runState = .draining) (hnotice : v.notice = true) :
    RailPath.standsAt { v with notice := false, drained := true } .drained := by
  obtain ⟨p, hheld, hflight, he, ht, ha, hn, -⟩ := (drains_of_draining hrun).mp h
  obtain rfl : p = .controller := of_decide_eq_true (hn.symm.trans hnotice)
  exact ⟨hheld, ⟨nofun, fun _ => hflight.mpr nofun⟩, he, ht, ha, rfl, fun _ => rfl⟩

/-- A rail recorded as drained in DRAINING has nothing left on its path. -/
theorem drains.of_drained (h : v.drains) (hrun : v.runState = .draining) (hd : v.drained = true) : v.standsAt .drained := by
  obtain ⟨p, hp⟩ := (drains_of_draining hrun).mp h
  obtain rfl : p = .drained := of_decide_eq_true ((hp.2.2.2.2.2.2 hrun).symm.trans hd)
  exact hp

/-! ### Findings that lie apart -/

/-- Freeing slots keeps the findings apart. -/
theorem apart.of_subset {w : RailPath} (h : v.apart) (hjoin : w.join = v.join)
    (hsub : ∀ (i : Fin 16) f, w.findings[i] = some f → v.findings[i] = some f) : w.apart := by
  intro i j f g hij hf hg
  rw [hjoin]
  exact h i j f g hij (hsub i f hf) (hsub j g hg)

theorem apart_of_free (h : ∀ i : Fin 16, v.findings[i] = none) : v.apart := by
  intro i j f g _ hf
  cases (h i).symm.trans hf

/-- Where the notice has passed the assembler no finding is OPEN. -/
theorem standsAt.free (h : v.standsAt .drained) (i : Fin 16) : v.findings[i] = none := h.2.2.2.2.1.2 i

/-- A finding placed in a slot lies apart from the others where each of the others lies apart from it. -/
theorem apart.place (h : v.apart) {k : Fin 16} {f : Finding}
    (hf : ∀ (i : Fin 16) g, i ≠ k → v.findings[i] = some g → f.finish + v.join < g.start ∨ g.finish + v.join < f.start) :
    RailPath.apart { v with findings := setAt v.findings k (some f) } := by
  intro i j g g' hij hg hg'
  have hget : ∀ i : Fin 16, (setAt v.findings k (some f))[i] = if i = k then some f else v.findings[i] := fun i => setAt_get ..
  rw [hget] at hg hg'
  split at hg
  · next hi =>
    cases hg
    rw [if_neg (fun hj => hij (hi.trans hj.symm))] at hg'
    exact hf j g' (fun hj => hij (hi.trans hj.symm)) hg'
  · next hi =>
    split at hg'
    · cases hg'
      exact (hf i g hi hg).symm
    · exact h i j g g' hij hg hg'

/-- The law of a rail's data path. -/
def lawful (v : RailPath) : Prop := v.drains ∧ v.apart

end RailPath

end Sys2Proof.Machine
end

section
/-! PROOFS. What the shared operations do to a rail's data path (second part of O59). -/

namespace Sys2Proof.Machine

/-! ### The law of both rails -/

def State.pathsLawful (s : State) : Prop := ∀ q, (s.path q).lawful

theorem drainsAt_iff (s : State) (r : Rail) (p : DrainAt) : s.drainsAt r p ↔ (s.path r).standsAt p := by
  cases p <;> exact Iff.rfl

theorem drainLawful_iff (s : State) (r : Rail) : s.drainLawful r ↔ (s.path r).drains := by
  cases hs : s.run.state with
  | running =>
    rw [RailPath.drains_of_running hs, State.drainLawful, hs]
    exact Iff.rfl
  | draining =>
    rw [RailPath.drains_of_draining hs, State.drainLawful, hs]
    exact exists_congr (drainsAt_iff s r)
  | _ =>
    have hidle : (s.path r).idle := ⟨fun h => absurd (hs.symm.trans h) nofun, fun h => absurd (hs.symm.trans h) nofun⟩
    rw [RailPath.drains_of_idle hidle, State.drainLawful, hs]
    exact drainsAt_iff s r .drained

theorem findingsLawful_iff (s : State) : s.findingsLawful ↔ (s.run.lawful ∧ s.reflectorsLawful) ∧ s.pathsLawful := by
  have hpaths : s.pathsLawful ↔ (∀ r, s.drainLawful r) ∧ ∀ r, findingsApart (s.assembler.get r) (s.setup.rails.get r).join := by
    simp only [State.pathsLawful, RailPath.lawful, forall_and, drainLawful_iff]
    exact Iff.rfl
  rw [hpaths, State.findingsLawful, and_assoc]

theorem State.pathsLawful.of_path {s t : State} (h : s.pathsLawful) (hp : ∀ q, t.path q = s.path q) : t.pathsLawful :=
  fun q => (hp q).symm ▸ h q

/-- A step that works on one rail keeps the law where it keeps it there. -/
theorem State.pathsLawful.of_rail {s t : State} (h : s.pathsLawful) (r : Rail) (hr : (t.path r).lawful)
    (hother : ∀ q, q ≠ r → t.path q = s.path q) : t.pathsLawful := fun q => by
  by_cases hq : q = r
  · exact hq ▸ hr
  · exact hother q hq ▸ h q

/-! ### Parts a path reads -/

def RailPath.parts (r : Rail) : List Part := [.run, .setup, .firing r, .echo r, .tracker r, .assembler r]

theorem path_congr {s t : State} {q : Rail} (h : ∀ p ∈ RailPath.parts q, p.same s t) : t.path q = s.path q := by
  have hrun : t.run = s.run := h .run (by simp [RailPath.parts])
  have hsetup : t.setup = s.setup := h .setup (by simp [RailPath.parts])
  have hfiring : t.firing.get q = s.firing.get q := h (.firing q) (by simp [RailPath.parts])
  have hecho : t.echo.get q = s.echo.get q := h (.echo q) (by simp [RailPath.parts])
  have htracker : t.tracker.get q = s.tracker.get q := h (.tracker q) (by simp [RailPath.parts])
  have hassembler : t.assembler.get q = s.assembler.get q := h (.assembler q) (by simp [RailPath.parts])
  simp only [State.path, hrun, hsetup, hfiring, hecho, htracker, hassembler]

theorem path_of_touches {ps : List Part} {s t : State} (h : TouchesOnly ps s t) {q : Rail} (hp : ∀ p ∈ RailPath.parts q, p ∉ ps) :
    t.path q = s.path q :=
  path_congr fun p hq => h p (hp p hq)

theorem pathsLawful_dependsOn :
    dependsOn [.run, .setup, .firing .left, .firing .right, .echo .left, .echo .right, .tracker .left, .tracker .right,
      .assembler .left, .assembler .right] State.pathsLawful := fun s t hst h =>
  h.of_path fun q => path_congr fun p hp =>
    hst p ((show RailPath.parts q ⊆ _ by cases q <;> decide) hp)

/-! ### One rule per shared operation -/

@[simp] theorem path_setLine (s : State) (x : Line) (q : Rail) : (s.setLine x).path q = s.path q := rfl
@[simp] theorem path_setRouter (s : State) (x : Router) (q : Rail) : (s.setRouter x).path q = s.path q := rfl
@[simp] theorem path_setTravel (s : State) (x : Travel) (q : Rail) : (s.setTravel x).path q = s.path q := rfl
@[simp] theorem path_setLandmarks (s : State) (x : LandmarkList) (q : Rail) : (s.setLandmarks x).path q = s.path q := rfl
@[simp] theorem path_setMarking (s : State) (r : Rail) (x : MarkingUnit) (q : Rail) : (s.setMarking r x).path q = s.path q := rfl
@[simp] theorem path_advanceTo (s : State) (t : Nat) (q : Rail) : (s.advanceTo t).path q = s.path q := rfl
@[simp] theorem path_offer (s : State) (x : Record) (q : Rail) : (s.offer x).path q = s.path q := rfl
@[simp] theorem path_handChange (s : State) (x : Change) (q : Rail) : (s.handChange x).path q = s.path q := rfl
@[simp] theorem path_handLevel (s : State) (x : LevelHandover) (q : Rail) : (s.handLevel x).path q = s.path q := rfl
@[simp] theorem path_handPulse (s : State) (x : Pulse) (q : Rail) : (s.handPulse x).path q = s.path q := rfl
@[simp] theorem path_requestMark (s : State) (r : Rail) (x : MarkRequest) (q : Rail) : (s.requestMark r x).path q = s.path q := rfl
@[simp] theorem path_reply (s : State) (f : Frame) (c : ReplyCode) (i : Nat) (p : ReplyPayload) (q : Rail) :
    (s.reply f c i p).path q = s.path q := rfl

@[simp] theorem path_setSetup (s : State) (x : Setup) (q : Rail) :
    (s.setSetup x).path q = { s.path q with join := (x.rails.get q).join } := rfl

@[simp] theorem path_setRun (s : State) (x : RunControl) (q : Rail) :
    (s.setRun x).path q =
      { s.path q with runState := x.state, notice := x.drainNotices.get q, drained := x.drained.get q } := rfl

@[simp] theorem path_setRunState (s : State) (st : RunState) (q : Rail) :
    (s.setRunState st).path q = { s.path q with runState := st } := by
  unfold State.setRunState
  dsimp only
  split <;> rfl

theorem path_setFiring (s : State) (r : Rail) (x : FiringUnit) (q : Rail) :
    (s.setFiring r x).path q = if q = r then { s.path r with held := x.held, flight := x.flight } else s.path q := by
  cases q <;> cases r <;> rfl

theorem path_setEcho (s : State) (r : Rail) (x : EchoProcessor) (q : Rail) :
    (s.setEcho r x).path q = if q = r then { s.path r with echo := x.inbox } else s.path q := by
  cases q <;> cases r <;> rfl

theorem path_setTracker (s : State) (r : Rail) (x : Tracker) (q : Rail) :
    (s.setTracker r x).path q = if q = r then { s.path r with tracker := x.inbox, traces := x.slots } else s.path q := by
  cases q <;> cases r <;> rfl

theorem path_setAssembler (s : State) (r : Rail) (x : Assembler) (q : Rail) :
    (s.setAssembler r x).path q = if q = r then { s.path r with assembler := x.inbox, findings := x.slots } else s.path q := by
  cases q <;> cases r <;> rfl

/-- A firing unit replaced by one with the same flight and held request. -/
theorem path_setFiring_same {s : State} {r : Rail} {x : FiringUnit} (hheld : x.held = (s.firing.get r).held)
    (hflight : x.flight = (s.firing.get r).flight) (q : Rail) : (s.setFiring r x).path q = s.path q := by
  rw [path_setFiring, hheld, hflight]
  split
  · next h => subst h; rfl
  · rfl

/-- An echo processor replaced by one with the same inputs. -/
theorem path_setEcho_same {s : State} {r : Rail} {x : EchoProcessor} (h : x.inbox = (s.echo.get r).inbox) (q : Rail) :
    (s.setEcho r x).path q = s.path q := by
  rw [path_setEcho, h]
  split
  · next h => subst h; rfl
  · rfl

theorem path_toEcho (s : State) (r : Rail) (x : EchoItem) (q : Rail) :
    (s.toEcho r x).path q = if q = r then { s.path r with echo := (s.path r).echo ++ [x] } else s.path q :=
  path_setEcho s r _ q

theorem path_toTracker (s : State) (r : Rail) (x : TrackerItem) (q : Rail) :
    (s.toTracker r x).path q = if q = r then { s.path r with tracker := (s.path r).tracker ++ [x] } else s.path q :=
  path_setTracker s r _ q

theorem path_toAssembler (s : State) (r : Rail) (x : AssemblerItem) (q : Rail) :
    (s.toAssembler r x).path q = if q = r then { s.path r with assembler := (s.path r).assembler ++ [x] } else s.path q :=
  path_setAssembler s r _ q

@[simp] theorem path_setCover (s : State) (r : Rail) (ch : Channel) (c : Cover) (q : Rail) : (s.setCover r ch c).path q = s.path q := by
  unfold State.setCover
  dsimp only
  split <;> simp [path_setEcho_same]

@[simp] theorem path_setMotion (s : State) (m : Motion) (q : Rail) : (s.setMotion m).path q = s.path q := by
  unfold State.setMotion
  dsimp only
  split <;> rfl

@[simp] theorem path_setSilence (s : State) (b : Bool) (q : Rail) : (s.setSilence b).path q = s.path q := by
  unfold State.setSilence
  dsimp only
  split <;> rfl

/-- A row of steps that leave the path alone. -/
theorem path_foldl {α : Type} {f : State → α → State} {q : Rail} (h : ∀ s a, (f s a).path q = s.path q) (l : List α) (s : State) :
    (l.foldl f s).path q = s.path q := by
  induction l generalizing s with
  | nil => rfl
  | cons a rest ih => rw [List.foldl_cons, ih, h]

@[simp] theorem path_resetCoverage (s : State) (r q : Rail) : (s.resetCoverage r).path q = s.path q :=
  path_foldl (fun s ch => path_setCover s r ch _ q) _ s

@[simp] theorem path_cancelSnapshot (r : Rail) (s : State) (q : Rail) : (cancelSnapshot r s).path q = s.path q := by
  unfold cancelSnapshot
  split <;> simp [path_setEcho_same]

@[simp] theorem path_cutStretch (r : Rail) (s : State) (ch : Channel) (q : Rail) : (cutStretch r s ch).path q = s.path q := by
  unfold cutStretch
  dsimp only
  split <;> simp

@[simp] theorem path_leavePlan (r : Rail) (s : State) (ch : Channel) (q : Rail) : (leavePlan r s ch).path q = s.path q := by
  unfold leavePlan
  dsimp only
  split <;> simp

@[simp] theorem path_captureSnapshot (r : Rail) (pf : Int) (c : CompletedChannel) (i : Option Hit) (s : State) (q : Rail) :
    (captureSnapshot r pf c i s).path q = s.path q := by
  unfold captureSnapshot
  split <;> simp [path_setEcho_same]

@[simp] theorem path_coverChannel (r : Rail) (pf : Int) (c : CompletedChannel) (pass blanked : Bool) (s : State) (q : Rail) :
    (coverChannel r pf c pass blanked s).path q = s.path q := by
  unfold coverChannel
  dsimp only
  rw [path_foldl (fun s x => path_offer s x q), path_setCover]

/-- An operation firing concerns neither the group in flight nor the run's place. -/
@[simp] theorem path_startOperationFiring (r : Rail) (ch : Channel) (s : State) (q : Rail) :
    (startOperationFiring r ch s).path q = s.path q := by
  cases q <;> cases r <;> rfl

@[simp] theorem path_setMode (r : Rail) (m : TimeMode) (e : Option TestEcho) (s : State) (q : Rail) :
    (setMode r m e s).path q = s.path q := by
  cases q <;> cases r <;> rfl

@[simp] theorem path_endOperation (r : Rail) (s : State) (q : Rail) :
    (endOperation r s).path q = { s.path q with runState := .stopped } := by
  unfold endOperation
  dsimp only
  rw [path_setRunState]
  cases q <;> cases r <;> rfl

/-! ### What a tracker's steps do -/

/-- A step of a rail's tracker: traces moved, indications handed to the assembler, the rest of the path as it stands. -/
def RailPath.closes (v w : RailPath) : Prop :=
  ∃ traces xs, AssemblerItem.drain ∉ xs ∧ w = { v with traces := traces, assembler := v.assembler ++ xs }

theorem RailPath.closes_refl (v : RailPath) : v.closes v := ⟨v.traces, [], List.not_mem_nil, by rw [List.append_nil]⟩

theorem RailPath.closes.trans {u v w : RailPath} (h : u.closes v) (k : v.closes w) : u.closes w := by
  obtain ⟨_, xs, hxs, rfl⟩ := h
  obtain ⟨traces, ys, hys, rfl⟩ := k
  exact ⟨traces, xs ++ ys, RailPath.not_mem_append hxs hys, by rw [List.append_assoc]⟩

theorem RailPath.closes_foldl {α : Type} {f : State → α → State} {r : Rail} (h : ∀ (s : State) a, (s.path r).closes ((f s a).path r))
    (l : List α) (s : State) : (s.path r).closes ((l.foldl f s).path r) := by
  induction l generalizing s with
  | nil => exact RailPath.closes_refl _
  | cons a rest ih => exact (h s a).trans (ih _)

theorem closeTrace_closes (r : Rail) (which : Trace → Bool) (s : State) (i : Fin 32) :
    (s.path r).closes ((closeTrace r which s i).path r) := by
  unfold closeTrace
  dsimp only
  split
  · exact RailPath.closes_refl _
  · next t _ =>
    split
    · split
      · refine ⟨setAt (s.tracker.get r).slots i none, [.indication t.toIndication], by simp, ?_⟩
        rw [path_toAssembler, path_setTracker, if_pos rfl, if_pos rfl]
        rfl
      · exact ⟨_, [], List.not_mem_nil, by rw [path_setTracker, if_pos rfl, List.append_nil]; rfl⟩
    · exact RailPath.closes_refl _

theorem closeTraces_closes (r : Rail) (which : Trace → Bool) (s : State) : (s.path r).closes ((closeTraces r which s).path r) :=
  RailPath.closes_foldl (closeTrace_closes r which) _ s

theorem path_dropTracker {r : Rail} {s : State} {x : TrackerItem} {rest : List TrackerItem} (h : (s.path r).tracker = x :: rest) :
    (dropTracker r s).path r = { s.path r with tracker := rest } := by
  have h : (s.tracker.get r).inbox = x :: rest := h
  rw [dropTracker, path_setTracker, if_pos rfl, h]
  rfl

/-! ### What an echo processor's steps do -/

/-- A step of a rail's echo processor: inputs handed to the tracker, the rest of the path as it stands. -/
def RailPath.feeds (v w : RailPath) : Prop := ∃ xs, TrackerItem.drain ∉ xs ∧ w = { v with tracker := v.tracker ++ xs }

theorem RailPath.feeds_refl (v : RailPath) : v.feeds v := ⟨[], List.not_mem_nil, by rw [List.append_nil]⟩

theorem RailPath.feeds.trans {u v w : RailPath} (h : u.feeds v) (k : v.feeds w) : u.feeds w := by
  obtain ⟨xs, hxs, rfl⟩ := h
  obtain ⟨ys, hys, rfl⟩ := k
  exact ⟨xs ++ ys, RailPath.not_mem_append hxs hys, by rw [List.append_assoc]⟩

theorem RailPath.feeds_foldl {α : Type} {f : State → α → State} {r : Rail} (h : ∀ (s : State) a, (s.path r).feeds ((f s a).path r))
    (l : List α) (s : State) : (s.path r).feeds ((l.foldl f s).path r) := by
  induction l generalizing s with
  | nil => exact RailPath.feeds_refl _
  | cons a rest ih => exact (h s a).trans (ih _)

theorem toTracker_feeds (s : State) (r : Rail) {x : TrackerItem} (hx : TrackerItem.drain ≠ x) :
    (s.path r).feeds ((s.toTracker r x).path r) :=
  ⟨[x], by simpa using hx, by rw [path_toTracker, if_pos rfl]⟩

theorem sortHit_feeds (r : Rail) (pf : Int) (c : CompletedChannel) (fate : Option Bool) (res : GateResult) (s : State) (g : Gate) :
    (s.path r).feeds ((sortHit r pf c fate res s g).path r) := by
  unfold sortHit
  split
  · exact toTracker_feeds (s.offer _) r nofun
  · exact RailPath.feeds_refl _

theorem processChannel_feeds (r : Rail) (pf : Int) (s : State) (c : CompletedChannel) :
    (s.path r).feeds ((processChannel r pf s c).path r) := by
  have hsorted := fun fate t => RailPath.feeds_foldl (r := r) (sortHit_feeds r pf c fate (gateResult c.record c.samples)) (List.finRange 3) t
  unfold processChannel
  dsimp only
  refine RailPath.feeds.trans ?_ (toTracker_feeds _ r nofun)
  refine RailPath.feeds.trans ?_ (hsorted _ _)
  rw [path_coverChannel, path_captureSnapshot]
  exact RailPath.feeds_refl _

theorem path_dropEcho {r : Rail} {s : State} {x : EchoItem} {rest : List EchoItem} (h : (s.path r).echo = x :: rest) :
    (dropEcho r s).path r = { s.path r with echo := rest } := by
  have h : (s.echo.get r).inbox = x :: rest := h
  rw [dropEcho, path_setEcho, if_pos rfl, h]
  rfl

/-- The input whose turn it is stands first. -/
theorem echo_of_turn {r : Rail} {s : State} {x : EchoItem} (h : s.echoTurn r = some x) : ∃ rest, (s.path r).echo = x :: rest := by
  unfold State.echoTurn at h
  split at h
  · cases h
  · exact ⟨_, (List.head?_eq_some_iff.mp h).choose_spec⟩

/-! ### What closing findings does -/

theorem path_closeFinding (r : Rail) (how : ClosedBy) (s : State) (x : Fin 16 × Finding) (q : Rail) :
    (closeFinding r how s x).path q =
      if q = r then { s.path r with findings := setAt (s.path r).findings x.1 none } else s.path q := by
  have hclassify : ∀ q, (classify r x.2 s).1.path q = s.path q := fun q =>
    path_of_touches (touches_classify r x.2 s) (by simp [RailPath.parts])
  unfold closeFinding
  generalize classify r x.2 s = c at hclassify
  obtain ⟨t, v⟩ := c
  have hassembler : (t.path r) = s.path r := hclassify r
  dsimp only
  split
  · next action hv =>
    have hreport : ∀ q, (reportFinding r how x.2 v action t).path q = s.path q := fun q => by
      unfold reportFinding
      dsimp only
      rw [← hclassify q]
      split <;> cases q <;> cases r <;> rfl
    have hr := hreport r
    rw [path_setAssembler, ← hr, hreport q]
    rfl
  · have hq : ∀ q, (t.setRun { t.run with suppressed := raiseCounter t.run.suppressed }).path q = s.path q := fun q =>
      (show _ = t.path q from rfl).trans (hclassify q)
    have hr := hq r
    rw [path_setAssembler, ← hr, hq q]
    rfl

theorem path_closeEach (r : Rail) (how : ClosedBy) (xs : List (Fin 16 × Finding)) (s : State) (q : Rail) :
    (xs.foldl (closeFinding r how) s).path q =
      if q = r then { s.path r with findings := xs.foldl (fun v x => setAt v x.1 none) (s.path r).findings } else s.path q := by
  induction xs generalizing s with
  | nil =>
    split
    · next h => subst h; rfl
    · rfl
  | cons x rest ih =>
    rw [List.foldl_cons, ih]
    split
    · rw [path_closeFinding, if_pos rfl]
      rfl
    · next h => rw [path_closeFinding, if_neg h]

theorem path_dropAssembler {r : Rail} {s : State} {x : AssemblerItem} {rest : List AssemblerItem}
    (h : (s.path r).assembler = x :: rest) : (dropAssembler r s).path r = { s.path r with assembler := rest } := by
  have h : (s.assembler.get r).inbox = x :: rest := h
  rw [dropAssembler, path_setAssembler, if_pos rfl, h]
  rfl

end Sys2Proof.Machine
end

section
/-! PROOFS. The inputs of the echo processors, trackers and assemblers keep the law of the data paths (third part of O59). -/

namespace Sys2Proof.Machine

/-! ### Echo processors -/

/-- An echo processor has taken an input that is not the drain notice and fed its tracker. -/
theorem RailPath.lawful.fed {v w : RailPath} (h : v.lawful) {x : EchoItem} {rest : List EchoItem} (hin : v.echo = x :: rest)
    (hx : x ≠ .drain) (hf : RailPath.feeds { v with echo := rest } w) : w.lawful := by
  obtain ⟨xs, hxs, rfl⟩ := hf
  exact ⟨h.1.echoTakes hin hx hxs, h.2⟩

theorem State.pathsLawful.completionProcessing {s : State} (h : s.pathsLawful) (r : Rail) :
    (completionProcessing r s).pathsLawful := by
  refine h.of_rail r ?_ fun q hq => path_of_touches (touches_completionProcessing r s) (by simp [RailPath.parts, Part.processing, hq])
  unfold Machine.completionProcessing
  split
  · next pf g cs hturn =>
    obtain ⟨rest, hin⟩ := echo_of_turn hturn
    refine (h r).fed hin nofun ?_
    rw [← path_dropEcho hin]
    exact (RailPath.feeds_foldl (processChannel_feeds r pf) _ _).trans (toTracker_feeds _ r nofun)
  · exact h r

theorem State.pathsLawful.commitHandover {s : State} (h : s.pathsLawful) (r : Rail) : (commitHandover r s).pathsLawful := by
  refine h.of_rail r ?_ fun q hq => path_of_touches (touches_commitHandover r s) (by simp [RailPath.parts, Part.processing, hq])
  unfold Machine.commitHandover
  split
  · next leaving joining hturn =>
    obtain ⟨rest, hin⟩ := echo_of_turn hturn
    refine (h r).fed hin nofun ?_
    rw [path_foldl (f := joinPlan r) (fun s ch => path_setCover s r ch _ r),
      path_foldl (fun s ch => path_leavePlan r s ch r), ← path_dropEcho hin]
    exact toTracker_feeds _ r nofun
  · exact h r

theorem State.pathsLawful.echoFlushNotice {s : State} (h : s.pathsLawful) (r : Rail) : (echoFlushNotice r s).pathsLawful := by
  refine h.of_rail r ?_ fun q hq => path_of_touches (touches_echoFlushNotice r s) (by simp [RailPath.parts, hq])
  unfold Machine.echoFlushNotice
  split
  · next hturn =>
    obtain ⟨rest, hin⟩ := echo_of_turn hturn
    refine (h r).fed hin nofun ?_
    rw [← path_dropEcho hin]
    exact toTracker_feeds _ r nofun
  · exact h r

theorem State.pathsLawful.echoDrainNotice {s : State} (h : s.pathsLawful) (r : Rail) : (echoDrainNotice r s).pathsLawful := by
  refine h.of_rail r ?_ fun q hq => path_of_touches (touches_echoDrainNotice r s) (by simp [RailPath.parts, hq])
  unfold Machine.echoDrainNotice
  split
  · next hturn =>
    obtain ⟨rest, hin⟩ := echo_of_turn hturn
    rw [path_toTracker, if_pos rfl, path_foldl (fun s ch => path_cutStretch r s ch r), path_dropEcho hin]
    exact ⟨(h r).1.echoDrains hin, (h r).2⟩
  · exact h r

/-! ### Trackers -/

/-- A tracker has taken an input that is not the drain notice and closed some traces. -/
theorem RailPath.lawful.closed {v w : RailPath} (h : v.lawful) {x : TrackerItem} {rest : List TrackerItem} (hin : v.tracker = x :: rest)
    (hx : x ≠ .drain) (hc : RailPath.closes { v with tracker := rest } w) : w.lawful := by
  obtain ⟨traces, xs, hxs, rfl⟩ := hc
  exact ⟨h.1.trackerTakes hin hx traces hxs, h.2⟩

theorem toAssembler_closes (s : State) (r : Rail) {x : AssemblerItem} (hx : AssemblerItem.drain ≠ x) :
    (s.path r).closes ((s.toAssembler r x).path r) :=
  ⟨_, [x], by simpa using hx, by rw [path_toAssembler, if_pos rfl]⟩

theorem tracker_of_head {r : Rail} {s : State} {x : TrackerItem} (h : (s.tracker.get r).inbox.head? = some x) :
    ∃ rest, (s.path r).tracker = x :: rest :=
  ⟨_, (List.head?_eq_some_iff.mp h).choose_spec⟩

theorem State.pathsLawful.trackerHit {s : State} (h : s.pathsLawful) (r : Rail) : (trackerHit r s).pathsLawful := by
  refine h.of_rail r ?_ fun q hq => path_of_touches (touches_trackerHit r s) (by simp [RailPath.parts, hq])
  unfold Machine.trackerHit
  split
  · next k hhead =>
    split
    · exact h r
    · obtain ⟨rest, hin⟩ := tracker_of_head hhead
      refine (h r).closed hin nofun ?_
      dsimp only
      generalize hu : ((dropTracker r s).tracker.get r).take k _ _ = u
      have hinbox : u.inbox = (((dropTracker r s).path r)).tracker := by
        rw [← hu, Tracker.take]
        split
        · rfl
        · split <;> rfl
      refine ⟨u.slots, [], List.not_mem_nil, ?_⟩
      rw [path_setTracker, if_pos rfl, hinbox, path_dropTracker hin, List.append_nil]
  · exact h r

theorem State.pathsLawful.channelEndNotice {s : State} (h : s.pathsLawful) (r : Rail) : (channelEndNotice r s).pathsLawful := by
  refine h.of_rail r ?_ fun q hq => path_of_touches (touches_channelEndNotice r s) (by simp [RailPath.parts, hq])
  unfold Machine.channelEndNotice
  split
  · next hhead =>
    obtain ⟨rest, hin⟩ := tracker_of_head hhead
    refine (h r).closed hin nofun ?_
    rw [← path_dropTracker hin]
    exact closeTraces_closes r _ _
  · exact h r

theorem State.pathsLawful.trackerCompletionNotice {s : State} (h : s.pathsLawful) (r : Rail) :
    (trackerCompletionNotice r s).pathsLawful := by
  refine h.of_rail r ?_ fun q hq => path_of_touches (touches_trackerCompletionNotice r s) (by simp [RailPath.parts, hq])
  unfold Machine.trackerCompletionNotice
  split
  · next hhead =>
    obtain ⟨rest, hin⟩ := tracker_of_head hhead
    refine (h r).closed hin nofun ?_
    rw [← path_dropTracker hin]
    exact toAssembler_closes _ r nofun
  · exact h r

theorem State.pathsLawful.trackerCommitLeaving {s : State} (h : s.pathsLawful) (r : Rail) :
    (trackerCommitLeaving r s).pathsLawful := by
  refine h.of_rail r ?_ fun q hq => path_of_touches (touches_trackerCommitLeaving r s) (by simp [RailPath.parts, hq])
  unfold Machine.trackerCommitLeaving
  split
  · next hhead =>
    obtain ⟨rest, hin⟩ := tracker_of_head hhead
    refine (h r).closed hin nofun ?_
    rw [← path_dropTracker hin]
    exact RailPath.closes_foldl (fun s ch => closeTraces_closes r _ s) _ _
  · exact h r

theorem State.pathsLawful.trackerFlushNotice {s : State} (h : s.pathsLawful) (r : Rail) : (trackerFlushNotice r s).pathsLawful := by
  refine h.of_rail r ?_ fun q hq => path_of_touches (touches_trackerFlushNotice r s) (by simp [RailPath.parts, hq])
  unfold Machine.trackerFlushNotice
  split
  · next hhead =>
    obtain ⟨rest, hin⟩ := tracker_of_head hhead
    refine (h r).closed hin nofun ?_
    rw [← path_dropTracker hin]
    exact (closeTraces_closes r _ _).trans (toAssembler_closes _ r nofun)
  · exact h r

theorem path_closing (s : State) (r : Rail) (slots : Vector (Option Trace) 32) (n : Nat) (xs : List AssemblerItem) :
    (s.closing r slots n xs).path r = { s.path r with traces := slots, assembler := (s.path r).assembler ++ xs } := by
  cases r <;> rfl

/-- Closing every trace leaves every slot FREE and hands indications alone to the assembler. -/
theorem path_closeAll {r : Rail} {s : State} (hn : (s.tracker.get r).noise ≤ 65535) :
    ∃ traces xs, (∀ i : Fin 32, traces[i] = none) ∧ AssemblerItem.drain ∉ xs ∧
      (closeTraces r (fun _ => true) s).path r = { s.path r with traces := traces, assembler := (s.path r).assembler ++ xs } := by
  refine ⟨Vector.ofFn fun i => if (s.tracker.get r).slots[i].any (fun _ => true) = true then none else (s.tracker.get r).slots[i],
    s.indicationsOf r (tracesOf (s.tracker.get r).slots fun _ => true), fun i => ?_, by simp [State.indicationsOf], ?_⟩
  · simp only [Fin.getElem_fin, Vector.getElem_ofFn]
    cases (s.tracker.get r).slots[i.val] <;> rfl
  · rw [closeTraces_closing r _ s hn, path_closing]

theorem State.pathsLawful.trackerDrainNotice {s : State} (h : s.pathsLawful) (hs : s.reflectorsLawful) (r : Rail) :
    (trackerDrainNotice r s).pathsLawful := by
  refine h.of_rail r ?_ fun q hq => path_of_touches (touches_trackerDrainNotice r s) (by simp [RailPath.parts, hq])
  unfold Machine.trackerDrainNotice
  split
  · next hhead =>
    obtain ⟨rest, hin⟩ := tracker_of_head hhead
    obtain ⟨traces, xs, hfree, hxs, hpath⟩ := path_closeAll ((hs.dropTracker r).tracker r).2.2
    rw [path_toAssembler, if_pos rfl, hpath, path_dropTracker hin]
    dsimp only
    rw [List.append_assoc]
    exact ⟨(h r).1.trackerDrains hin hfree hxs, (h r).2⟩
  · exact h r

/-! ### Finding assemblers -/

theorem assembler_of_head {r : Rail} {s : State} {x : AssemblerItem} (h : (s.assembler.get r).inbox.head? = some x) :
    ∃ rest, (s.path r).assembler = x :: rest :=
  ⟨_, (List.head?_eq_some_iff.mp h).choose_spec⟩

theorem path_closeFindings (r : Rail) (how : ClosedBy) (which : Finding → Bool) (s : State) (q : Rail) :
    (closeFindings r how which s).path q = if q = r then
      { s.path r with
        findings := ((s.assembler.get r).inOrder.filter (fun x => which x.2)).foldl (fun v x => setAt v x.1 none) (s.path r).findings }
      else s.path q :=
  path_closeEach r how _ s q

/-- What remains of a table after slots have been freed stood in it before. -/
theorem foldl_free_subset (xs : List (Fin 16 × Finding)) (v : Vector (Option Finding) 16) (i : Fin 16) (f : Finding)
    (h : (xs.foldl (fun v x => setAt v x.1 none) v)[i] = some f) : v[i] = some f := by
  rw [foldl_free] at h
  split at h
  · cases h
  · exact h

/-- An input at which findings are closed keeps the law. -/
theorem State.pathsLawful.closing {s : State} (h : s.pathsLawful) {r : Rail} (how : ClosedBy) (which : Finding → Bool)
    {x : AssemblerItem} {rest : List AssemblerItem} (hin : (s.path r).assembler = x :: rest) (hx : x ≠ .drain) :
    (closeFindings r how which (dropAssembler r s)).pathsLawful := by
  refine h.of_rail r ?_ fun q hq => ?_
  · rw [path_closeFindings, if_pos rfl, path_dropAssembler hin]
    exact ⟨(h r).1.assemblerTakes hin hx _, (h r).2.of_subset rfl (foldl_free_subset _ _)⟩
  · rw [path_closeFindings, if_neg hq, dropAssembler, path_setAssembler, if_neg hq]

theorem State.pathsLawful.settleCheck {s : State} (h : s.pathsLawful) (r : Rail) : (settleCheck r s).pathsLawful := by
  unfold Machine.settleCheck
  split
  · next hhead =>
    obtain ⟨rest, hin⟩ := assembler_of_head hhead
    exact h.closing _ _ hin nofun
  · exact h

theorem State.pathsLawful.assemblerFlushNotice {s : State} (h : s.pathsLawful) (r : Rail) :
    (assemblerFlushNotice r s).pathsLawful := by
  unfold Machine.assemblerFlushNotice
  split
  · next hhead =>
    obtain ⟨rest, hin⟩ := assembler_of_head hhead
    exact h.closing _ _ hin nofun
  · exact h

/-- Every OPEN finding closed: every slot is FREE. -/
theorem foldl_free_all (a : Assembler) (i : Fin 16) :
    ((a.inOrder.filter (fun _ => true)).foldl (fun v x => setAt v x.1 none) a.slots)[i] = none := by
  rw [foldl_free]
  split
  · rfl
  · next h =>
    cases hf : a.slots[i] with
    | none => rfl
    | some f => exact absurd (List.any_eq_true.mpr ⟨(i, f), by simpa using mem_inOrder.mpr hf, by simp⟩) h

theorem State.pathsLawful.assemblerDrainNotice {s : State} (h : s.pathsLawful) (r : Rail) :
    (assemblerDrainNotice r s).pathsLawful := by
  unfold Machine.assemblerDrainNotice
  split
  · next hhead =>
    obtain ⟨rest, hin⟩ := assembler_of_head hhead
    dsimp only
    have hpath := path_closeFindings r .drain (fun _ => true) (dropAssembler r s)
    generalize closeFindings r .drain (fun _ => true) (dropAssembler r s) = t at hpath
    have hfree : ∀ i : Fin 16, (((((dropAssembler r s).assembler.get r).inOrder.filter (fun _ => true)).foldl
        (fun v x => setAt v x.1 none) ((dropAssembler r s).path r).findings))[i] = none :=
      foldl_free_all ((dropAssembler r s).assembler.get r)
    refine h.of_rail r ?_ fun q hq => ?_
    · have ht := hpath r
      generalize (((dropAssembler r s).assembler.get r).inOrder.filter (fun _ => true)).foldl
        (fun v x => setAt v x.1 none) ((dropAssembler r s).path r).findings = findings at ht hfree
      rw [if_pos rfl, path_dropAssembler hin] at ht
      have hgoal : (t.setRun { t.run with drainNotices := t.run.drainNotices.set r true }).path r = { t.path r with notice := true } := by
        cases r <;> rfl
      rw [hgoal, ht]
      exact ⟨(h r).1.assemblerDrains hin hfree, RailPath.apart_of_free hfree⟩
    · have hgoal : (t.setRun { t.run with drainNotices := t.run.drainNotices.set r true }).path q = t.path q := by
        rw [path_setRun]
        dsimp only
        rw [Rails.get_set_other _ hq]
        rfl
      rw [hgoal, hpath q, if_neg hq, dropAssembler, path_setAssembler, if_neg hq]
  · exact h

end Sys2Proof.Machine
end

section
/-! PROOFS. An indication keeps the findings apart (fourth part of O59). -/

namespace Sys2Proof.Machine

/-! ### The span of a merged finding -/

theorem add_span (f : Finding) (i : Contribution) :
    (f.add i).start = min f.start i.minPr ∧ (f.add i).finish = max f.finish i.maxPr := by
  obtain ⟨hstart, hfinish, -⟩ := Finding.place_span
    { f with
      start := min f.start i.minPr, finish := max f.finish i.maxPr, depthMin := min f.depthMin i.minD
      depthMax := max f.depthMax i.maxD, uncoupled := f.uncoupled || i.uncoupled } i
  exact ⟨hstart, hfinish⟩

theorem takeIn_span (f g : Finding) : (f.takeIn g).start = min f.start g.start ∧ (f.takeIn g).finish = max f.finish g.finish := by
  unfold Finding.takeIn
  rw [(foldl_place_span _ _).1, (foldl_place_span _ _).2.1]
  exact ⟨rfl, rfl⟩

/-- A merged finding starts behind what all its parts start behind. -/
theorem lt_start_merged {b : Int} {f : Finding} {others : List (Fin 16 × Finding)} (hf : b < f.start)
    (hothers : ∀ x ∈ others, b < x.2.start) : b < (others.foldl (fun f x => f.takeIn x.2) f).start := by
  induction others generalizing f with
  | nil => exact hf
  | cons x rest ih =>
    refine ih ?_ fun y hy => hothers y (List.mem_cons_of_mem x hy)
    rw [(takeIn_span f x.2).1]
    exact lt_min hf (hothers x List.mem_cons_self)

/-- A merged finding ends before what all its parts end before. -/
theorem finish_merged_lt {b : Int} {f : Finding} {others : List (Fin 16 × Finding)} (hf : f.finish < b)
    (hothers : ∀ x ∈ others, x.2.finish < b) : (others.foldl (fun f x => f.takeIn x.2) f).finish < b := by
  induction others generalizing f with
  | nil => exact hf
  | cons x rest ih =>
    refine ih ?_ fun y hy => hothers y (List.mem_cons_of_mem x hy)
    rw [(takeIn_span f x.2).2]
    exact max_lt hf (hothers x List.mem_cons_self)

theorem overlaps_gap {f : Finding} {i : Contribution} {join : Nat} :
    f.overlaps i join = true ↔ f.start - join ≤ i.maxPr ∧ i.minPr ≤ f.finish + join := by
  simp [Finding.overlaps]

/-- A finding that an indication does not overlap lies apart from the merger of those it overlaps: on the side on which it lies of
the indication it lies of each of them. -/
theorem merged_apart {i : Contribution} {join : Nat} {g f : Finding} {others : List (Fin 16 × Finding)}
    (hg : g.start ≤ g.finish) (hno : ¬ g.overlaps i join = true)
    (hf : f.overlaps i join = true ∧ (f.finish + join < g.start ∨ g.finish + join < f.start))
    (hothers : ∀ x ∈ others, x.2.overlaps i join = true ∧ (x.2.finish + join < g.start ∨ g.finish + join < x.2.start)) :
    ((others.foldl (fun f x => f.takeIn x.2) f).add i).finish + join < g.start ∨
      g.finish + join < ((others.foldl (fun f x => f.takeIn x.2) f).add i).start := by
  rw [overlaps_gap, not_and_or, not_le, not_le] at hno
  rcases hno with hbefore | hbehind
  · have hside : ∀ x : Finding, x.overlaps i join = true ∧ (x.finish + join < g.start ∨ g.finish + join < x.start) →
        x.finish < g.start - join := fun x ⟨hx, hapart⟩ => by
      have hgap := (overlaps_gap.mp hx).1
      omega
    have hmerged := finish_merged_lt (hside f hf) fun x hx => hside x.2 (hothers x hx)
    rw [(add_span _ i).2]
    exact .inl (by omega)
  · have hside : ∀ x : Finding, x.overlaps i join = true ∧ (x.finish + join < g.start ∨ g.finish + join < x.start) →
        g.finish + join < x.start := fun x ⟨hx, hapart⟩ => by
      have hgap := (overlaps_gap.mp hx).2
      omega
    have hmerged := lt_start_merged (hside f hf) fun x hx => hside x.2 (hothers x hx)
    rw [(add_span _ i).1]
    exact .inr (by omega)

/-! ### An indication taken -/

section
variable {s : State} {r : Rail} {i : Contribution}

/-- A finding that opens where the indication overlaps none lies apart from all. -/
theorem opened_apart (hno : ∀ (j : Fin 16) g, (s.path r).findings[j] = some g → ¬ g.overlaps i (s.path r).join = true)
    {j : Fin 16} {g : Finding} (hg : (s.path r).findings[j] = some g) :
    (Finding.openWith i).finish + (s.path r).join < g.start ∨ g.finish + (s.path r).join < (Finding.openWith i).start := by
  have h := hno j g hg
  rw [overlaps_gap, not_and_or, not_le, not_le] at h
  show i.maxPr + _ < g.start ∨ g.finish + _ < i.minPr
  omega

theorem path_setSlot (s : State) (r : Rail) (k : Fin 16) (f : Option Finding) (q : Rail) :
    (s.setSlot r k f).path q = if q = r then { s.path r with findings := setAt (s.path r).findings k f } else s.path q :=
  path_setAssembler s r _ q

theorem openFinding_apart (hapart : (s.path r).apart)
    (hno : ∀ (j : Fin 16) g, (s.path r).findings[j] = some g → ¬ g.overlaps i (s.path r).join = true) :
    (∃ w, (openFinding r i s).path r = { s.path r with findings := w } ∧ ((openFinding r i s).path r).apart) ∧
      ∀ q, q ≠ r → (openFinding r i s).path q = s.path q := by
  unfold openFinding
  split
  · next k _ =>
    rw [path_setSlot, if_pos rfl]
    exact ⟨⟨_, rfl, hapart.place fun j g _ hg => opened_apart hno hg⟩, fun q hq => by rw [path_setSlot, if_neg hq]⟩
  · split
    · next x _ =>
      rw [path_setSlot, if_pos rfl, path_closeFinding, if_pos rfl]
      have hfreed : ∀ (j : Fin 16) g, (setAt (s.path r).findings x.1 none)[j] = some g → (s.path r).findings[j] = some g :=
        foldl_free_subset [x] (s.path r).findings
      have hclosed : RailPath.apart { s.path r with findings := setAt (s.path r).findings x.1 none } := hapart.of_subset rfl hfreed
      refine ⟨⟨_, rfl, hclosed.place fun j g _ hg => opened_apart hno (hfreed j g hg)⟩, fun q hq => ?_⟩
      rw [path_setSlot, if_neg hq, path_closeFinding, if_neg hq]
    · exact ⟨⟨_, rfl, hapart⟩, fun _ _ => rfl⟩

/-- An indication moves the findings of its rail alone, and they still lie apart (R128 to R131). -/
theorem joinIndication_apart (hapart : (s.path r).apart)
    (hlawful : ∀ (j : Fin 16) g, (s.path r).findings[j] = some g → g.start ≤ g.finish) :
    (∃ w, (joinIndication r i s).path r = { s.path r with findings := w } ∧ ((joinIndication r i s).path r).apart) ∧
      ∀ q, q ≠ r → (joinIndication r i s).path q = s.path q := by
  have hmem : ∀ (j : Fin 16) g, (s.path r).findings[j] = some g ↔ (j, g) ∈ (s.assembler.get r).inOrder := fun j g =>
    mem_inOrder.symm
  cases hpicked : (s.assembler.get r).inOrder.filter (fun x => x.2.overlaps i (s.setup.rails.get r).join) with
  | nil =>
    rw [joinIndication_opens hpicked]
    refine openFinding_apart hapart fun j g hg hover => ?_
    exact List.filter_eq_nil_iff.mp hpicked (j, g) ((hmem j g).mp hg) hover
  | cons x others =>
    obtain ⟨k, f⟩ := x
    have hoverlapped : ∀ y ∈ (k, f) :: others, (s.path r).findings[y.1] = some y.2 ∧ y.2.overlaps i (s.path r).join = true :=
      fun y hy => by
        rw [← hpicked] at hy
        obtain ⟨hin, hover⟩ := List.mem_filter.mp hy
        exact ⟨(hmem y.1 y.2).mpr hin, hover⟩
    rw [joinIndication_merges hpicked, path_setAssembler, if_pos rfl]
    refine ⟨⟨_, rfl, ?_⟩, fun q hq => by rw [path_setAssembler, if_neg hq]⟩
    have hfreed : RailPath.apart
        { s.path r with findings := others.foldl (fun v x => setAt v x.1 none) (s.path r).findings } :=
      hapart.of_subset rfl (foldl_free_subset others _)
    refine hfreed.place fun j g hjk hg => ?_
    have hg' := foldl_free_subset others _ j g hg
    have hnot : ∀ y ∈ (k, f) :: others, y.1 ≠ j := fun y hy he => by
      rcases List.mem_cons.mp hy with rfl | hy
      · exact hjk he.symm
      · have hfree : (others.foldl (fun v x => setAt v x.1 none) (s.path r).findings)[j] = none := by
          rw [foldl_free, if_pos (List.any_eq_true.mpr ⟨y, hy, by simpa using he⟩)]
        cases hfree.symm.trans hg
    have hfrom : ∀ y ∈ (k, f) :: others, y.2.overlaps i (s.path r).join = true ∧
        (y.2.finish + (s.path r).join < g.start ∨ g.finish + (s.path r).join < y.2.start) := fun y hy =>
      ⟨(hoverlapped y hy).2, hapart y.1 j y.2 g (hnot y hy) (hoverlapped y hy).1 hg'⟩
    refine merged_apart (hlawful j g hg') (fun hover => ?_) (hfrom (k, f) List.mem_cons_self)
      fun y hy => hfrom y (List.mem_cons_of_mem _ hy)
    have hin : (j, g) ∈ (k, f) :: others := hpicked ▸ List.mem_filter.mpr ⟨(hmem j g).mp hg', hover⟩
    exact hnot (j, g) hin rfl

end

theorem State.pathsLawful.takeIndication {s : State} (h : s.pathsLawful) (hs : s.reflectorsLawful) (r : Rail) :
    (takeIndication r s).pathsLawful := by
  unfold Machine.takeIndication
  split
  · next i hhead =>
    obtain ⟨rest, hin⟩ := assembler_of_head hhead
    have hdropped := path_dropAssembler hin
    have hlawful : ∀ (j : Fin 16) g, (s.path r).findings[j] = some g → g.start ≤ g.finish := fun j g hg =>
      ((hs.assembler r).1 j g hg).1.1
    obtain ⟨⟨w, hw, hapart⟩, hother⟩ := joinIndication_apart (s := dropAssembler r s) (r := r) (i := i)
      (by rw [hdropped]; exact (h r).2) (by rw [hdropped]; exact hlawful)
    refine h.of_rail r ⟨?_, hapart⟩ fun q hq => ?_
    · rw [hw, hdropped]
      exact (h r).1.assemblerTakes hin nofun w
    · rw [hother q hq, dropAssembler, path_setAssembler, if_neg hq]
  · exact h

end Sys2Proof.Machine
end

section
/-! PROOFS. Firing, the run, settings and resets keep the law of the data paths (last part of O59), and O59. -/

namespace Sys2Proof.Machine

/-! ### Firing units -/

/-- A step of a rail's firing unit in RUNNING: flight and held request moved, and what is handed on is not the drain notice. -/
def State.firesAt (r : Rail) (s t : State) : Prop :=
  (∃ held flight xs, EchoItem.drain ∉ xs ∧
      t.path r = { s.path r with held := held, flight := flight, echo := (s.path r).echo ++ xs }) ∧
    ∀ q, q ≠ r → t.path q = s.path q

theorem State.firesAt.trans {r : Rail} {s t u : State} (h : s.firesAt r t) (k : t.firesAt r u) : s.firesAt r u := by
  obtain ⟨⟨_, _, xs, hxs, ht⟩, hother⟩ := h
  obtain ⟨⟨held, flight, ys, hys, hu⟩, hother'⟩ := k
  refine ⟨⟨held, flight, xs ++ ys, RailPath.not_mem_append hxs hys, ?_⟩, fun q hq => (hother' q hq).trans (hother q hq)⟩
  rw [hu, ht, List.append_assoc]

theorem State.firesAt_of_path {r : Rail} {s t : State} (h : ∀ q, t.path q = s.path q) : s.firesAt r t :=
  ⟨⟨_, _, [], List.not_mem_nil, by rw [h r, List.append_nil]⟩, fun q _ => h q⟩

theorem setFiring_firesAt (s : State) (r : Rail) (x : FiringUnit) : s.firesAt r (s.setFiring r x) :=
  ⟨⟨x.held, x.flight, [], List.not_mem_nil, by rw [path_setFiring, if_pos rfl, List.append_nil]⟩,
    fun q hq => by rw [path_setFiring, if_neg hq]⟩

theorem toEcho_firesAt (s : State) (r : Rail) {x : EchoItem} (hx : EchoItem.drain ≠ x) : s.firesAt r (s.toEcho r x) :=
  ⟨⟨_, _, [x], by simpa using hx, by rw [path_toEcho, if_pos rfl]⟩, fun q hq => by rw [path_toEcho, if_neg hq]⟩

theorem startGroup_firesAt (s : State) (r : Rail) (q : PitchRequest) : s.firesAt r (startGroup r q s) :=
  (setFiring_firesAt s r _).trans (State.firesAt_of_path (path_setEcho_same rfl))

theorem takeRequestBound_firesAt (s : State) (r : Rail) (q : PitchRequest) : s.firesAt r (takeRequestBound r q s) := by
  unfold takeRequestBound
  dsimp only
  split
  · exact startGroup_firesAt s r q
  · split
    · exact setFiring_firesAt s r _
    · exact (setFiring_firesAt s r _).trans (State.firesAt_of_path fun _ => rfl)

theorem bindPitch_firesAt (s : State) (r : Rail) (b : Int) : s.firesAt r (bindPitch r b s) := by
  unfold bindPitch
  dsimp only
  split
  · exact State.firesAt_of_path fun _ => rfl
  · exact (setFiring_firesAt s r _).trans (takeRequestBound_firesAt _ r _)

theorem commitPlan_firesAt (s : State) (r : Rail) (staged : Plan) : s.firesAt r (commitPlan r staged s) :=
  ((State.firesAt_of_path fun _ => rfl).trans (setFiring_firesAt (s.setPlan r staged) r _)).trans (toEcho_firesAt _ r nofun)

/-- What the firing unit does in RUNNING keeps the law. -/
theorem State.pathsLawful.fires {s t : State} (h : s.pathsLawful) (hrun : s.run.state = .running) {r : Rail} (hf : s.firesAt r t) :
    t.pathsLawful := by
  obtain ⟨⟨held, flight, xs, hxs, ht⟩, hother⟩ := hf
  refine h.of_rail r ?_ hother
  rw [ht]
  exact ⟨(h r).1.fires hrun held flight hxs, (h r).2⟩

theorem State.pathsLawful.pitchEvent {s : State} (h : s.pathsLawful) (r : Rail) : (pitchEvent r s).pathsLawful := by
  unfold Machine.pitchEvent
  split
  · exact h
  · next b rest _ =>
    dsimp only
    have hdropped : ∀ q, (s.setFiring r { s.firing.get r with pitchEvents := rest }).path q = s.path q := path_setFiring_same rfl rfl
    have hs := h.of_path hdropped
    split
    · next hrun =>
      split
      · split
        · exact hs.fires hrun ((commitPlan_firesAt _ r _).trans (bindPitch_firesAt _ r b))
        · exact hs.fires hrun (bindPitch_firesAt _ r b)
      · exact hs.fires hrun (bindPitch_firesAt _ r b)
    · exact hs

/-- A group in flight completes in RUNNING or in DRAINING: in no other run state is one in flight. -/
theorem RailPath.drains.run_of_flight {v : RailPath} (h : v.drains) (hflight : v.flight ≠ none) :
    v.runState = .running ∨ v.runState = .draining := by
  by_contra hidle
  rw [not_or] at hidle
  exact hflight (((RailPath.drains_of_idle hidle).mp h).2.1.mpr nofun)

theorem State.pathsLawful.groupCompletion {s : State} (h : s.pathsLawful) (r : Rail) (l : LaneSamples) :
    (groupCompletion r l s).pathsLawful := by
  unfold Machine.groupCompletion
  split
  · exact h
  · next f hflight =>
    have hflight' : (s.path r).flight ≠ none := fun hn => nomatch hflight.symm.trans hn
    dsimp only
    generalize hx : EchoItem.completion f.position f.group ((s.advanceTo f.endTime).completed r l f) = x
    have hne : EchoItem.drain ≠ x := hx ▸ nofun
    generalize ht : ((s.advanceTo f.endTime).toEcho r x).setFiring r
      { ((s.advanceTo f.endTime).toEcho r x).firing.get r with flight := none, held := none } = t
    have hpath : t.path r = { s.path r with held := none, flight := none, echo := (s.path r).echo ++ [x] } := by
      rw [← ht, path_setFiring, if_pos rfl, path_toEcho, if_pos rfl]
      rfl
    have hother : ∀ q, q ≠ r → t.path q = s.path q := fun q hq => by
      rw [← ht, path_setFiring, if_neg hq, path_toEcho, if_neg hq]
      rfl
    have hfires : s.firesAt r t := ⟨⟨none, none, [x], by simpa using hne, hpath⟩, hother⟩
    rcases (h r).1.run_of_flight hflight' with hrun | hrun
    · have hsend : sendDrainNotice r t = t := if_neg fun hd => by
        have hstate : t.run.state = .running := (congrArg RailPath.runState hpath).trans hrun
        cases hstate.symm.trans hd.1
      split
      · exact h.fires hrun (hfires.trans (startGroup_firesAt t r _))
      · rw [hsend]
        exact h.fires hrun hfires
    · obtain ⟨p, hp⟩ := (RailPath.drains_of_draining hrun).mp (h r).1
      have hheld : (((s.advanceTo f.endTime).toEcho r x).firing.get r).held = none := hp.1
      have hsend : sendDrainNotice r t = t.toEcho r .drain :=
        if_pos ⟨(congrArg RailPath.runState hpath).trans hrun, congrArg RailPath.flight hpath⟩
      split
      · next q hq => cases hheld.symm.trans hq
      · rw [hsend]
        refine h.of_rail r ?_ fun q hq => by rw [path_toEcho, if_neg hq, hother q hq]
        rw [path_toEcho, if_pos rfl, hpath]
        exact ⟨(h r).1.completes hrun hflight' hne, (h r).2⟩

/-! ### The run -/

theorem path_startRun {s : State} (hrun : s.run.state = .stopped) (q : Rail) :
    (startRun s).path q = { s.path q with runState := .running, held := none, flight := none } := by
  rw [startRun_eq hrun]
  cases q <;> rfl

theorem path_stopRun {s : State} (hrun : s.run.state = .running) (q : Rail) :
    (stopRun s).path q =
      { s.path q with
        runState := .draining, drained := false, held := none,
        echo := (s.path q).echo ++ if (s.path q).flight = none then [.drain] else [] } := by
  rw [stopRun_eq hrun fun _ _ => rfl]
  cases q <;> rfl

/-- In STOPPED nothing of a run is left on either path. -/
theorem State.pathsLawful.at_rest {s : State} (h : s.pathsLawful) (hr : s.run.state ≠ .running) (hd : s.run.state ≠ .draining)
    (q : Rail) : (s.path q).standsAt .drained :=
  (RailPath.drains_of_idle ⟨hr, hd⟩).mp (h q).1

theorem State.pathsLawful.startRun {s : State} (h : s.pathsLawful) (hrun : s.run.state = .stopped) : (startRun s).pathsLawful :=
  fun q => by
    rw [path_startRun hrun]
    exact ⟨(h.at_rest (by simp [hrun]) (by simp [hrun]) q).starts, (h q).2⟩

theorem State.pathsLawful.stopRun {s : State} (h : s.pathsLawful) (hrun : s.run.state = .running) : (stopRun s).pathsLawful :=
  fun q => by
    rw [path_stopRun hrun]
    exact ⟨(h q).1.stops hrun, (h q).2⟩

/-- The run moves between run states in which no run is on. -/
theorem State.pathsLawful.rests {s t : State} (h : s.pathsLawful) (hr : s.run.state ≠ .running) (hd : s.run.state ≠ .draining)
    {st : RunState} (hr' : st ≠ .running) (hd' : st ≠ .draining) (ht : ∀ q, t.path q = { s.path q with runState := st }) :
    t.pathsLawful := fun q => by
  rw [ht q]
  exact ⟨(h.at_rest hr hd q).rests hr' hd' _, (h q).2⟩

theorem State.pathsLawful.railDrained {s : State} (h : s.pathsLawful) (r : Rail) : (railDrained r s).pathsLawful := by
  unfold Machine.railDrained
  split
  · next hdrain =>
    obtain ⟨hrun, hnotice⟩ := hdrain
    dsimp only
    generalize ht : s.setRun
      { s.run with drained := s.run.drained.set r true, drainNotices := s.run.drainNotices.set r false } = t
    have hpath : t.path r = { s.path r with notice := false, drained := true } := by
      rw [← ht]
      cases r <;> rfl
    have hother : ∀ q, q ≠ r → t.path q = s.path q := fun q hq => by
      rw [← ht, path_setRun]
      dsimp only
      rw [Rails.get_set_other _ hq, Rails.get_set_other _ hq]
      rfl
    have hstands : (t.path r).standsAt .drained := hpath ▸ (h r).1.taken hrun hnotice
    have hdraining : t.run.state = .draining := by rw [← ht]; exact hrun
    have htaken : t.pathsLawful :=
      h.of_rail r ⟨(RailPath.drains_of_draining hdraining).mpr ⟨_, hstands⟩, by rw [hpath]; exact (h r).2⟩ hother
    split
    · next hboth =>
      have hdrained : ∀ q, (t.path q).drained = true := fun q => by
        rw [Bool.and_eq_true] at hboth
        rw [← ht]
        cases q
        · exact hboth.1
        · exact hboth.2
      intro q
      rw [path_setRunState]
      exact ⟨((htaken q).1.of_drained hdraining (hdrained q)).rests (st := .stopped) nofun nofun _, (htaken q).2⟩
    · exact htaken
  · exact h

/-! ### Operations -/

theorem path_endCal (c : CalStep) (s : State) (q : Rail) : (endCal c s).path q = { s.path q with runState := .stopped } := by
  unfold endCal
  split
  · split
    · rw [path_endOperation]
      rfl
    · dsimp only
      split <;> rw [path_endOperation] <;> rfl
  · split
    · rw [path_endOperation]
      rfl
    · rw [path_endOperation]
      rfl

/-- While an operation is in flight no run is on. -/
theorem RunControl.lawful.no_run {c : RunControl} (h : c.lawful) {o : Operation} (ho : c.operation = some o) :
    c.state ≠ .running ∧ c.state ≠ .draining := by
  cases o with
  | calibration k =>
    rw [h.2.1.mpr ⟨k, ho⟩]
    decide
  | verification v =>
    rw [h.2.2.1.mpr ⟨v, ho⟩]
    decide

theorem State.pathsLawful.calFiringCompletion {s : State} (h : s.pathsLawful) (hs : s.run.lawful) (signal : List Nat) :
    (calFiringCompletion signal s).pathsLawful := by
  unfold Machine.calFiringCompletion
  split
  · next c hc =>
    split
    · exact h
    · dsimp only
      have hlanded : ∀ (t : Nat) q, ((s.advanceTo t).setFiring c.rail { s.firing.get c.rail with operationFlight := none }).path q =
          s.path q := fun t => path_setFiring_same rfl rfl
      split
      · exact h.of_path (hlanded _)
      · split
        · obtain ⟨hr, hd⟩ := hs.no_run hc
          exact h.rests hr hd (st := .stopped) nofun nofun fun q => by rw [path_endCal, hlanded]
        · exact h
  · exact h

theorem State.pathsLawful.verifyFiringCompletion {s : State} (h : s.pathsLawful) (hs : s.run.lawful) :
    (verifyFiringCompletion s).pathsLawful := by
  unfold Machine.verifyFiringCompletion
  split
  · next v hv =>
    split
    · exact h
    · dsimp only
      have hlanded : ∀ (t : Nat) q, ((s.advanceTo t).setFiring v.rail { s.firing.get v.rail with operationFlight := none }).path q =
          s.path q := fun t => path_setFiring_same rfl rfl
      split
      · exact h.of_path (hlanded _)
      · split
        · obtain ⟨hr, hd⟩ := hs.no_run hv
          exact h.rests hr hd (st := .stopped) nofun nofun fun q => by rw [path_endOperation, path_offer, hlanded]
        · exact h
  · exact h

theorem path_beginCal (c : CalStep) (s : State) (q : Rail) : (beginCal c s).path q = { s.path q with runState := .calibrating } := by
  unfold beginCal
  rw [path_startOperationFiring, path_setMode, path_setRunState]
  rfl

theorem path_beginVerify (r : Rail) (e : TestEcho) (s : State) (q : Rail) :
    (beginVerify r e s).path q = { s.path q with runState := .verifying } := by
  unfold beginVerify
  dsimp only
  split
  · rw [path_setMode, path_setRunState]
    rfl
  · rw [path_startOperationFiring, path_setMode, path_setRunState]
    rfl

/-- A calibration begins in STOPPED alone (R84). -/
theorem checkCal_stopped {r : Rail} {ch : Channel} {g : Gate} {second : Bool} {depth : Nat} {f : FlawGate} {s : State}
    (h : checkCal r ch g second depth f s = none) : s.run.state = .stopped := by
  unfold checkCal at h
  split at h
  · cases h
  · split at h
    · cases h
    · rename_i hs
      simpa [stopped_iff] using hs

/-! ### Settings -/

theorem path_applyReporting (new : ReportingSettings) (s : State) (q : Rail) : (applyReporting new s).path q = s.path q := by
  unfold applyReporting
  dsimp only
  split
  · rw [path_setSilence]
    rfl
  · rfl

theorem path_applyTravel (new : TravelSettings) (s : State) (q : Rail) : (applyTravel new s).path q = s.path q := by
  unfold applyTravel
  dsimp only
  split
  · rfl
  · split
    · rw [path_setMotion]
      rfl
    · rfl

theorem path_applySignals (new : SignalSettings) (s : State) (q : Rail) : (applySignals new s).path q = s.path q := rfl

theorem path_setEntry (s : State) (i : Fin 16) (x : Option Pattern) (q : Rail) : (s.setEntry i x).path q = s.path q := rfl

theorem path_setChannelRecord (s : State) (r : Rail) (ch : Channel) (x : ChannelRecord) (q : Rail) :
    (s.setChannelRecord r ch x).path q = s.path q := rfl

theorem path_takeChannel (r : Rail) (ch : Channel) (x : ChannelRecord) (s : State) (q : Rail) :
    (takeChannel r ch x s).path q = s.path q := by
  unfold takeChannel
  dsimp only
  split <;> rfl

theorem path_takePlan (r : Rail) (p : Plan) (s : State) (q : Rail) : (takePlan r p s).path q = s.path q := by
  unfold takePlan takePlanNow
  dsimp only
  split
  · rw [path_foldl (fun s ch => path_setCover s r ch _ q), path_foldl (fun s ch => path_setCover s r ch _ q)]
    exact (path_setFiring_same (s := s.setPlan r p) (x := { s.firing.get r with staged := none, pointer := 0 }) rfl rfl q).trans rfl
  · exact path_setFiring_same (x := { s.firing.get r with staged := some p }) rfl rfl q

theorem path_takePosition (p : Int) (s : State) (q : Rail) : (takePosition p s).path q = s.path q := by
  rw [takePosition_eq]
  cases q <;> rfl

theorem path_handPitch (s : State) (r : Rail) (bs : List Int) (q : Rail) : (s.handPitch r bs).path q = s.path q := by
  cases q <;> cases r <;> rfl

theorem path_encoderCount (e : Edge) (s : State) (q : Rail) : (encoderCount e s).path q = s.path q := by
  unfold encoderCount
  split
  · rfl
  · next sign _ =>
    have hmoved := path_setMotion (s.setTravel (s.travel.count s.setup.travel s.now sign)) (motionOf sign) q
    unfold takeCount
    dsimp only
    generalize (s.setTravel (s.travel.count s.setup.travel s.now sign)).setMotion (motionOf sign) = t at hmoved ⊢
    split
    · split <;> split <;> exact hmoved
    · rw [path_handPitch, path_handPitch]
      split <;> split <;> exact hmoved

/-- The join tolerance changes where no finding is OPEN. -/
theorem State.pathsLawful.newJoin {s t : State} (h : s.pathsLawful) (hstopped : s.run.state = .stopped) {join : Rail → Nat}
    (ht : ∀ q, t.path q = { s.path q with join := join q }) : t.pathsLawful := fun q => by
  have hstands := h.at_rest (by simp [hstopped]) (by simp [hstopped]) q
  rw [ht q]
  exact ⟨(RailPath.drains_of_idle (v := { s.path q with join := join q }) ⟨by simp [State.path, hstopped], by simp [State.path, hstopped]⟩).mpr
    hstands, RailPath.apart_of_free hstands.free⟩

theorem path_applyImage (image : Setup) (s : State) (q : Rail) :
    (applyImage image s).path q = { s.path q with join := (image.rails.get q).join } := by
  rw [applyImage_eq image s _ rfl]
  cases q <;> rfl

/-! ### Power-on and RESTART -/

/-- A path with nothing on it. -/
def RailPath.cleared (join : Nat) : RailPath :=
  { runState := .stopped, notice := false, drained := false, held := none, flight := none, echo := [], tracker := [],
    traces := Tracker.powerOn.slots, assembler := [], findings := Assembler.powerOn.slots, join := join }

theorem RailPath.cleared_lawful (join : Nat) : (RailPath.cleared join).lawful := by
  have htraces : ∀ i : Fin 32, Tracker.powerOn.slots[i] = none := fun i => by simp [Tracker.powerOn]
  have hfindings : ∀ i : Fin 16, Assembler.powerOn.slots[i] = none := fun i => by simp [Assembler.powerOn]
  exact ⟨(RailPath.drains_of_idle ⟨(nofun : RunState.stopped ≠ .running), (nofun : RunState.stopped ≠ .draining)⟩).mpr
    ⟨rfl, ⟨nofun, fun _ => rfl⟩, rfl, ⟨rfl, htraces⟩, ⟨rfl, hfindings⟩, rfl, nofun⟩, RailPath.apart_of_free hfindings⟩

theorem path_powerOn (s : State) (q : Rail) : ∃ join, (powerOn s).path q = RailPath.cleared join := by
  cases q <;> exact ⟨_, rfl⟩

theorem path_takeRestart (s : State) (q : Rail) : (takeRestart s).path q = RailPath.cleared (s.path q).join := by
  rw [takeRestart_eq]
  cases q <;> rfl

/-! ### The commands -/

theorem State.pathsLawful.reply {s : State} (h : s.pathsLawful) {f : Frame} {c : ReplyCode} {i : Nat} {p : ReplyPayload} :
    (s.reply f c i p).pathsLawful := h

/-- A request keeps the law where its effect keeps it. -/
theorem State.pathsLawful.request {s : State} (h : s.pathsLawful) {k : RequestKind} {n : Nat} {act : Frame → State → State}
    (hact : ∀ f t, t.pathsLawful → (act f t).pathsLawful) : (request k n s act).pathsLawful :=
  pathsLawful_dependsOn.kept_of_request (by simp) hact h

theorem State.pathsLawful.calChannel {s : State} (h : s.pathsLawful) (q : CalFields) (f : Frame) : (calChannel q f s).pathsLawful := by
  unfold Machine.calChannel
  dsimp only
  split
  · split
    · split
      · exact h
      · next hcheck =>
        have hstopped := checkCal_stopped hcheck
        exact h.rests (by simp [hstopped]) (by simp [hstopped]) (st := .calibrating) nofun nofun (path_beginCal _ s)
    · exact h
  · exact h

theorem State.pathsLawful.verify {s : State} (h : s.pathsLawful) (q : VerifyFields) (f : Frame) : (verify q f s).pathsLawful := by
  unfold Machine.verify
  split
  · exact h
  · split
    · exact h
    · split
      · exact h
      · next hs =>
        have hstopped : s.run.state = .stopped := by simpa [stopped_iff] using hs
        split
        · exact h
        · exact h.rests (by simp [hstopped]) (by simp [hstopped]) (st := .verifying) nofun nofun (path_beginVerify _ _ s)

theorem State.pathsLawful.setRail {s : State} (h : s.pathsLawful) (q : RailFields) (f : Frame) : (setRail q f s).pathsLawful := by
  unfold Machine.setRail
  split
  · exact h
  · next r _ =>
    dsimp only
    split
    · exact h
    · next new _ =>
      split
      · exact h
      · split
        · exact h
        · next hs =>
          by_cases hstopped : s.run.state = .stopped
          · exact h.newJoin hstopped (t := (s.setRailRecord r new).reply ..) fun _ => rfl
          · have hjoin : new.join = (s.setup.rails.get r).join := by
              have hstopped' : s.stopped = false := by simpa [State.stopped] using hstopped
              simp only [hstopped', Bool.not_false, Bool.true_and, Bool.not_eq_true', Bool.not_eq_false, Bool.and_eq_true,
                beq_iff_eq] at hs
              exact hs.1
            refine h.of_path fun q => ?_
            show { s.path q with join := ((s.setup.rails.set r new).get q).join } = s.path q
            rw [Rails.get_set_field RailSettings.join _ hjoin]
            rfl

theorem State.pathsLawful.runStart {s : State} (h : s.pathsLawful) (f : Frame) : (runStart f s).pathsLawful := by
  unfold Machine.runStart
  split
  · exact h
  · next hs =>
    have hstopped : s.run.state = .stopped := by simpa [stopped_iff] using hs
    split
    · exact h
    · split
      · exact h
      · have htaken := h.startRun hstopped
        exact htaken.reply

theorem State.pathsLawful.flush {s : State} (h : s.pathsLawful) (f : Frame) : (flush f s).pathsLawful := by
  unfold Machine.flush
  split
  · next hrun =>
    have hleft := h.fires hrun (toEcho_firesAt s .left (x := .flush) nofun)
    exact hleft.fires hrun (toEcho_firesAt (s.toEcho .left .flush) .right (x := .flush) nofun)
  · exact h

theorem State.pathsLawful.setupReload {s : State} (h : s.pathsLawful) (f : Frame) : (setupReload f s).pathsLawful := by
  unfold Machine.setupReload
  split
  · exact h
  · next hs =>
    have hstopped : s.run.state = .stopped := by simpa [stopped_iff] using hs
    split
    · exact h
    · split
      · exact h
      · next image _ =>
        have htaken : (applyImage image s).pathsLawful := h.newJoin hstopped (path_applyImage image s)
        exact htaken.reply

theorem State.pathsLawful.powerOn (s : State) : (powerOn s).pathsLawful := fun q => by
  obtain ⟨join, hjoin⟩ := path_powerOn s q
  exact hjoin ▸ RailPath.cleared_lawful join

theorem State.pathsLawful.takeRestart (s : State) : (takeRestart s).pathsLawful := fun q => by
  rw [path_takeRestart]
  exact RailPath.cleared_lawful _

theorem pathsLawful_nextState (c : Instr) (s : State) (hA : s.run.lawful ∧ s.reflectorsLawful) (h : s.pathsLawful) :
    (nextState c s).pathsLawful := by
  obtain ⟨hrun, hreflectors⟩ := hA
  cases c with
  | powerOn => exact .powerOn s
  | resetInput => exact .powerOn s
  | encoderCount e => exact h.of_path (path_encoderCount e s)
  | pitchEvent r => exact h.pitchEvent r
  | groupCompletion r l => exact h.groupCompletion r l
  | completionProcessing r => exact h.completionProcessing r
  | commitHandover r => exact h.commitHandover r
  | echoFlushNotice r => exact h.echoFlushNotice r
  | echoDrainNotice r => exact h.echoDrainNotice r
  | trackerHit r => exact h.trackerHit r
  | channelEndNotice r => exact h.channelEndNotice r
  | trackerCompletionNotice r => exact h.trackerCompletionNotice r
  | trackerCommitLeaving r => exact h.trackerCommitLeaving r
  | trackerFlushNotice r => exact h.trackerFlushNotice r
  | trackerDrainNotice r => exact h.trackerDrainNotice hreflectors r
  | indication r => exact h.takeIndication hreflectors r
  | settleCheck r => exact h.settleCheck r
  | assemblerFlushNotice r => exact h.assemblerFlushNotice r
  | assemblerDrainNotice r => exact h.assemblerDrainNotice r
  | railDrained r => exact h.railDrained r
  | calFiringStart =>
    show (calFiringStart s).pathsLawful
    unfold calFiringStart
    split
    · split
      · exact h.of_path fun q => by rw [path_startOperationFiring, path_advanceTo]
      · exact h
    · exact h
  | calFiringCompletion signal => exact h.calFiringCompletion hrun signal
  | verifyFiringStart =>
    show (verifyFiringStart s).pathsLawful
    unfold verifyFiringStart
    split
    · split
      · exact h.of_path fun q => by rw [path_startOperationFiring, path_advanceTo]
      · exact h
    · exact h
  | verifyFiringCompletion => exact h.verifyFiringCompletion hrun
  | setupSaveComplete m =>
    show (setupSaveComplete m s).pathsLawful
    unfold setupSaveComplete
    split
    · exact h
    · exact h.of_path fun _ => rfl
  | setReporting q =>
    refine h.request fun f s h => ?_
    unfold setReporting
    split
    · exact h
    · split
      · exact h
      · exact h.of_path (path_applyReporting _ s)
  | setTravel q =>
    refine h.request fun f s h => ?_
    unfold setTravel
    dsimp only
    split
    · exact h
    · split
      · exact h
      · split
        · exact h
        · exact h.of_path (path_applyTravel _ s)
  | setPosition p =>
    refine h.request fun f s h => ?_
    unfold setPosition
    split
    · exact h.of_path (path_takePosition _ s)
    · exact h
  | odoCalEnd d =>
    refine h.request fun f s h => ?_
    unfold odoCalEnd
    dsimp only
    split
    · exact h
    · split
      · exact h
      · split
        · exact h
        · split <;> exact h.of_path fun _ => rfl
  | setChannel q =>
    change (if _ then s else Machine.request _ _ s _).pathsLawful
    split
    · exact h
    · refine h.request fun f s h => ?_
      unfold setChannel
      split
      · split
        · exact h
        · exact h.of_path (path_takeChannel _ _ _ s)
      · exact h
  | stagePlan q =>
    refine h.request fun f s h => ?_
    unfold stagePlan
    split
    · exact h
    · split
      · exact h
      · split
        · exact h
        · split
          · exact h
          · exact h.of_path (path_takePlan _ _ s)
  | setRail q => exact h.request fun f _ hs => hs.setRail q f
  | setLevels q =>
    refine h.request fun f s h => ?_
    unfold setLevels
    split
    · dsimp only
      split
      · exact h
      · exact h.of_path (path_setChannelRecord s _ _ _)
    · exact h
  | snapshot =>
    refine h.request fun f s h => ?_
    unfold snapshot
    split
    · split
      · exact h
      · split
        · exact h
        · next r ch _ _ _ _ =>
          exact h.of_path (path_setEcho_same (x := { s.echo.get r with snapshot := .waiting ch }) rfl)
    · exact h
  | calChannel q => exact h.request fun f _ hs => hs.calChannel q f
  | setPattern q =>
    refine h.request fun f s h => ?_
    unfold setPattern
    split
    · exact h
    · dsimp only
      split
      · exact h
      · split
        · exact h
        · split
          · exact h
          · exact State.pathsLawful.reply (h.of_path (path_setEntry s _ _))
  | setSignals q =>
    refine h.request fun f s h => ?_
    unfold setSignals
    split
    · exact h
    · split
      · exact h
      · exact h.of_path (path_applySignals _ s)
  | runStart => exact h.request fun f _ hs => hs.runStart f
  | runStop =>
    refine h.request fun f s h => ?_
    unfold runStop
    split
    · next hrunning => exact h.stopRun hrunning
    · exact h
  | flush => exact h.request fun f _ hs => hs.flush f
  | restart =>
    refine h.request fun f s h => ?_
    unfold restart
    split
    · exact h
    · have htaken := State.pathsLawful.takeRestart s
      exact htaken.reply
  | verify q => exact h.request fun f _ hs => hs.verify q f
  | setupSave =>
    refine h.request fun f s h => ?_
    unfold setupSave
    split
    · exact h
    · split
      · exact h
      · exact h.of_path fun _ => rfl
  | setupReload => exact h.request fun f _ hs => hs.setupReload f
  | _ => exact pathsLawful_dependsOn.kept_of_command (by simp [commandParts]) h

/-- Settles O59: the drain notice keeps its place and the findings lie apart, on states whose run and tables are lawful. -/
theorem findingsStayApart : Obligations.FindingsStayApart := by
  have htables : keptByEveryStep (fun s => s.run.lawful ∧ s.reflectorsLawful) := fun s t ⟨hrun, hreflectors⟩ hst =>
    ⟨runLawful_keptByEveryStep s t hrun hst, reflectorsLawful_keptByEveryStep s t hreflectors hst⟩
  have hdepends : dependsOn [.run, .tracker .left, .tracker .right, .assembler .left, .assembler .right]
      (fun s => s.run.lawful ∧ s.reflectorsLawful) := fun s t hst ⟨hrun, hreflectors⟩ =>
    ⟨runLawful_dependsOn s t (fun p hp => hst p (by simp at hp; simp [hp])) hrun,
      reflectorsLawful_dependsOn s t (fun p hp => hst p (List.mem_cons_of_mem _ hp)) hreflectors⟩
  have hkept := keptByEveryStep_with htables hdepends (by simp) pathsLawful_dependsOn (by simp)
    (fun s h => h.of_path fun _ => rfl) pathsLawful_nextState
  intro s t hs hst
  exact (findingsLawful_iff t).mpr (hkept s t ((findingsLawful_iff s).mp hs) hst)

end Sys2Proof.Machine
end
